-- ==== Sys2Proof/Word.lean ====
section
/-!
DEFINITION. The byte of the links and the sparse table in which the part's numbered records are held.
-/

namespace Sys2Proof

/-- One byte of a frame on either link (R168). -/
abbrev Byte := BitVec 8

/-- Records by number, as (number, record) pairs. The operations and the canonical form are in
`Sys2Proof.Machine.Table`: numbers strictly rising, and no record equal to what an unlisted number holds. -/
abbrev Table (α : Type) := List (Nat × α)

end Sys2Proof
end

