-- ==== Sys2Proof/Config.lean ====
section
/-!
DEFINITION. What the manual leaves open and the model leaves free: constants without a body, so that no proof can see
what they are. A claim that holds of the model holds whatever they are.
-/

namespace Sys2Proof.Config

/-- The available amount in the reply to a granted BAR_VOID whose person has no account any more (R117 and its note
state no value). DESIGN CHOICE: free, read at the state's free index. Safe. Log entry 6. -/
opaque openAvailable : Nat → BitVec 32

/-- Which of several counts of one lane that reach their maximum in one event is named by COUNTER_SATURATED
(R59 states no order among them). DESIGN CHOICE: free, read at the state's free index. Safe. Log entry 6. -/
opaque openIdentity : Nat → Nat

/-- Whether, of two beam events of one lane that fall due together at a CONFIGURE_LANE, the outer beam's is taken first
(R42 and R45 state no order between them). DESIGN CHOICE: free, read at the state's free index. Safe. Log entry 6. -/
opaque openBeamOrder : Nat → Bool

/-- Whether a person block that is still erased passes its check, by block number. R165 tests the check of every
unlisted block unless the store is judged BLANK, and no rule says what an erased block's check gives.
DESIGN CHOICE: free. Safe. Log entry 6. What the entries of one that passes read as is log entry 25. -/
opaque erasedBlockAgrees : Nat → Bool

end Sys2Proof.Config
end

