-- ==== Sys2Proof/Syntax.lean ====
section
/-!
DEFINITION. The commands of the Eronza 6180: one constructor of `Instr` for each row of spec/opcode_table.json, and the
enumerations and request bodies they carry (chapters 1 to 11).
-/

namespace Sys2Proof

/-! ### Enumerations (section 11.8 gives their codes) -/

/-- The two links (chapter 10). -/
inductive Link | host | station
  deriving DecidableEq, Repr

/-- The class of a person (R6). -/
inductive PersonClass | guest | crew | visitor
  deriving DecidableEq, Repr

/-- Where a person stands in the tally (R7). -/
inductive Location | expected | aboard | ashore | departed
  deriving DecidableEq, Repr

/-- The direction of a permit or a passage (R50). -/
inductive Direction | inward | outward
  deriving DecidableEq, Repr

/-- The four reset causes (section 4.9, R166). -/
inductive ResetCause | powerOn | resetPin | brownOut | resetMessage
  deriving DecidableEq, Repr

/-- The kind of a service station (R24). -/
inductive StationKind | unused | bar | lane | muster
  deriving DecidableEq, Repr

/-- The mode of a lane (R38). -/
inductive LaneMode | closed | inbound | outbound | both | finalOut
  deriving DecidableEq, Repr

/-- The beam polarity of a lane (R38, R41). -/
inductive Polarity | brokenLow | brokenHigh
  deriving DecidableEq, Repr

/-- The two beams of a lane: outer on the shore side, inner on the ship side (chapter 3). -/
inductive Beam | outer | inner
  deriving DecidableEq, Repr

/-- The cause of an opening, as the door node gives it (R81). -/
inductive DoorCause | unexplained | released | egress
  deriving DecidableEq, Repr

/-- The event of a door report (R81). -/
inductive DoorEvent
  | opened (cause : DoorCause)
  | closed
  | privacyOn
  | privacyOff
  | tamper
  deriving DecidableEq, Repr

/-! ### Request bodies -/

/-- What a card presents: a card number and a card generation (section 1.1). -/
structure Card where
  number : BitVec 32
  generation : BitVec 4
  deriving DecidableEq, Repr

/-- One line of a purchase (R89). -/
structure Line where
  price : Nat
  quantity : Nat
  taxClass : Nat
  alcohol : Bool
  deriving DecidableEq, Repr

/-- The limits and flags of an account as a request carries them (R11, R18). -/
structure AccountTerms where
  creditLimit : Nat
  dailyLimit : Option Nat
  noAlcohol : Bool
  suspended : Bool
  deriving DecidableEq, Repr

/-- The body of LOAD_PERSON (R11, section 11.5). -/
structure LoadPerson where
  index : Nat
  cls : PersonClass
  generation : BitVec 4
  location : Option Location
  cabin : Option Nat
  rights : Option (Nat × Nat)
  sweep : Bool
  account : Option AccountTerms
  posted : Option Int
  deriving DecidableEq, Repr

/-- A range decoder (R1). -/
structure Decoder where
  enabled : Bool
  compare : BitVec 32
  mask : BitVec 32
  cls : PersonClass
  offset : BitVec 32
  deriving DecidableEq, Repr

/-- An entry of the station table (R24). -/
structure Station where
  kind : StationKind
  enabled : Bool
  binding : Option Nat
  deriving DecidableEq, Repr

/-- The four values that CONFIGURE_LANE replaces (R39). -/
structure LaneSetup where
  polarity : Polarity
  filterTime : Nat
  permitWindow : Nat
  blockTime : Nat
  deriving DecidableEq, Repr

/-- The four door settings (R68). -/
structure DoorSettings where
  strikeTime : Nat
  ajarTime : Nat
  lockoutThreshold : Nat
  lockoutTime : Nat
  deriving DecidableEq, Repr

/-- An outlet record (R86). -/
structure Outlet where
  enabled : Bool
  serviceRate : Nat
  taxRate0 : Nat
  taxRate1 : Nat
  taxRate2 : Nat
  taxRate3 : Nat
  alcoholAllowed : Bool
  tipsAllowed : Bool
  holdLife : Nat
  voidWindow : Nat
  deriving DecidableEq, Repr

/-- The body of DOOR_TAP (section 11.3). -/
structure DoorTap where
  cabin : Nat
  card : Card
  deriving DecidableEq, Repr

/-- The body of DOOR_REPORT (R81, section 11.3). -/
structure DoorReport where
  cabin : Nat
  event : DoorEvent
  deriving DecidableEq, Repr

/-- The body of LANE_TAP and of MUSTER_TAP (section 11.3). -/
structure StationTap where
  station : Nat
  card : Card
  deriving DecidableEq, Repr

/-- The body of BAR_SALE (R89, section 11.3). -/
structure Sale where
  station : Nat
  card : Card
  tip : Nat
  lines : List Line
  deriving DecidableEq, Repr

/-- The body of BAR_OPEN_TAB (R104, section 11.3). -/
structure OpenTab where
  station : Nat
  card : Card
  amount : Nat
  deriving DecidableEq, Repr

/-- The body of BAR_CLOSE_TAB (R106, section 11.3). -/
structure CloseTab where
  station : Nat
  slot : Nat
  tag : BitVec 8
  tip : Nat
  lines : List Line
  deriving DecidableEq, Repr

/-- The body of BAR_VOID (R116, section 11.3). -/
structure VoidCharge where
  station : Nat
  charge : Nat
  deriving DecidableEq, Repr

/-! ### Frames and commands -/

/-- A frame as it has arrived: kind, tag and body (R168, R172). -/
structure Frame where
  kind : Byte
  tag : Byte
  body : List Byte
  deriving DecidableEq, Repr

/-- The operands of a request command: the tag and the body bytes of the request that is taken (R168, R173). The kind
is the command's own. -/
structure Request where
  tag : Byte
  body : List Byte
  deriving DecidableEq, Repr

/-- The steps of the part, one constructor per row of spec/opcode_table.json. A request command is the event in which
the link controller takes that request from the head of its request queue (R173). -/
inductive Instr
  /-- PART_RESET (R163): a reset with its cause; the unit-address pins as they stand. -/
  | partReset (cause : ResetCause) (unitPins : BitVec 4)
  /-- STARTED_FRAME_START (R175). -/
  | startedFrameStart
  /-- FRAME_RECEIVED (R169): the bytes taken by the link's receiver, in order, the last completing a frame. -/
  | frameReceived (link : Link) (bytes : List Byte)
  /-- FRAME_TIMEOUT (R169). -/
  | frameTimeout (link : Link)
  /-- UNKNOWN_KIND_TAKEN (R173): the head request has a kind that is no request kind of its link. -/
  | unknownKindTaken (link : Link) (kind : Byte) (r : Request)
  /-- HOST_REPLY_START (R175). -/
  | hostReplyStart
  /-- NOTICE_FRAME_START (R148). -/
  | noticeFrameStart
  /-- CHARGE_POST_START (R121). -/
  | chargePostStart
  /-- STATION_REPLY_START (R174). -/
  | stationReplyStart
  /-- FRAME_SENT (R174, R175, R177): the last byte of the frame being sent on the link has gone. -/
  | frameSent (link : Link)
  /-- LOAD_PERSON (R11): the body of section 11.5. -/
  | loadPerson (r : Request)
  /-- READ_PERSON (R20): person index. -/
  | readPerson (r : Request)
  /-- SET_LOCATION (R15): person index, location. -/
  | setLocation (r : Request)
  /-- REISSUE_CARD (R16): person index. -/
  | reissueCard (r : Request)
  /-- ADJUST_BALANCE (R17): person index, signed delta. -/
  | adjustBalance (r : Request)
  /-- UPDATE_ACCOUNT (R18): person index, credit limit, optional daily limit, no-alcohol, charging suspended. -/
  | updateAccount (r : Request)
  /-- CLEAR_PERSON (R19): person index. -/
  | clearPerson (r : Request)
  /-- READ_TALLY (R23). -/
  | readTally (r : Request)
  /-- SET_DECODER (R1): decoder, enabled, compare value, mask, class, offset. -/
  | setDecoder (r : Request)
  /-- READ_DECODER (R1): decoder. -/
  | readDecoder (r : Request)
  /-- CONFIGURE_STATION (R24): address, kind, enabled, optional binding. -/
  | configureStation (r : Request)
  /-- READ_STATION (R24): address. -/
  | readStation (r : Request)
  /-- SET_CLOCK (R29): ship time. -/
  | setClock (r : Request)
  /-- SET_DAY_OFFSET (R30): offset. -/
  | setDayOffset (r : Request)
  /-- READ_CLOCK (R33). -/
  | readClock (r : Request)
  /-- SHIP_TIME_ADVANCE (R28). -/
  | shipTimeAdvance
  /-- CONFIGURE_LANE (R39): lane, beam polarity, filter time, permit window, block time. -/
  | configureLane (r : Request)
  /-- SET_LANE_MODE (R40): lane, mode. -/
  | setLaneMode (r : Request)
  /-- READ_LANE (R60): lane. -/
  | readLane (r : Request)
  /-- RESET_LANE_COUNTERS (R61): lane. -/
  | resetLaneCounters (r : Request)
  /-- SET_ALL_ABOARD (R64): optional ship time. -/
  | setAllAboard (r : Request)
  /-- READ_MOVEMENTS (R63): count. -/
  | readMovements (r : Request)
  /-- BEAM_RAW_CHANGE (R42): the new level of a beam input, high or low. -/
  | beamRawChange (lane : Nat) (beam : Beam) (high : Bool)
  /-- BEAM_EVENT (R42): the beam's filter run ends. -/
  | beamEvent (lane : Nat) (beam : Beam)
  /-- BLOCK_TIMING_EXPIRY (R47). -/
  | blockTimingExpiry (lane : Nat) (beam : Beam)
  /-- LANE_TAP (R49): station, card. -/
  | laneTap (r : Request)
  /-- PERMIT_EXPIRY (R57): the lane, and the person whose permit in its queue expires. -/
  | permitExpiry (lane : Nat) (person : Nat)
  /-- ALL_ABOARD_DEADLINE_PASSED (R65). -/
  | allAboardDeadlinePassed
  /-- CONFIGURE_CABIN (R69): cabin, configured. -/
  | configureCabin (r : Request)
  /-- READ_CABIN (R70): cabin. -/
  | readCabin (r : Request)
  /-- CLEAR_LOCKOUT (R80): cabin. -/
  | clearLockout (r : Request)
  /-- SET_DOOR_SETTINGS (R68): strike time, ajar time, lockout threshold, lockout time. -/
  | setDoorSettings (r : Request)
  /-- DOOR_TAP (R71): cabin, card. -/
  | doorTap (r : Request)
  /-- STRIKE_WINDOW_END (R76). -/
  | strikeWindowEnd (cabin : Nat)
  /-- LOCKOUT_END (R79). -/
  | lockoutEnd (cabin : Nat)
  /-- DOOR_REPORT (R81): cabin, event, cause. -/
  | doorReport (r : Request)
  /-- AJAR_TIMING_END (R84). -/
  | ajarTimingEnd (cabin : Nat)
  /-- CONFIGURE_OUTLET (R87): outlet and every field of its record. -/
  | configureOutlet (r : Request)
  /-- READ_OUTLET (R87): outlet. -/
  | readOutlet (r : Request)
  /-- BAR_SALE (R95): station, card, tip, lines. -/
  | barSale (r : Request)
  /-- BAR_OPEN_TAB (R104): station, card, amount. -/
  | barOpenTab (r : Request)
  /-- BAR_CLOSE_TAB (R106): station, handle, tip, lines. -/
  | barCloseTab (r : Request)
  /-- BAR_VOID (R116): station, charge number. -/
  | barVoid (r : Request)
  /-- HOLD_EXPIRY (R108): the hold's slot. -/
  | holdExpiry (slot : Nat)
  /-- GRANT_POSTING (R119): number of entries. -/
  | grantPosting (r : Request)
  /-- READ_HOLDS (R112): person index. -/
  | readHolds (r : Request)
  /-- RELEASE_HOLD (R111): slot, tag. -/
  | releaseHold (r : Request)
  /-- READ_JOURNAL_STATUS (R118). -/
  | readJournalStatus (r : Request)
  /-- START_MUSTER (R128): muster id. -/
  | startMuster (r : Request)
  /-- END_MUSTER (R136). -/
  | endMuster (r : Request)
  /-- MUSTER_TAP (R129): station, card. -/
  | musterTap (r : Request)
  /-- MUSTER_PERSON (R134): person index, point. -/
  | musterPerson (r : Request)
  /-- READ_MUSTER (R137): start index. -/
  | readMuster (r : Request)
  /-- SET_GROUP_LEVEL (R151): group, level. -/
  | setGroupLevel (r : Request)
  /-- SET_MEMBER_ENABLE (R145): group, member, enable. -/
  | setMemberEnable (r : Request)
  /-- SET_SERVICE_LEVEL (R150): level. -/
  | setServiceLevel (r : Request)
  /-- NOTICE_DONE (R149). -/
  | noticeDone (r : Request)
  /-- ACK_NOTICE (R152): group, member. -/
  | ackNotice (r : Request)
  /-- HOST_SLEEP (R153). -/
  | hostSleep (r : Request)
  /-- STORE_REWRITE (R167). -/
  | storeRewrite (r : Request)
  /-- READ_STORE_STATUS (R167). -/
  | readStoreStatus (r : Request)
  /-- STORE_WRITE_COMPLETE (R158): the milliseconds the write took, and whether its check agrees. -/
  | storeWriteComplete (duration : Nat) (agrees : Bool)
  /-- POWER_FAIL_ASSERT (R160). -/
  | powerFailAssert
  /-- POWER_FAIL_RELEASE (R162). -/
  | powerFailRelease
  /-- IDENTIFY (R176). -/
  | identify (r : Request)
  /-- RESET (R177). -/
  | reset (r : Request)
  /-- READ_LINK_COUNTERS (R176): clear flag. -/
  | readLinkCounters (r : Request)
  /-- FRAME_START_BYTE (R169): a byte of 0xA5 is taken by the link's receiver. -/
  | frameStartByte (link : Link)
  deriving DecidableEq, Repr

end Sys2Proof
end

