-- ==== Sys2Proof/Machine/Table.lean ====
section
/-!
DEFINITION. The operations on the sparse tables that hold the part's numbered records. `d` is what an unlisted number
holds: the record's value after a reset. A table is in canonical form (`Table.wf`) when its numbers rise strictly and no
entry equals `d`, so that equal contents are equal tables.
-/

namespace Sys2Proof

/-- The record at a number. -/
def Table.read {α : Type} (d : α) : Table α → Nat → α
  | [], _ => d
  | (k', v) :: rest, k => if k' = k then v else Table.read d rest k

/-- Replaces the record at a number, keeping the canonical form. -/
def Table.write {α : Type} [DecidableEq α] (d : α) : Table α → Nat → α → Table α
  | [], k, v => if v = d then [] else [(k, v)]
  | (k', v') :: rest, k, v =>
    if k < k' then (if v = d then (k', v') :: rest else (k, v) :: (k', v') :: rest)
    else if k = k' then (if v = d then rest else (k, v) :: rest)
    else (k', v') :: Table.write d rest k v

/-- Applies a function to every listed record, dropping those that become `d`. The function must keep `d` for this to
be the change of every record. -/
def Table.mapRecords {α : Type} [DecidableEq α] (d : α) (f : α → α) (t : Table α) : Table α :=
  (t.map fun e => (e.1, f e.2)).filter fun e => decide (e.2 ≠ d)

/-- The canonical form: numbers strictly rising, no entry equal to `d`. -/
abbrev Table.wf {α : Type} (d : α) (t : Table α) : Prop :=
  t.Pairwise (fun a b => a.1 < b.1) ∧ ∀ e ∈ t, e.2 ≠ d

/-- A table written from a list of entries. -/
def Table.ofEntries {α : Type} [DecidableEq α] (d : α) (entries : List (Nat × α)) : Table α :=
  entries.foldl (fun t e => Table.write d t e.1 e.2) []

end Sys2Proof
end

