-- ==== Sys2Proof/Machine/State.lean ====
section
/-!
DEFINITION. The state of the Eronza 6180: every register, table, queue, counter, mode and pin the manual gives the part,
as plain data, and the state right after a reset.
-/

namespace Sys2Proof.Machine

/-! ### Outcomes -/

/-- Why a command stops the model: it names something the part does not have. Raised by the event commands, whose
operands come with no frame that could be answered MALFORMED. -/
inductive Fault
  /-- A beam, block timing or permit event names a lane above 3 (R38: four lanes). Safe: no such event exists. -/
  | noSuchLane
  /-- A door timing event names a cabin above 4,095 (R67). Safe: no such event exists. -/
  | noSuchCabin
  /-- HOLD_EXPIRY names a slot above 511 (R103). Safe: no such event exists. -/
  | noSuchSlot
  /-- PERMIT_EXPIRY names a person index above 8,191 (R6). Safe: no such event exists. -/
  | noSuchPerson
  /-- STORE_WRITE_COMPLETE carries a duration outside 1 to 8 milliseconds (R157). Safe: no such event exists. -/
  | noSuchDuration
  deriving DecidableEq, Repr

/-- Why a command has no meaning. -/
inductive Refusal
  /-- A row of the opcode table without a meaning, by its mnemonic; raised by `exec`'s refused arms only, of which
  there are none. Safe. -/
  | notModelled (mnemonic : String)
  deriving DecidableEq, Repr

/-! ### Results and replies -/

/-- The result codes of section 11.8. -/
inductive Result
  | granted | ok | grantedAlreadyOpen | mustered | alreadyMustered | ack
  | busy | malformed | unknownKind
  | unknownCard | outOfTable | noRecord | classMismatch | futureCard | staleCard
  | notConfigured | laneBound | powerFail | clockUnset | muster | musterActive | notActive | storeUnusable
  | laneClosed | laneBlocked | departed | wrongDirection | allAboardClosed | alreadyPermitted | permitsFull | logFull
  | lockedOut | recordIncomplete | notYourCabin | notBoarded | ashoreCard | privacy
  | outletClosed | noAccount | suspended | alcohol | overCeiling | credit | daily | journalFull | holdLimit
  | holdsFull | holdGone | wrongOutlet | notInJournal | voidWindow
  | aboard | hasPermit | hasHolds | hasUnposted | cabinFull | outOfRange
  | notInService | fixedLevel
  deriving DecidableEq, Repr

/-- One field of a reply: a number of 1, 2, 4 or 8 bytes, a signed quantity of 4 bytes, or a text (R179). -/
inductive Field
  | b1 (n : Nat)
  | b2 (n : Nat)
  | b4 (n : Nat)
  | b8 (n : Nat)
  | s4 (z : Int)
  | text (bs : List Byte)
  deriving DecidableEq, Repr

/-- A reply on the host link: the request's kind and tag, the result, and the fields that follow it (R168, R173). -/
structure HostReply where
  kind : Byte
  tag : Byte
  result : Result
  fields : List Field
  deriving DecidableEq, Repr

/-- The five computed values of a purchase (R90 to R94). -/
structure Amounts where
  subtotal : Nat
  service : Nat
  tax : Nat
  tip : Nat
  total : Nat
  deriving DecidableEq, Repr

/-- The seven optional groups of a station reply (section 11.4). -/
structure StationGroups where
  timing : Option (Nat × Bool)
  direction : Option Direction
  amounts : Option (Amounts × Bool)
  available : Option Nat
  charge : Option Nat
  handle : Option (Nat × BitVec 8)
  muster : Option (Nat × Nat × Nat)
  deriving DecidableEq, Repr

/-- A reply on the station link (section 11.4). -/
structure StationReply where
  kind : Byte
  tag : Byte
  result : Result
  groups : StationGroups
  deriving DecidableEq, Repr

/-! ### The links (chapter 10) -/

/-- A link's receiver (R169): HUNTING, or IN_FRAME with the bytes taken after the start byte and the monotonic time of
the last byte. -/
inductive Receiver
  | hunting
  | inFrame (bytes : List Byte) (lastByteAt : Nat)
  deriving DecidableEq, Repr

/-- What the two links have alike: receiver, request queue, error counter (R169 to R171). -/
structure Port where
  receiver : Receiver
  requests : List Frame
  errors : Nat
  deriving DecidableEq, Repr

/-- The frame a transmitter is sending: its bytes, and whether it is the OK reply to RESET (R175, R177). -/
structure OutFrame where
  bytes : List Byte
  resets : Bool
  deriving DecidableEq, Repr

/-- How the restore judged the control block (R164). -/
inductive Judgement | blank | controlLost | good
  deriving DecidableEq, Repr

/-- The contents of the STARTED frame (R166, section 11.7). -/
structure StartedReport where
  cause : ResetCause
  unitAddress : BitVec 4
  boot : BitVec 16
  judgement : Judgement
  orderly : Bool
  restored : Nat
  /-- Muster id, unmustered count and unrecorded count, when a muster resumed. -/
  muster : Option (Nat × Nat × Nat)
  /-- The person blocks reported lost, ascending. -/
  lost : List Nat
  unusable : Bool
  deriving DecidableEq, Repr

/-- The host link controller (R153, R171, R175, R177). -/
structure HostLink where
  port : Port
  replies : List HostReply
  sending : Option OutFrame
  /-- The STARTED frame, queued ahead of every other frame (R166). -/
  started : Option StartedReport
  /-- RESET has been taken: no further host request is taken (R177). -/
  takingStopped : Bool
  asleep : Bool
  wake : Bool
  deriving DecidableEq, Repr

/-- The station link controller (R171, R174). -/
structure StationLink where
  port : Port
  replies : List StationReply
  sending : Option OutFrame
  deriving DecidableEq, Repr

/-! ### Persons (chapter 1) -/

/-- The muster state of a person (R6). -/
inductive MusterState
  | none
  | unmustered
  | mustered (point : Nat)
  | unrecorded
  deriving DecidableEq, Repr

/-- The account of a person (R8). -/
structure Account where
  creditLimit : Nat
  dailyLimit : Option Nat
  posted : Int
  spentToday : Nat
  spentDay : Nat
  held : Nat
  unposted : Nat
  noAlcohol : Bool
  suspended : Bool
  deriving DecidableEq, Repr

/-- A RESTORED or LOADED person record (R6). An EMPTY record is the absence of one. -/
structure Person where
  /-- LOADED when true, RESTORED when false. -/
  loaded : Bool
  cls : PersonClass
  generation : BitVec 4
  location : Location
  muster : MusterState
  gatePermit : Option Nat
  cabin : Option Nat
  rights : Option (Nat × Nat)
  sweep : Bool
  account : Option Account
  deriving DecidableEq, Repr

/-! ### Time (chapter 2) -/

/-- The time unit (R27), with the monotonic time at which ship time next advances (R28, R29). -/
structure Clock where
  mono : Nat
  running : Bool
  shipTime : Nat
  nextAdvance : Nat
  dayOffset : Nat
  currentDay : Nat
  deriving DecidableEq, Repr

/-! ### Lanes (chapter 3) -/

/-- A beam of a lane: the level of its input pin, its filtered state, the end of the filter run in progress and the end
of its block timing (R41, R42, R47). -/
structure BeamState where
  high : Bool
  broken : Bool
  filterEnd : Option Nat
  blockEnd : Option Nat
  deriving DecidableEq, Repr

/-- The seven states of the passage recognizer (R45). -/
inductive Recognizer | clear | outer | inner | crossingIn | crossingOut | leavingIn | leavingOut
  deriving DecidableEq, Repr

/-- A permit (R51). -/
structure Permit where
  person : Nat
  direction : Direction
  issued : Nat
  expiry : Nat
  deriving DecidableEq, Repr

/-- The counts of a lane: seven counters and the occupancy accumulator (R59, R44). -/
structure LaneCounts where
  inbound : Nat
  outbound : Nat
  balks : Nat
  late : Nat
  contrary : Nat
  forced : Nat
  noShows : Nat
  occupancy : Nat
  deriving DecidableEq, Repr

/-- A gangway lane (R38 to R59). -/
structure Lane where
  mode : LaneMode
  setup : LaneSetup
  outer : BeamState
  inner : BeamState
  recognizer : Recognizer
  openAtStart : Option Bool
  blocked : Bool
  flapOpen : Bool
  permits : List Permit
  counts : LaneCounts
  occupiedSince : Option Nat
  saturationReported : Bool
  deriving DecidableEq, Repr

/-- The all-aboard deadline (R64). -/
inductive Deadline
  | none
  | set (time : Nat)
  | passed
  deriving DecidableEq, Repr

/-- A movement record (R62). -/
structure Movement where
  sequence : BitVec 32
  person : Nat
  lane : Nat
  direction : Direction
  location : Location
  redundant : Bool
  shipTime : Option Nat
  deriving DecidableEq, Repr

/-! ### Doors (chapter 4) -/

/-- The sweep state of a cabin (R67). -/
inductive Sweep | none | unswept | swept
  deriving DecidableEq, Repr

/-- A cabin record (R67). The lock state, the ajar timing and the lockout are held as their end times. -/
structure Cabin where
  configured : Bool
  releasedUntil : Option Nat
  sensedOpen : Bool
  ajarEnd : Option Nat
  ajarGiven : Bool
  privacy : Bool
  failures : Nat
  lockoutUntil : Option Nat
  sweep : Sweep
  occupants : Nat
  deriving DecidableEq, Repr

/-! ### Charging (chapters 5 and 6) -/

/-- An OPEN hold (R103), and whether its expiry ship time has arrived and waits to be taken (R34). -/
structure Hold where
  person : Nat
  outlet : Nat
  station : Nat
  amount : Nat
  opened : Nat
  expiry : Nat
  arrived : Bool
  deriving DecidableEq, Repr

/-- A slot of the hold table: its tag, and the hold when it is OPEN (R103). -/
structure Slot where
  tag : BitVec 8
  hold : Option Hold
  deriving DecidableEq, Repr

/-- The kind of a journal entry (R113). -/
inductive EntryKind | sale | tabClose
  deriving DecidableEq, Repr

/-- A journal entry (R113). -/
structure Entry where
  boot : BitVec 16
  charge : Nat
  unitAddress : BitVec 4
  person : Nat
  generation : BitVec 4
  outlet : Nat
  station : Nat
  kind : EntryKind
  amounts : Amounts
  shipTime : Nat
  day : Nat
  lines : List Line
  deriving DecidableEq, Repr

/-! ### Muster (chapter 7) -/

/-- The muster unit (R127). -/
structure Muster where
  active : Bool
  id : Nat
  points : Table Nat
  unrecorded : Nat
  unmustered : Nat
  unswept : Nat
  deriving DecidableEq, Repr

/-! ### Notices (chapter 8) -/

/-- A member of a notice group, named by its group and its number (R141). -/
structure MemberId where
  group : Nat
  number : Nat
  deriving DecidableEq, Repr

/-- The state of a member (R142). -/
structure Member where
  flag : Bool
  count : Nat
  detail : Nat
  enable : Bool
  deriving DecidableEq, Repr

/-- The notice unit (R141, R142, R146). The service stack has its top entry first. -/
structure Notices where
  levels : Table Nat
  pending : Table Bool
  members : Table Member
  serviceLevel : Nat
  stack : List Nat
  deriving DecidableEq, Repr

/-! ### The retention store (chapter 9) -/

/-- An occupied stored entry: the retained fields of a record (R9, R155). -/
structure StoredEntry where
  cls : PersonClass
  generation : BitVec 4
  location : Location
  mustered : Bool
  deriving DecidableEq, Repr

/-- A person block in non-volatile memory (R155): erased, failing its check, or holding its occupied entries by person
index. -/
inductive StoredBlock
  | erased
  | failing
  | entries (l : List (Nat × StoredEntry))
  deriving DecidableEq, Repr

/-- The control facts (R155). -/
structure ControlFacts where
  boot : BitVec 16
  musterActive : Bool
  musterId : Nat
  orderly : Bool
  failedList : List Nat
  unusable : Bool
  deriving DecidableEq, Repr

/-- The control block in non-volatile memory (R155, R164). -/
inductive StoredControl
  | erased
  | failing
  | written (formatRight : Bool) (facts : ControlFacts)
  deriving DecidableEq, Repr

/-- What the writer copies at a write start (R157). -/
inductive Copy
  | person (l : List (Nat × StoredEntry))
  | control (facts : ControlFacts)
  deriving DecidableEq, Repr

/-- The write in flight (R157). -/
structure Flight where
  block : Nat
  startedAt : Nat
  copy : Copy
  deriving DecidableEq, Repr

/-- The writer's freedom (R159): as usual, one last control block write owed, or no further block. -/
inductive Writer | normal | lastOwed | stopped
  deriving DecidableEq, Repr

/-- The store states (R160). -/
inductive StoreState | opened | closing | closed | reopening
  deriving DecidableEq, Repr

/-- The retention store (R155 to R162). -/
structure Store where
  /-- Non-volatile: the person blocks. -/
  blocks : Table StoredBlock
  /-- Non-volatile: the control block. -/
  control : StoredControl
  /-- Live: the present boot number. -/
  boot : BitVec 16
  /-- Live: the orderly flag. -/
  orderly : Bool
  /-- Live: the failed-block list. -/
  failedList : List Nat
  /-- Live: the unusable mark. -/
  unusable : Bool
  /-- A block FAILED while the list was full (R158). -/
  unlistedFailed : Option Nat
  dirty : List Nat
  inFlight : Option Flight
  lastWritten : Nat
  faults : Table Nat
  writer : Writer
  state : StoreState
  assertedAt : Nat
  deriving DecidableEq, Repr

/-! ### The whole -/

/-- The part's phase (R163, R166): in start-up, with the report prepared so far; started with the power-fail input at the
warning level, the store OPEN and the STARTED frame queued, and the assertion to be taken in the event after; or running. -/
inductive Phase
  | starting (report : StartedReport)
  | assertionDue
  | running
  deriving DecidableEq, Repr

/-- The state of the part and the queue of the commands that wait. -/
structure State where
  /-- The commands that wait, first in first out (the model's own). -/
  pending : List Instr
  phase : Phase
  unitAddressPins : BitVec 4
  unitAddress : BitVec 4
  /-- The power-fail warning input stands at the warning level. -/
  powerFailLevel : Bool
  clock : Clock
  decoders : Table Decoder
  persons : Table (Option Person)
  tally : Table Nat
  tallySequence : BitVec 32
  stations : Table Station
  lanes : Table Lane
  deadline : Deadline
  /-- The deadline's arrival has been told and waits to be taken (R34). -/
  deadlineArrived : Bool
  guestsReported : Bool
  movementLog : List Movement
  discardCount : Nat
  cabins : Table Cabin
  doorSettings : DoorSettings
  outlets : Table Outlet
  slots : Table Slot
  journal : List Entry
  allowance : Nat
  nextCharge : Nat
  journalFullReported : Bool
  muster : Muster
  notices : Notices
  host : HostLink
  station : StationLink
  store : Store
  /-- Where the next free value is read (the model's own, log entry 6). -/
  freeIndex : Nat
  deriving DecidableEq, Repr

/-! ### Reset values -/

/-- A decoder after a reset (R1). -/
def Decoder.reset : Decoder := { enabled := false, compare := 0, mask := 0, cls := .guest, offset := 0 }

/-- A station entry after a reset (R24). -/
def Station.reset : Station := { kind := .unused, enabled := false, binding := none }

/-- A beam after a reset. The input level is a pin: high here (DESIGN CHOICE, log entry 3), CLEAR under BROKEN_LOW. -/
def BeamState.reset : BeamState := { high := true, broken := false, filterEnd := none, blockEnd := none }

/-- A lane's counts after a reset (R59, R44). -/
def LaneCounts.zero : LaneCounts :=
  { inbound := 0, outbound := 0, balks := 0, late := 0, contrary := 0, forced := 0, noShows := 0, occupancy := 0 }

/-- A lane after a reset (R38, R43, R45, R47, R51, R52, R59). -/
def Lane.reset : Lane :=
  { mode := .closed, setup := { polarity := .brokenLow, filterTime := 20, permitWindow := 10, blockTime := 30 },
    outer := BeamState.reset, inner := BeamState.reset, recognizer := .clear, openAtStart := none, blocked := false,
    flapOpen := false, permits := [], counts := LaneCounts.zero, occupiedSince := none, saturationReported := false }

/-- A cabin record after a reset (R67). -/
def Cabin.reset : Cabin :=
  { configured := false, releasedUntil := none, sensedOpen := false, ajarEnd := none, ajarGiven := false,
    privacy := false, failures := 0, lockoutUntil := none, sweep := .none, occupants := 0 }

/-- The door settings after a reset (R68). -/
def DoorSettings.reset : DoorSettings :=
  { strikeTime := 5, ajarTime := 120, lockoutThreshold := 5, lockoutTime := 300 }

/-- An outlet record after a reset (R86). -/
def Outlet.reset : Outlet :=
  { enabled := false, serviceRate := 0, taxRate0 := 0, taxRate1 := 0, taxRate2 := 0, taxRate3 := 0,
    alcoholAllowed := false, tipsAllowed := false, holdLife := 3600, voidWindow := 300 }

/-- A slot after a reset: FREE with tag 0 (R103). -/
def Slot.reset : Slot := { tag := 0, hold := none }

/-- A notice member after a reset (R142). -/
def Member.reset : Member := { flag := false, count := 0, detail := 0, enable := true }

/-- The muster unit after a reset that resumes no muster (R127). -/
def Muster.reset : Muster := { active := false, id := 0, points := [], unrecorded := 0, unmustered := 0, unswept := 0 }

/-- The default levels of the ten groups (R141). -/
def defaultLevels : Table Nat :=
  [(0, 7), (1, 5), (2, 5), (3, 5), (4, 5), (5, 4), (6, 3), (7, 2), (8, 6), (9, 1)]

/-- The notice unit after a reset (R141, R142, R146). -/
def Notices.reset : Notices :=
  { levels := defaultLevels, pending := [], members := [], serviceLevel := 0, stack := [] }

/-- The link state both links have after a reset (R178). -/
def Port.reset : Port := { receiver := .hunting, requests := [], errors := 0 }

/-- The host link after a reset (R178). -/
def HostLink.reset : HostLink :=
  { port := Port.reset, replies := [], sending := none, started := none, takingStopped := false, asleep := false,
    wake := false }

/-- The station link after a reset (R178). -/
def StationLink.reset : StationLink := { port := Port.reset, replies := [], sending := none }

/-- The time unit after a reset (R27). -/
def Clock.reset : Clock :=
  { mono := 0, running := false, shipTime := 0, nextAdvance := 0, dayOffset := 0, currentDay := 0 }

/-- The control facts that step 4 of start-up writes on a blank store (R166). -/
def blankFacts : ControlFacts :=
  { boot := 1, musterActive := false, musterId := 0, orderly := false, failedList := [], unusable := false }

/-- The store right after the reset of a part whose non-volatile memory is erased throughout: judged BLANK, all 128
person blocks dirty, the step 4 control block write in flight (R164, R166). -/
def Store.reset : Store :=
  { blocks := [], control := .erased, boot := 1, orderly := false, failedList := [], unusable := false,
    unlistedFailed := none, dirty := List.range 128,
    inFlight := some { block := 128, startedAt := 0, copy := .control blankFacts },
    lastWritten := 127, faults := [], writer := .normal, state := .opened, assertedAt := 0 }

/-- The report prepared by the start-up of a blank part (R166). -/
def StartedReport.blank : StartedReport :=
  { cause := .powerOn, unitAddress := 0, boot := 1, judgement := .blank, orderly := false, restored := 0,
    muster := none, lost := [], unusable := false }

/-- The part right after a power-on reset, its non-volatile memory erased (DESIGN CHOICE, log entries 2 and 3): steps 1
to 3 of start-up are done and the control block of step 4 is being written (R163 to R166). -/
def State.reset : State :=
  { pending := [], phase := .starting StartedReport.blank, unitAddressPins := 0, unitAddress := 0,
    powerFailLevel := false, clock := Clock.reset, decoders := [], persons := [], tally := [], tallySequence := 0,
    stations := [], lanes := [], deadline := .none, deadlineArrived := false, guestsReported := false,
    movementLog := [], discardCount := 0, cabins := [], doorSettings := DoorSettings.reset, outlets := [], slots := [],
    journal := [], allowance := 0, nextCharge := 1, journalFullReported := false, muster := Muster.reset,
    notices := Notices.reset, host := HostLink.reset, station := StationLink.reset, store := Store.reset,
    freeIndex := 0 }

end Sys2Proof.Machine
end

