-- ==== Sys2Proof/Machine/Flags.lean ====
section
/-!
DEFINITION. The notice flags: how an event acts on a member, its group's pending flag and the wake output (R141 to R144,
R153), and which group is deliverable (R147).
-/

namespace Sys2Proof.Machine

/-! ### The members (R141) -/

/-- ALARM 0. -/
def MemberId.doorForced : MemberId := ⟨0, 0⟩
/-- ALARM 1. -/
def MemberId.doorTamper : MemberId := ⟨0, 1⟩
/-- ALARM 2. -/
def MemberId.laneForced : MemberId := ⟨0, 2⟩
/-- LANE0 to LANE3, member 0. -/
def MemberId.blocked (lane : Nat) : MemberId := ⟨1 + lane, 0⟩
/-- LANE0 to LANE3, member 1. -/
def MemberId.late (lane : Nat) : MemberId := ⟨1 + lane, 1⟩
/-- LANE0 to LANE3, member 2. -/
def MemberId.contrary (lane : Nat) : MemberId := ⟨1 + lane, 2⟩
/-- LANE0 to LANE3, member 3. -/
def MemberId.counterSaturated (lane : Nat) : MemberId := ⟨1 + lane, 3⟩
/-- TALLY 0. -/
def MemberId.allAboardReached : MemberId := ⟨5, 0⟩
/-- TALLY 1. -/
def MemberId.allGuestsAboard : MemberId := ⟨5, 1⟩
/-- TALLY 2. -/
def MemberId.tallyCorrected : MemberId := ⟨5, 2⟩
/-- TALLY 3. -/
def MemberId.movementWaiting : MemberId := ⟨5, 3⟩
/-- TALLY 4. -/
def MemberId.movementLogFull : MemberId := ⟨5, 4⟩
/-- DOOR 0. -/
def MemberId.doorAjar : MemberId := ⟨6, 0⟩
/-- DOOR 1. -/
def MemberId.doorLockout : MemberId := ⟨6, 1⟩
/-- DOOR 2. -/
def MemberId.ashoreCard : MemberId := ⟨6, 2⟩
/-- CHARGE 0. -/
def MemberId.chargeWaiting : MemberId := ⟨7, 0⟩
/-- CHARGE 1. -/
def MemberId.postingDrained : MemberId := ⟨7, 1⟩
/-- CHARGE 2. -/
def MemberId.journalFull : MemberId := ⟨7, 2⟩
/-- CHARGE 3. -/
def MemberId.holdExpired : MemberId := ⟨7, 3⟩
/-- CHARGE 4. -/
def MemberId.balanceClamped : MemberId := ⟨7, 4⟩
/-- MUSTER 0. -/
def MemberId.allMustered : MemberId := ⟨8, 0⟩
/-- MUSTER 1. -/
def MemberId.allSwept : MemberId := ⟨8, 1⟩
/-- MUSTER 2. -/
def MemberId.pointMove : MemberId := ⟨8, 2⟩
/-- SYSTEM 0. -/
def MemberId.storeClosed : MemberId := ⟨9, 0⟩
/-- SYSTEM 1. -/
def MemberId.storeFault : MemberId := ⟨9, 1⟩
/-- SYSTEM 2. -/
def MemberId.storeBlockFailed : MemberId := ⟨9, 2⟩
/-- SYSTEM 3. -/
def MemberId.powerFail : MemberId := ⟨9, 3⟩
/-- SYSTEM 4. -/
def MemberId.powerRestored : MemberId := ⟨9, 4⟩
/-- SYSTEM 5. -/
def MemberId.linkError : MemberId := ⟨9, 5⟩
/-- SYSTEM 6. -/
def MemberId.unconfiguredSource : MemberId := ⟨9, 6⟩
/-- SYSTEM 7. -/
def MemberId.futureCard : MemberId := ⟨9, 7⟩
/-- SYSTEM 8. -/
def MemberId.dayAdvanced : MemberId := ⟨9, 8⟩

/-- Where a member stands in the table of members. -/
def MemberId.key (m : MemberId) : Nat := 16 * m.group + m.number

/-! ### Reading the notice unit -/

/-- A member's state. -/
def Notices.member (n : Notices) (m : MemberId) : Member := n.members.read Member.reset m.key

/-- A group's pending flag. -/
def Notices.isPending (n : Notices) (group : Nat) : Bool := n.pending.read false group

/-- A group's level. -/
def Notices.level (n : Notices) (group : Nat) : Nat := n.levels.read 0 group

/-- Replaces a member's state. -/
def Notices.putMember (n : Notices) (m : MemberId) (v : Member) : Notices :=
  { n with members := n.members.write Member.reset m.key v }

/-- Replaces a group's pending flag. -/
def Notices.putPending (n : Notices) (group : Nat) (v : Bool) : Notices :=
  { n with pending := n.pending.write false group v }

/-! ### A member's event -/

/-- A member after its event: the count rises, saturating at 255; at a flag rise the detail is captured (R143). -/
def Member.afterEvent (m : Member) (detail : Nat) : Member :=
  { flag := true, count := min (m.count + 1) 255, detail := if m.flag then m.detail else detail, enable := m.enable }

/-- The notice unit after a member's event: a flag rise of an enabled member makes its group pending (R143, R144). -/
def Notices.raise (n : Notices) (m : MemberId) (detail : Nat) : Notices :=
  let old := n.member m
  (n.putMember m (old.afterEvent detail)).putPending m.group (n.isPending m.group || (!old.flag && old.enable))

/-- Raises a member when the condition holds. A flag rise while the host is ASLEEP asserts the wake output, whether or
not the member is enabled (R153). -/
def State.raiseWhen (c : Bool) (m : MemberId) (detail : Nat) (s : State) : State :=
  { s with
    notices := if c then s.notices.raise m detail else s.notices
    host := { s.host with wake := s.host.wake || (c && s.host.asleep && !(s.notices.member m).flag) } }

/-- Raises a member's event. -/
def State.raise (m : MemberId) (detail : Nat) (s : State) : State := s.raiseWhen true m detail

/-! ### Delivery (R147) -/

/-- A group is deliverable: pending, its level above 0 and above the service level unless it is ALARM, room on the
stack, and the host not asleep. -/
def State.deliverable (s : State) (group : Nat) : Bool :=
  s.notices.isPending group && decide (0 < s.notices.level group)
    && (decide (s.notices.serviceLevel < s.notices.level group) || group == 0)
    && decide (s.notices.stack.length < 4) && !s.host.asleep

/-- Of two groups, the first numbered lower, the one the arbiter prefers: the higher level, then the lower number. -/
def Notices.preferred (n : Notices) (best : Option Nat) (group : Nat) : Option Nat :=
  match best with
  | none => some group
  | some b => if n.level b < n.level group then some group else some b

/-- The group the notice arbiter chooses, if any is deliverable. -/
def State.chosenGroup (s : State) : Option Nat :=
  ((List.range 10).filter s.deliverable).foldl s.notices.preferred none

end Sys2Proof.Machine
end

