-- ==== Sys2Proof/Decode.lean ====
section
/-!
DEFINITION. The byte layouts of the request bodies (chapter 11): for every request kind a decoder that is total on any
bytes and answers `none` where R173 makes the request MALFORMED, and beside it the encoder of the same layout.
The opcode table gives its rows no bits, so `decodeTableWord` reads no command.
-/

namespace Sys2Proof

/-- The table gives no row any bits: no word spells a command. -/
def decodeTableWord (_nbits _w : Nat) : Option Instr := none

/-- The request kinds of a link (sections 10.5, 11.8). -/
def isRequestKind : Link → Byte → Bool
  | .station, k => decide (1 ≤ k.toNat) && decide (k.toNat ≤ 8)
  | .host, k =>
    let n := k.toNat
    decide (0x20 ≤ n ∧ n ≤ 0x2B) || decide (0x30 ≤ n ∧ n ≤ 0x32) || decide (0x38 ≤ n ∧ n ≤ 0x3D)
      || decide (0x40 ≤ n ∧ n ≤ 0x43) || decide (0x48 ≤ n ∧ n ≤ 0x49) || decide (0x50 ≤ n ∧ n ≤ 0x53)
      || decide (0x58 ≤ n ∧ n ≤ 0x5B) || decide (0x60 ≤ n ∧ n ≤ 0x65) || decide (0x68 ≤ n ∧ n ≤ 0x69)
      || decide (0x70 ≤ n ∧ n ≤ 0x72)

/-! ### Commands and frames (section 11.8) -/

/-- The command that takes a frame from the head of the host request queue: the request of its kind, or the taking of an
unknown kind (R173). -/
def hostCommand (f : Frame) : Instr :=
  match f.kind.toNat with
  | 0x20 => .loadPerson ⟨f.tag, f.body⟩
  | 0x21 => .readPerson ⟨f.tag, f.body⟩
  | 0x22 => .setLocation ⟨f.tag, f.body⟩
  | 0x23 => .reissueCard ⟨f.tag, f.body⟩
  | 0x24 => .adjustBalance ⟨f.tag, f.body⟩
  | 0x25 => .updateAccount ⟨f.tag, f.body⟩
  | 0x26 => .clearPerson ⟨f.tag, f.body⟩
  | 0x27 => .readTally ⟨f.tag, f.body⟩
  | 0x28 => .setDecoder ⟨f.tag, f.body⟩
  | 0x29 => .readDecoder ⟨f.tag, f.body⟩
  | 0x2A => .configureStation ⟨f.tag, f.body⟩
  | 0x2B => .readStation ⟨f.tag, f.body⟩
  | 0x30 => .setClock ⟨f.tag, f.body⟩
  | 0x31 => .setDayOffset ⟨f.tag, f.body⟩
  | 0x32 => .readClock ⟨f.tag, f.body⟩
  | 0x38 => .configureLane ⟨f.tag, f.body⟩
  | 0x39 => .setLaneMode ⟨f.tag, f.body⟩
  | 0x3A => .readLane ⟨f.tag, f.body⟩
  | 0x3B => .resetLaneCounters ⟨f.tag, f.body⟩
  | 0x3C => .setAllAboard ⟨f.tag, f.body⟩
  | 0x3D => .readMovements ⟨f.tag, f.body⟩
  | 0x40 => .configureCabin ⟨f.tag, f.body⟩
  | 0x41 => .readCabin ⟨f.tag, f.body⟩
  | 0x42 => .clearLockout ⟨f.tag, f.body⟩
  | 0x43 => .setDoorSettings ⟨f.tag, f.body⟩
  | 0x48 => .configureOutlet ⟨f.tag, f.body⟩
  | 0x49 => .readOutlet ⟨f.tag, f.body⟩
  | 0x50 => .grantPosting ⟨f.tag, f.body⟩
  | 0x51 => .readHolds ⟨f.tag, f.body⟩
  | 0x52 => .releaseHold ⟨f.tag, f.body⟩
  | 0x53 => .readJournalStatus ⟨f.tag, f.body⟩
  | 0x58 => .startMuster ⟨f.tag, f.body⟩
  | 0x59 => .endMuster ⟨f.tag, f.body⟩
  | 0x5A => .musterPerson ⟨f.tag, f.body⟩
  | 0x5B => .readMuster ⟨f.tag, f.body⟩
  | 0x60 => .setGroupLevel ⟨f.tag, f.body⟩
  | 0x61 => .setMemberEnable ⟨f.tag, f.body⟩
  | 0x62 => .setServiceLevel ⟨f.tag, f.body⟩
  | 0x63 => .noticeDone ⟨f.tag, f.body⟩
  | 0x64 => .ackNotice ⟨f.tag, f.body⟩
  | 0x65 => .hostSleep ⟨f.tag, f.body⟩
  | 0x68 => .storeRewrite ⟨f.tag, f.body⟩
  | 0x69 => .readStoreStatus ⟨f.tag, f.body⟩
  | 0x70 => .identify ⟨f.tag, f.body⟩
  | 0x71 => .reset ⟨f.tag, f.body⟩
  | 0x72 => .readLinkCounters ⟨f.tag, f.body⟩
  | _ => .unknownKindTaken .host f.kind ⟨f.tag, f.body⟩

/-- The command that takes a frame from the head of the station intake queue (R173). -/
def stationCommand (f : Frame) : Instr :=
  match f.kind.toNat with
  | 0x01 => .doorTap ⟨f.tag, f.body⟩
  | 0x02 => .doorReport ⟨f.tag, f.body⟩
  | 0x03 => .laneTap ⟨f.tag, f.body⟩
  | 0x04 => .barSale ⟨f.tag, f.body⟩
  | 0x05 => .barOpenTab ⟨f.tag, f.body⟩
  | 0x06 => .barCloseTab ⟨f.tag, f.body⟩
  | 0x07 => .barVoid ⟨f.tag, f.body⟩
  | 0x08 => .musterTap ⟨f.tag, f.body⟩
  | _ => .unknownKindTaken .station f.kind ⟨f.tag, f.body⟩

/-- The command that takes a frame from the head of a link's request queue (R173). -/
def commandFor (link : Link) (f : Frame) : Instr :=
  match link with
  | .host => hostCommand f
  | .station => stationCommand f

/-- The link and the frame that a request command takes; an event takes none. -/
def Instr.request : Instr → Option (Link × Frame)
  | .partReset _ _ => none
  | .startedFrameStart => none
  | .frameReceived _ _ => none
  | .frameTimeout _ => none
  | .unknownKindTaken link kind r => some (link, ⟨kind, r.tag, r.body⟩)
  | .hostReplyStart => none
  | .noticeFrameStart => none
  | .chargePostStart => none
  | .stationReplyStart => none
  | .frameSent _ => none
  | .loadPerson r => some (.host, ⟨0x20, r.tag, r.body⟩)
  | .readPerson r => some (.host, ⟨0x21, r.tag, r.body⟩)
  | .setLocation r => some (.host, ⟨0x22, r.tag, r.body⟩)
  | .reissueCard r => some (.host, ⟨0x23, r.tag, r.body⟩)
  | .adjustBalance r => some (.host, ⟨0x24, r.tag, r.body⟩)
  | .updateAccount r => some (.host, ⟨0x25, r.tag, r.body⟩)
  | .clearPerson r => some (.host, ⟨0x26, r.tag, r.body⟩)
  | .readTally r => some (.host, ⟨0x27, r.tag, r.body⟩)
  | .setDecoder r => some (.host, ⟨0x28, r.tag, r.body⟩)
  | .readDecoder r => some (.host, ⟨0x29, r.tag, r.body⟩)
  | .configureStation r => some (.host, ⟨0x2A, r.tag, r.body⟩)
  | .readStation r => some (.host, ⟨0x2B, r.tag, r.body⟩)
  | .setClock r => some (.host, ⟨0x30, r.tag, r.body⟩)
  | .setDayOffset r => some (.host, ⟨0x31, r.tag, r.body⟩)
  | .readClock r => some (.host, ⟨0x32, r.tag, r.body⟩)
  | .shipTimeAdvance => none
  | .configureLane r => some (.host, ⟨0x38, r.tag, r.body⟩)
  | .setLaneMode r => some (.host, ⟨0x39, r.tag, r.body⟩)
  | .readLane r => some (.host, ⟨0x3A, r.tag, r.body⟩)
  | .resetLaneCounters r => some (.host, ⟨0x3B, r.tag, r.body⟩)
  | .setAllAboard r => some (.host, ⟨0x3C, r.tag, r.body⟩)
  | .readMovements r => some (.host, ⟨0x3D, r.tag, r.body⟩)
  | .beamRawChange _ _ _ => none
  | .beamEvent _ _ => none
  | .blockTimingExpiry _ _ => none
  | .laneTap r => some (.station, ⟨0x03, r.tag, r.body⟩)
  | .permitExpiry _ _ => none
  | .allAboardDeadlinePassed => none
  | .configureCabin r => some (.host, ⟨0x40, r.tag, r.body⟩)
  | .readCabin r => some (.host, ⟨0x41, r.tag, r.body⟩)
  | .clearLockout r => some (.host, ⟨0x42, r.tag, r.body⟩)
  | .setDoorSettings r => some (.host, ⟨0x43, r.tag, r.body⟩)
  | .doorTap r => some (.station, ⟨0x01, r.tag, r.body⟩)
  | .strikeWindowEnd _ => none
  | .lockoutEnd _ => none
  | .doorReport r => some (.station, ⟨0x02, r.tag, r.body⟩)
  | .ajarTimingEnd _ => none
  | .configureOutlet r => some (.host, ⟨0x48, r.tag, r.body⟩)
  | .readOutlet r => some (.host, ⟨0x49, r.tag, r.body⟩)
  | .barSale r => some (.station, ⟨0x04, r.tag, r.body⟩)
  | .barOpenTab r => some (.station, ⟨0x05, r.tag, r.body⟩)
  | .barCloseTab r => some (.station, ⟨0x06, r.tag, r.body⟩)
  | .barVoid r => some (.station, ⟨0x07, r.tag, r.body⟩)
  | .holdExpiry _ => none
  | .grantPosting r => some (.host, ⟨0x50, r.tag, r.body⟩)
  | .readHolds r => some (.host, ⟨0x51, r.tag, r.body⟩)
  | .releaseHold r => some (.host, ⟨0x52, r.tag, r.body⟩)
  | .readJournalStatus r => some (.host, ⟨0x53, r.tag, r.body⟩)
  | .startMuster r => some (.host, ⟨0x58, r.tag, r.body⟩)
  | .endMuster r => some (.host, ⟨0x59, r.tag, r.body⟩)
  | .musterTap r => some (.station, ⟨0x08, r.tag, r.body⟩)
  | .musterPerson r => some (.host, ⟨0x5A, r.tag, r.body⟩)
  | .readMuster r => some (.host, ⟨0x5B, r.tag, r.body⟩)
  | .setGroupLevel r => some (.host, ⟨0x60, r.tag, r.body⟩)
  | .setMemberEnable r => some (.host, ⟨0x61, r.tag, r.body⟩)
  | .setServiceLevel r => some (.host, ⟨0x62, r.tag, r.body⟩)
  | .noticeDone r => some (.host, ⟨0x63, r.tag, r.body⟩)
  | .ackNotice r => some (.host, ⟨0x64, r.tag, r.body⟩)
  | .hostSleep r => some (.host, ⟨0x65, r.tag, r.body⟩)
  | .storeRewrite r => some (.host, ⟨0x68, r.tag, r.body⟩)
  | .readStoreStatus r => some (.host, ⟨0x69, r.tag, r.body⟩)
  | .storeWriteComplete _ _ => none
  | .powerFailAssert => none
  | .powerFailRelease => none
  | .identify r => some (.host, ⟨0x70, r.tag, r.body⟩)
  | .reset r => some (.host, ⟨0x71, r.tag, r.body⟩)
  | .readLinkCounters r => some (.host, ⟨0x72, r.tag, r.body⟩)
  | .frameStartByte _ => none

/-! ### Fields (R179): least significant byte first -/

/-- The `n` bytes of a number, least significant first. -/
def natBytes : Nat → Nat → List Byte
  | 0, _ => []
  | n + 1, v => BitVec.ofNat 8 v :: natBytes n (v / 256)

/-- Reads a number of `n` bytes, least significant first. -/
def takeNat : Nat → List Byte → Option (Nat × List Byte)
  | 0, bs => some (0, bs)
  | _ + 1, [] => none
  | n + 1, b :: bs =>
    match takeNat n bs with
    | none => none
    | some (v, rest) => some (b.toNat + 256 * v, rest)

/-- The four bytes of a signed quantity, two's complement (R179). -/
def intBytes (z : Int) : List Byte := natBytes 4 (BitVec.ofInt 32 z).toNat

/-- Reads a signed quantity of four bytes. -/
def takeInt (bs : List Byte) : Option (Int × List Byte) := do
  let (v, bs) ← takeNat 4 bs
  some ((BitVec.ofNat 32 v).toInt, bs)

/-- A flag is one byte, 0 or 1 (R179). -/
def flagBytes (b : Bool) : List Byte := [if b then 1 else 0]

/-- Reads a flag; a byte other than 0 or 1 is not well formed (DEDUCED from R179, R173; log entry 10). -/
def takeFlag (bs : List Byte) : Option (Bool × List Byte) := do
  let (v, bs) ← takeNat 1 bs
  if v = 0 then some (false, bs) else if v = 1 then some (true, bs) else none

/-- Reads an enumerated value by its code (section 11.8). -/
def takeEnum {α : Type} (ofCode : Nat → Option α) (bs : List Byte) : Option (α × List Byte) := do
  let (v, bs) ← takeNat 1 bs
  let a ← ofCode v
  some (a, bs)

/-- An optional group stands behind a presence byte (R180). -/
def optionalBytes {α : Type} (f : α → List Byte) : Option α → List Byte
  | none => [0]
  | some a => 1 :: f a

/-- Reads an optional group behind its presence byte; any presence byte but 0 and 1 is not well formed (R180). -/
def takeOptional {α : Type} (p : List Byte → Option (α × List Byte)) (bs : List Byte) :
    Option (Option α × List Byte) := do
  let (present, bs) ← takeFlag bs
  if present then
    let (a, bs) ← p bs
    some (some a, bs)
  else some (none, bs)

/-- The whole body has been read, and the value passes its range tests (R173 test 3). -/
def whole {α : Type} (valid : α → Bool) (a : α) (rest : List Byte) : Option α :=
  if rest.isEmpty && valid a then some a else none

/-! ### Codes of the enumerations a request carries (section 11.8) -/

/-- The code of a class. -/
def PersonClass.code : PersonClass → Nat
  | .guest => 0 | .crew => 1 | .visitor => 2

/-- The class of a code. -/
def PersonClass.ofCode : Nat → Option PersonClass
  | 0 => some .guest | 1 => some .crew | 2 => some .visitor | _ => none

/-- The code of a location. -/
def Location.code : Location → Nat
  | .expected => 0 | .aboard => 1 | .ashore => 2 | .departed => 3

/-- The location of a code. -/
def Location.ofCode : Nat → Option Location
  | 0 => some .expected | 1 => some .aboard | 2 => some .ashore | 3 => some .departed | _ => none

/-- The code of a station kind. -/
def StationKind.code : StationKind → Nat
  | .unused => 0 | .bar => 1 | .lane => 2 | .muster => 3

/-- The station kind of a code. -/
def StationKind.ofCode : Nat → Option StationKind
  | 0 => some .unused | 1 => some .bar | 2 => some .lane | 3 => some .muster | _ => none

/-- The code of a lane mode. -/
def LaneMode.code : LaneMode → Nat
  | .closed => 0 | .inbound => 1 | .outbound => 2 | .both => 3 | .finalOut => 4

/-- The lane mode of a code. -/
def LaneMode.ofCode : Nat → Option LaneMode
  | 0 => some .closed | 1 => some .inbound | 2 => some .outbound | 3 => some .both | 4 => some .finalOut | _ => none

/-- The code of a beam polarity. -/
def Polarity.code : Polarity → Nat
  | .brokenLow => 0 | .brokenHigh => 1

/-- The beam polarity of a code. -/
def Polarity.ofCode : Nat → Option Polarity
  | 0 => some .brokenLow | 1 => some .brokenHigh | _ => none

/-- The event and cause bytes of a door report (section 11.8). A cause that an event does not use is 0 (R180). -/
def DoorEvent.codes : DoorEvent → Nat × Nat
  | .opened .unexplained => (0, 0)
  | .opened .released => (0, 1)
  | .opened .egress => (0, 2)
  | .closed => (1, 0)
  | .privacyOn => (2, 0)
  | .privacyOff => (3, 0)
  | .tamper => (4, 0)

/-- The door event of an event byte and a cause byte. -/
def DoorEvent.ofCodes : Nat → Nat → Option DoorEvent
  | 0, 0 => some (.opened .unexplained)
  | 0, 1 => some (.opened .released)
  | 0, 2 => some (.opened .egress)
  | 1, 0 => some .closed
  | 2, 0 => some .privacyOn
  | 3, 0 => some .privacyOff
  | 4, 0 => some .tamper
  | _, _ => none

/-! ### Ranges (section 4.2) -/

/-- The greatest ship time (section 4.2). -/
def maxShipTime : Nat := 4294967295

/-- The greatest magnitude of a posted balance, and the cap of spent today (R8). -/
def maxBalance : Nat := 99999999

/-- The greatest credit or daily limit (R8). -/
def maxLimit : Nat := 10000000

/-! ### Bodies shared by several kinds -/

/-- An empty body. -/
def decodeEmpty (bs : List Byte) : Option Unit := whole (fun _ => true) () bs

/-- The empty body. -/
def encodeEmpty : List Byte := []

/-- A body of one number of `n` bytes that must lie below `bound`. -/
def decodeNumber (n bound : Nat) (bs : List Byte) : Option Nat := do
  let (v, bs) ← takeNat n bs
  whole (fun v => decide (v < bound)) v bs

/-- A person index, 0 to 8,191. -/
def decodeIndex (bs : List Byte) : Option Nat := decodeNumber 2 8192 bs

/-- The body of a message that names a person index alone. -/
def encodeIndex (index : Nat) : List Byte := natBytes 2 index

/-- A lane, 0 to 3. -/
def decodeLane (bs : List Byte) : Option Nat := decodeNumber 1 4 bs

/-- The body of a message that names a lane alone. -/
def encodeLane (lane : Nat) : List Byte := natBytes 1 lane

/-- A cabin number, 0 to 4,095. -/
def decodeCabin (bs : List Byte) : Option Nat := decodeNumber 2 4096 bs

/-- The body of a message that names a cabin alone. -/
def encodeCabin (cabin : Nat) : List Byte := natBytes 2 cabin

/-! ### Chapter 1: persons, decoders, stations -/

/-- The account group of LOAD_PERSON and the fields of UPDATE_ACCOUNT after the index. -/
def AccountTerms.bytes (a : AccountTerms) : List Byte :=
  natBytes 4 a.creditLimit ++ optionalBytes (natBytes 4) a.dailyLimit ++ flagBytes a.noAlcohol ++ flagBytes a.suspended

/-- Reads account terms. -/
def takeTerms (bs : List Byte) : Option (AccountTerms × List Byte) := do
  let (creditLimit, bs) ← takeNat 4 bs
  let (dailyLimit, bs) ← takeOptional (takeNat 4) bs
  let (noAlcohol, bs) ← takeFlag bs
  let (suspended, bs) ← takeFlag bs
  some ({ creditLimit, dailyLimit, noAlcohol, suspended }, bs)

/-- The ranges of the limits (R8). -/
def AccountTerms.valid (a : AccountTerms) : Bool :=
  decide (a.creditLimit ≤ maxLimit) && (a.dailyLimit.all fun d => decide (d ≤ maxLimit))

/-- The magnitude of a signed balance or delta is at most 99,999,999 (R8, R17). -/
def balanceInRange (z : Int) : Bool := decide (-(maxBalance : Int) ≤ z) && decide (z ≤ (maxBalance : Int))

/-- The range tests of R10 and the combinations of R11. -/
def LoadPerson.valid (q : LoadPerson) : Bool :=
  decide (q.index < 8192)
    && (q.cabin.all fun c => decide (c < 4096))
    && (q.rights.all fun r => decide (r.1 ≤ r.2) && decide (r.2 < 4096))
    && (q.account.all AccountTerms.valid)
    && (q.posted.all balanceInRange)
    && !(q.cabin.isSome && decide (q.cls = .visitor))
    && !(q.rights.isSome && decide (q.cls ≠ .crew))
    && !(q.sweep && decide (q.cls ≠ .crew))
    && !(q.posted.isSome && q.account.isNone)

/-- A card or record generation is one byte, 0 to 15 (section 1.1). -/
def takeGeneration (bs : List Byte) : Option (BitVec 4 × List Byte) := do
  let (v, bs) ← takeNat 1 bs
  if v < 16 then some (BitVec.ofNat 4 v, bs) else none

/-- Two cabin numbers. -/
def takeRights (bs : List Byte) : Option ((Nat × Nat) × List Byte) := do
  let (first, bs) ← takeNat 2 bs
  let (last, bs) ← takeNat 2 bs
  some ((first, last), bs)

/-- LOAD_PERSON (section 11.5). -/
def decodeLoadPerson (bs : List Byte) : Option LoadPerson := do
  let (index, bs) ← takeNat 2 bs
  let (cls, bs) ← takeEnum PersonClass.ofCode bs
  let (generation, bs) ← takeGeneration bs
  let (location, bs) ← takeOptional (takeEnum Location.ofCode) bs
  let (cabin, bs) ← takeOptional (takeNat 2) bs
  let (rights, bs) ← takeOptional takeRights bs
  let (sweep, bs) ← takeFlag bs
  let (account, bs) ← takeOptional takeTerms bs
  let (posted, bs) ← takeOptional takeInt bs
  whole LoadPerson.valid { index, cls, generation, location, cabin, rights, sweep, account, posted } bs

/-- The bytes of LOAD_PERSON (section 11.5). -/
def LoadPerson.encode (q : LoadPerson) : List Byte :=
  natBytes 2 q.index ++ natBytes 1 q.cls.code ++ natBytes 1 q.generation.toNat
    ++ optionalBytes (fun l => natBytes 1 (Location.code l)) q.location
    ++ optionalBytes (natBytes 2) q.cabin
    ++ optionalBytes (fun r => natBytes 2 r.1 ++ natBytes 2 r.2) q.rights
    ++ flagBytes q.sweep
    ++ optionalBytes AccountTerms.bytes q.account
    ++ optionalBytes intBytes q.posted

/-- SET_LOCATION (R15): index, location. -/
def decodeSetLocation (bs : List Byte) : Option (Nat × Location) := do
  let (index, bs) ← takeNat 2 bs
  let (location, bs) ← takeEnum Location.ofCode bs
  whole (fun q => decide (q.1 < 8192)) (index, location) bs

/-- The bytes of SET_LOCATION. -/
def encodeSetLocation (index : Nat) (location : Location) : List Byte :=
  natBytes 2 index ++ natBytes 1 location.code

/-- ADJUST_BALANCE (R17): index, signed delta. -/
def decodeAdjustBalance (bs : List Byte) : Option (Nat × Int) := do
  let (index, bs) ← takeNat 2 bs
  let (delta, bs) ← takeInt bs
  whole (fun q => decide (q.1 < 8192) && balanceInRange q.2) (index, delta) bs

/-- The bytes of ADJUST_BALANCE. -/
def encodeAdjustBalance (index : Nat) (delta : Int) : List Byte := natBytes 2 index ++ intBytes delta

/-- UPDATE_ACCOUNT (R18): index, then the account terms. -/
def decodeUpdateAccount (bs : List Byte) : Option (Nat × AccountTerms) := do
  let (index, bs) ← takeNat 2 bs
  let (terms, bs) ← takeTerms bs
  whole (fun q => decide (q.1 < 8192) && q.2.valid) (index, terms) bs

/-- The bytes of UPDATE_ACCOUNT. -/
def encodeUpdateAccount (index : Nat) (terms : AccountTerms) : List Byte := natBytes 2 index ++ terms.bytes

/-- SET_DECODER (R1): decoder, enabled, compare value, mask, class, offset. -/
def decodeSetDecoder (bs : List Byte) : Option (Nat × Decoder) := do
  let (number, bs) ← takeNat 1 bs
  let (enabled, bs) ← takeFlag bs
  let (compare, bs) ← takeNat 4 bs
  let (mask, bs) ← takeNat 4 bs
  let (cls, bs) ← takeEnum PersonClass.ofCode bs
  let (offset, bs) ← takeNat 4 bs
  whole (fun q => decide (q.1 < 8))
    (number, { enabled, compare := BitVec.ofNat 32 compare, mask := BitVec.ofNat 32 mask, cls,
               offset := BitVec.ofNat 32 offset }) bs

/-- The bytes of SET_DECODER. -/
def encodeSetDecoder (number : Nat) (d : Decoder) : List Byte :=
  natBytes 1 number ++ flagBytes d.enabled ++ natBytes 4 d.compare.toNat ++ natBytes 4 d.mask.toNat
    ++ natBytes 1 d.cls.code ++ natBytes 4 d.offset.toNat

/-- READ_DECODER (R1): decoder. -/
def decodeReadDecoder (bs : List Byte) : Option Nat := decodeNumber 1 8 bs

/-- The bytes of READ_DECODER. -/
def encodeReadDecoder (number : Nat) : List Byte := natBytes 1 number

/-- The binding rules of R24: none with UNUSED; an outlet, a lane or a point in its range with the used kinds. -/
def Station.valid (e : Station) : Bool :=
  match e.kind, e.binding with
  | .unused, none => true
  | .unused, some _ => false
  | _, none => false
  | .bar, some b => decide (b < 32)
  | .lane, some b => decide (b < 4)
  | .muster, some b => decide (b < 32)

/-- CONFIGURE_STATION (R24): address, kind, enabled, optional binding. -/
def decodeConfigureStation (bs : List Byte) : Option (Nat × Station) := do
  let (address, bs) ← takeNat 1 bs
  let (kind, bs) ← takeEnum StationKind.ofCode bs
  let (enabled, bs) ← takeFlag bs
  let (binding, bs) ← takeOptional (takeNat 1) bs
  whole (fun q => decide (q.1 < 128) && q.2.valid) (address, { kind, enabled, binding }) bs

/-- The bytes of CONFIGURE_STATION. -/
def encodeConfigureStation (address : Nat) (e : Station) : List Byte :=
  natBytes 1 address ++ natBytes 1 e.kind.code ++ flagBytes e.enabled ++ optionalBytes (natBytes 1) e.binding

/-- READ_STATION (R24): address. -/
def decodeReadStation (bs : List Byte) : Option Nat := decodeNumber 1 128 bs

/-- The bytes of READ_STATION. -/
def encodeReadStation (address : Nat) : List Byte := natBytes 1 address

/-! ### Chapter 2: ship time -/

/-- SET_CLOCK (R29): ship time. SET_DAY_OFFSET (R30) has the same layout; its value is clamped, not malformed. -/
def decodeTime (bs : List Byte) : Option Nat := decodeNumber 4 4294967296 bs

/-- The bytes of SET_CLOCK and of SET_DAY_OFFSET. -/
def encodeTime (t : Nat) : List Byte := natBytes 4 t

/-! ### Chapter 3: lanes -/

/-- CONFIGURE_LANE (R39): lane, polarity, filter time, permit window, block time. Out-of-range times are clamped by
the gate unit. -/
def decodeConfigureLane (bs : List Byte) : Option (Nat × LaneSetup) := do
  let (lane, bs) ← takeNat 1 bs
  let (polarity, bs) ← takeEnum Polarity.ofCode bs
  let (filterTime, bs) ← takeNat 1 bs
  let (permitWindow, bs) ← takeNat 1 bs
  let (blockTime, bs) ← takeNat 2 bs
  whole (fun q => decide (q.1 < 4)) (lane, { polarity, filterTime, permitWindow, blockTime }) bs

/-- The bytes of CONFIGURE_LANE. -/
def encodeConfigureLane (lane : Nat) (u : LaneSetup) : List Byte :=
  natBytes 1 lane ++ natBytes 1 u.polarity.code ++ natBytes 1 u.filterTime ++ natBytes 1 u.permitWindow
    ++ natBytes 2 u.blockTime

/-- SET_LANE_MODE (R40): lane, mode. -/
def decodeSetLaneMode (bs : List Byte) : Option (Nat × LaneMode) := do
  let (lane, bs) ← takeNat 1 bs
  let (mode, bs) ← takeEnum LaneMode.ofCode bs
  whole (fun q => decide (q.1 < 4)) (lane, mode) bs

/-- The bytes of SET_LANE_MODE. -/
def encodeSetLaneMode (lane : Nat) (mode : LaneMode) : List Byte := natBytes 1 lane ++ natBytes 1 mode.code

/-- SET_ALL_ABOARD (R64): an optional ship time. -/
def decodeSetAllAboard (bs : List Byte) : Option (Option Nat) := do
  let (time, bs) ← takeOptional (takeNat 4) bs
  whole (fun _ => true) time bs

/-- The bytes of SET_ALL_ABOARD. -/
def encodeSetAllAboard (time : Option Nat) : List Byte := optionalBytes (natBytes 4) time

/-- READ_MOVEMENTS (R63): a count of 1 to 16. -/
def decodeReadMovements (bs : List Byte) : Option Nat := do
  let (count, bs) ← takeNat 1 bs
  whole (fun n => decide (1 ≤ n) && decide (n ≤ 16)) count bs

/-- The bytes of READ_MOVEMENTS. -/
def encodeReadMovements (count : Nat) : List Byte := natBytes 1 count

/-! ### Chapter 4: doors -/

/-- CONFIGURE_CABIN (R69): cabin, configured. -/
def decodeConfigureCabin (bs : List Byte) : Option (Nat × Bool) := do
  let (cabin, bs) ← takeNat 2 bs
  let (configured, bs) ← takeFlag bs
  whole (fun q => decide (q.1 < 4096)) (cabin, configured) bs

/-- The bytes of CONFIGURE_CABIN. -/
def encodeConfigureCabin (cabin : Nat) (configured : Bool) : List Byte := natBytes 2 cabin ++ flagBytes configured

/-- SET_DOOR_SETTINGS (R68); every value is clamped by the door unit. -/
def decodeDoorSettings (bs : List Byte) : Option DoorSettings := do
  let (strikeTime, bs) ← takeNat 1 bs
  let (ajarTime, bs) ← takeNat 2 bs
  let (lockoutThreshold, bs) ← takeNat 1 bs
  let (lockoutTime, bs) ← takeNat 2 bs
  whole (fun _ => true) { strikeTime, ajarTime, lockoutThreshold, lockoutTime } bs

/-- The bytes of SET_DOOR_SETTINGS. -/
def DoorSettings.encode (d : DoorSettings) : List Byte :=
  natBytes 1 d.strikeTime ++ natBytes 2 d.ajarTime ++ natBytes 1 d.lockoutThreshold ++ natBytes 2 d.lockoutTime

/-! ### Chapters 5 and 6: outlets, holds, posting -/

/-- CONFIGURE_OUTLET (R87); rates, hold life and void window are clamped by the charge unit. -/
def decodeConfigureOutlet (bs : List Byte) : Option (Nat × Outlet) := do
  let (outlet, bs) ← takeNat 1 bs
  let (enabled, bs) ← takeFlag bs
  let (serviceRate, bs) ← takeNat 1 bs
  let (taxRate0, bs) ← takeNat 2 bs
  let (taxRate1, bs) ← takeNat 2 bs
  let (taxRate2, bs) ← takeNat 2 bs
  let (taxRate3, bs) ← takeNat 2 bs
  let (alcoholAllowed, bs) ← takeFlag bs
  let (tipsAllowed, bs) ← takeFlag bs
  let (holdLife, bs) ← takeNat 4 bs
  let (voidWindow, bs) ← takeNat 2 bs
  whole (fun q => decide (q.1 < 32))
    (outlet, { enabled, serviceRate, taxRate0, taxRate1, taxRate2, taxRate3, alcoholAllowed, tipsAllowed, holdLife,
               voidWindow }) bs

/-- The bytes of an outlet record, in CONFIGURE_OUTLET after the outlet number and in both replies. -/
def Outlet.bytes (o : Outlet) : List Byte :=
  flagBytes o.enabled ++ natBytes 1 o.serviceRate ++ natBytes 2 o.taxRate0 ++ natBytes 2 o.taxRate1
    ++ natBytes 2 o.taxRate2 ++ natBytes 2 o.taxRate3 ++ flagBytes o.alcoholAllowed ++ flagBytes o.tipsAllowed
    ++ natBytes 4 o.holdLife ++ natBytes 2 o.voidWindow

/-- The bytes of CONFIGURE_OUTLET. -/
def encodeConfigureOutlet (outlet : Nat) (o : Outlet) : List Byte := natBytes 1 outlet ++ o.bytes

/-- READ_OUTLET (R87): outlet. -/
def decodeReadOutlet (bs : List Byte) : Option Nat := decodeNumber 1 32 bs

/-- The bytes of READ_OUTLET. -/
def encodeReadOutlet (outlet : Nat) : List Byte := natBytes 1 outlet

/-- GRANT_POSTING (R119): 1 to 1,024. -/
def decodeGrantPosting (bs : List Byte) : Option Nat := do
  let (n, bs) ← takeNat 2 bs
  whole (fun n => decide (1 ≤ n) && decide (n ≤ 1024)) n bs

/-- The bytes of GRANT_POSTING. -/
def encodeGrantPosting (n : Nat) : List Byte := natBytes 2 n

/-- RELEASE_HOLD (R111): slot, tag. -/
def decodeReleaseHold (bs : List Byte) : Option (Nat × BitVec 8) := do
  let (slot, bs) ← takeNat 2 bs
  let (tag, bs) ← takeNat 1 bs
  whole (fun q => decide (q.1 < 512)) (slot, BitVec.ofNat 8 tag) bs

/-- The bytes of RELEASE_HOLD. -/
def encodeReleaseHold (slot : Nat) (tag : BitVec 8) : List Byte := natBytes 2 slot ++ natBytes 1 tag.toNat

/-! ### Chapter 7: muster -/

/-- START_MUSTER (R128): muster id. -/
def decodeMusterId (bs : List Byte) : Option Nat := decodeNumber 2 65536 bs

/-- The bytes of START_MUSTER. -/
def encodeMusterId (id : Nat) : List Byte := natBytes 2 id

/-- MUSTER_PERSON (R134): index, point. -/
def decodeMusterPerson (bs : List Byte) : Option (Nat × Nat) := do
  let (index, bs) ← takeNat 2 bs
  let (point, bs) ← takeNat 1 bs
  whole (fun q => decide (q.1 < 8192) && decide (q.2 < 32)) (index, point) bs

/-- The bytes of MUSTER_PERSON. -/
def encodeMusterPerson (index point : Nat) : List Byte := natBytes 2 index ++ natBytes 1 point

/-! ### Chapter 8: notices -/

/-- How many members each notice group has (R141). -/
def membersOfGroup : Nat → Nat
  | 0 => 3 | 1 => 4 | 2 => 4 | 3 => 4 | 4 => 4 | 5 => 5 | 6 => 3 | 7 => 5 | 8 => 3 | 9 => 9 | _ => 0

/-- SET_GROUP_LEVEL (R151): group, level. -/
def decodeSetGroupLevel (bs : List Byte) : Option (Nat × Nat) := do
  let (group, bs) ← takeNat 1 bs
  let (level, bs) ← takeNat 1 bs
  whole (fun q => decide (q.1 ≤ 9) && decide (q.2 ≤ 7)) (group, level) bs

/-- SET_MEMBER_ENABLE (R145): group, member, enable. -/
def decodeSetMemberEnable (bs : List Byte) : Option (Nat × Nat × Bool) := do
  let (group, bs) ← takeNat 1 bs
  let (member, bs) ← takeNat 1 bs
  let (enable, bs) ← takeFlag bs
  whole (fun q => decide (q.1 ≤ 9) && decide (q.2.1 < membersOfGroup q.1)) (group, member, enable) bs

/-- The bytes of SET_MEMBER_ENABLE. -/
def encodeSetMemberEnable (group member : Nat) (enable : Bool) : List Byte :=
  natBytes 1 group ++ natBytes 1 member ++ flagBytes enable

/-- SET_SERVICE_LEVEL (R150): level. -/
def decodeServiceLevel (bs : List Byte) : Option Nat := decodeNumber 1 8 bs

/-- The bytes of SET_SERVICE_LEVEL. -/
def encodeServiceLevel (level : Nat) : List Byte := natBytes 1 level

/-- ACK_NOTICE (R152): group, member. -/
def decodeAckNotice (bs : List Byte) : Option (Nat × Nat) := do
  let (group, bs) ← takeNat 1 bs
  let (member, bs) ← takeNat 1 bs
  whole (fun q => decide (q.1 ≤ 9) && decide (q.2 < membersOfGroup q.1)) (group, member) bs

/-- The bytes of a pair of one-byte fields (SET_GROUP_LEVEL, ACK_NOTICE). -/
def encodePair (a b : Nat) : List Byte := natBytes 1 a ++ natBytes 1 b

/-! ### Chapter 10: link messages -/

/-- READ_LINK_COUNTERS (R176): the clear flag. -/
def decodeClearFlag (bs : List Byte) : Option Bool := do
  let (clear, bs) ← takeFlag bs
  whole (fun _ => true) clear bs

/-- The bytes of READ_LINK_COUNTERS. -/
def encodeClearFlag (clear : Bool) : List Byte := flagBytes clear

/-! ### Station request bodies (section 11.3) -/

/-- A card: number, then generation. -/
def Card.bytes (c : Card) : List Byte := natBytes 4 c.number.toNat ++ natBytes 1 c.generation.toNat

/-- Reads a card. -/
def takeCard (bs : List Byte) : Option (Card × List Byte) := do
  let (number, bs) ← takeNat 4 bs
  let (generation, bs) ← takeGeneration bs
  some ({ number := BitVec.ofNat 32 number, generation }, bs)

/-- A purchase line: price, quantity, tax class, alcohol flag. -/
def Line.bytes (l : Line) : List Byte :=
  natBytes 4 l.price ++ natBytes 1 l.quantity ++ natBytes 1 l.taxClass ++ flagBytes l.alcohol

/-- Reads a purchase line. -/
def takeLine (bs : List Byte) : Option (Line × List Byte) := do
  let (price, bs) ← takeNat 4 bs
  let (quantity, bs) ← takeNat 1 bs
  let (taxClass, bs) ← takeNat 1 bs
  let (alcohol, bs) ← takeFlag bs
  some ({ price, quantity, taxClass, alcohol }, bs)

/-- Reads `n` purchase lines. -/
def takeLines : Nat → List Byte → Option (List Line × List Byte)
  | 0, bs => some ([], bs)
  | n + 1, bs => do
    let (l, bs) ← takeLine bs
    let (ls, bs) ← takeLines n bs
    some (l :: ls, bs)

/-- A line count and the lines (R180). -/
def linesBytes (ls : List Line) : List Byte := natBytes 1 ls.length ++ ls.flatMap Line.bytes

/-- Reads a line count and the lines. -/
def takeLineList (bs : List Byte) : Option (List Line × List Byte) := do
  let (n, bs) ← takeNat 1 bs
  takeLines n bs

/-- The ranges of a line (R89). -/
def Line.valid (l : Line) : Bool :=
  decide (l.price ≤ 99999) && decide (1 ≤ l.quantity) && decide (l.quantity ≤ 99) && decide (l.taxClass ≤ 3)

/-- A purchase has 1 to 8 lines, each in range, and a tip of at most 99,999 (R89). -/
def purchaseValid (lines : List Line) (tip : Nat) : Bool :=
  decide (1 ≤ lines.length) && decide (lines.length ≤ 8) && lines.all Line.valid && decide (tip ≤ 99999)

/-- DOOR_TAP: cabin, card. A cabin above 4,095 is answered MALFORMED (DESIGN CHOICE, log entry 10). -/
def decodeDoorTap (bs : List Byte) : Option DoorTap := do
  let (cabin, bs) ← takeNat 2 bs
  let (card, bs) ← takeCard bs
  whole (fun q => decide (q.cabin < 4096)) { cabin, card } bs

/-- The bytes of DOOR_TAP. -/
def DoorTap.encode (q : DoorTap) : List Byte := natBytes 2 q.cabin ++ q.card.bytes

/-- DOOR_REPORT: cabin, event, cause. -/
def decodeDoorReport (bs : List Byte) : Option DoorReport := do
  let (cabin, bs) ← takeNat 2 bs
  let (e, bs) ← takeNat 1 bs
  let (c, bs) ← takeNat 1 bs
  let event ← DoorEvent.ofCodes e c
  whole (fun q => decide (q.cabin < 4096)) { cabin, event } bs

/-- The bytes of DOOR_REPORT. -/
def DoorReport.encode (q : DoorReport) : List Byte :=
  natBytes 2 q.cabin ++ natBytes 1 q.event.codes.1 ++ natBytes 1 q.event.codes.2

/-- LANE_TAP and MUSTER_TAP: station, card. A station above 127 is answered MALFORMED (DESIGN CHOICE, log entry 10). -/
def decodeStationTap (bs : List Byte) : Option StationTap := do
  let (station, bs) ← takeNat 1 bs
  let (card, bs) ← takeCard bs
  whole (fun q => decide (q.station < 128)) { station, card } bs

/-- The bytes of LANE_TAP and of MUSTER_TAP. -/
def StationTap.encode (q : StationTap) : List Byte := natBytes 1 q.station ++ q.card.bytes

/-- BAR_SALE: station, card, tip, lines. -/
def decodeSale (bs : List Byte) : Option Sale := do
  let (station, bs) ← takeNat 1 bs
  let (card, bs) ← takeCard bs
  let (tip, bs) ← takeNat 4 bs
  let (lines, bs) ← takeLineList bs
  whole (fun q => decide (q.station < 128) && purchaseValid q.lines q.tip) { station, card, tip, lines } bs

/-- The bytes of BAR_SALE. -/
def Sale.encode (q : Sale) : List Byte :=
  natBytes 1 q.station ++ q.card.bytes ++ natBytes 4 q.tip ++ linesBytes q.lines

/-- BAR_OPEN_TAB: station, card, amount of 100 to 1,000,000 cents (R104). -/
def decodeOpenTab (bs : List Byte) : Option OpenTab := do
  let (station, bs) ← takeNat 1 bs
  let (card, bs) ← takeCard bs
  let (amount, bs) ← takeNat 4 bs
  whole (fun q => decide (q.station < 128) && decide (100 ≤ q.amount) && decide (q.amount ≤ 1000000))
    { station, card, amount } bs

/-- The bytes of BAR_OPEN_TAB. -/
def OpenTab.encode (q : OpenTab) : List Byte := natBytes 1 q.station ++ q.card.bytes ++ natBytes 4 q.amount

/-- BAR_CLOSE_TAB: station, slot, tag, tip, lines (R106). -/
def decodeCloseTab (bs : List Byte) : Option CloseTab := do
  let (station, bs) ← takeNat 1 bs
  let (slot, bs) ← takeNat 2 bs
  let (tag, bs) ← takeNat 1 bs
  let (tip, bs) ← takeNat 4 bs
  let (lines, bs) ← takeLineList bs
  whole (fun q => decide (q.station < 128) && decide (q.slot < 512) && purchaseValid q.lines q.tip)
    { station, slot, tag := BitVec.ofNat 8 tag, tip, lines } bs

/-- The bytes of BAR_CLOSE_TAB. -/
def CloseTab.encode (q : CloseTab) : List Byte :=
  natBytes 1 q.station ++ natBytes 2 q.slot ++ natBytes 1 q.tag.toNat ++ natBytes 4 q.tip ++ linesBytes q.lines

/-- BAR_VOID: station, charge number. -/
def decodeVoid (bs : List Byte) : Option VoidCharge := do
  let (station, bs) ← takeNat 1 bs
  let (charge, bs) ← takeNat 4 bs
  whole (fun q => decide (q.station < 128)) { station, charge } bs

/-- The bytes of BAR_VOID. -/
def VoidCharge.encode (q : VoidCharge) : List Byte := natBytes 1 q.station ++ natBytes 4 q.charge

end Sys2Proof
end

