-- ==== Sys2Proof/Machine/Frames.lean ====
section
/-!
DEFINITION. The frames the part sends: the envelope and its check (R168), the codes of section 11.8 and the bodies of
replies, NOTICE, CHARGE_POST and STARTED (sections 11.4 to 11.7).
-/

namespace Sys2Proof.Machine

/-! ### The envelope -/

/-- One bit of the CRC-16 with polynomial 0x1021, most significant bit first. -/
def crcShift (crc : BitVec 16) : BitVec 16 :=
  if crc.msb then (crc <<< 1) ^^^ 0x1021#16 else crc <<< 1

/-- One byte of the CRC. -/
def crcByte (crc : BitVec 16) (b : Byte) : BitVec 16 :=
  crcShift (crcShift (crcShift (crcShift (crcShift (crcShift (crcShift (crcShift
    (crc ^^^ (b.setWidth 16 <<< 8)))))))))

/-- The check of a frame over its length, kind, tag and body bytes (R168). -/
def frameCheck (bs : List Byte) : BitVec 16 := bs.foldl crcByte 0xFFFF#16

/-- The bytes the check covers. -/
def frameCore (kind tag : Byte) (body : List Byte) : List Byte :=
  natBytes 2 body.length ++ [kind, tag] ++ body

/-- What follows the start byte of a frame: the covered bytes, then the check, least significant byte first (R179). -/
def frameAfterStart (kind tag : Byte) (body : List Byte) : List Byte :=
  frameCore kind tag body ++ natBytes 2 (frameCheck (frameCore kind tag body)).toNat

/-- A whole frame (R168). -/
def frameBytes (kind tag : Byte) (body : List Byte) : List Byte :=
  0xA5#8 :: frameAfterStart kind tag body

/-! ### Codes (section 11.8) -/

/-- The code of a result. -/
def Result.code : Result → Nat
  | .granted => 0x00 | .ok => 0x01 | .grantedAlreadyOpen => 0x02 | .mustered => 0x03 | .alreadyMustered => 0x04
  | .ack => 0x05
  | .busy => 0x10 | .malformed => 0x11 | .unknownKind => 0x12
  | .unknownCard => 0x18 | .outOfTable => 0x19 | .noRecord => 0x1A | .classMismatch => 0x1B | .futureCard => 0x1C
  | .staleCard => 0x1D
  | .notConfigured => 0x20 | .laneBound => 0x21 | .powerFail => 0x22 | .clockUnset => 0x23 | .muster => 0x24
  | .musterActive => 0x25 | .notActive => 0x26 | .storeUnusable => 0x27
  | .laneClosed => 0x30 | .laneBlocked => 0x31 | .departed => 0x32 | .wrongDirection => 0x33
  | .allAboardClosed => 0x34 | .alreadyPermitted => 0x35 | .permitsFull => 0x36 | .logFull => 0x37
  | .lockedOut => 0x40 | .recordIncomplete => 0x41 | .notYourCabin => 0x42 | .notBoarded => 0x43
  | .ashoreCard => 0x44 | .privacy => 0x45
  | .outletClosed => 0x50 | .noAccount => 0x51 | .suspended => 0x52 | .alcohol => 0x53 | .overCeiling => 0x54
  | .credit => 0x55 | .daily => 0x56 | .journalFull => 0x57 | .holdLimit => 0x58 | .holdsFull => 0x59
  | .holdGone => 0x5A | .wrongOutlet => 0x5B | .notInJournal => 0x5C | .voidWindow => 0x5D
  | .aboard => 0x60 | .hasPermit => 0x61 | .hasHolds => 0x62 | .hasUnposted => 0x63 | .cabinFull => 0x64
  | .outOfRange => 0x65
  | .notInService => 0x70 | .fixedLevel => 0x71

/-- The code of a direction. -/
def directionCode : Direction → Nat
  | .inward => 0 | .outward => 1

/-- The code of a recognizer state. -/
def Recognizer.code : Recognizer → Nat
  | .clear => 0 | .outer => 1 | .inner => 2 | .crossingIn => 3 | .crossingOut => 4 | .leavingIn => 5
  | .leavingOut => 6

/-- The code of a store state. -/
def StoreState.code : StoreState → Nat
  | .opened => 0 | .closing => 1 | .closed => 2 | .reopening => 3

/-- The code of a sweep state. -/
def Sweep.code : Sweep → Nat
  | .none => 0 | .unswept => 1 | .swept => 2

/-- The code of a reset cause (section 11.7). -/
def resetCauseCode : ResetCause → Nat
  | .powerOn => 0 | .resetPin => 1 | .brownOut => 2 | .resetMessage => 3

/-- The code of a judgement (section 11.7). -/
def Judgement.code : Judgement → Nat
  | .blank => 0 | .controlLost => 1 | .good => 2

/-- The code of an entry kind (section 11.6). -/
def EntryKind.code : EntryKind → Nat
  | .sale => 0 | .tabClose => 1

/-- The kind byte of the STARTED frame. -/
def kindStarted : Byte := 0x7D
/-- The kind byte of a NOTICE frame. -/
def kindNotice : Byte := 0x7E
/-- The kind byte of a CHARGE_POST frame. -/
def kindChargePost : Byte := 0x7F
/-- The kind byte of RESET. -/
def kindReset : Byte := 0x71

/-! ### Fields of host replies -/

/-- The bytes of a field (R179). -/
def Field.bytes : Field → List Byte
  | .b1 n => natBytes 1 n
  | .b2 n => natBytes 2 n
  | .b4 n => natBytes 4 n
  | .b8 n => natBytes 8 n
  | .s4 z => intBytes z
  | .text bs => bs

/-- A flag as a field. -/
def Field.flag (b : Bool) : Field := .b1 (if b then 1 else 0)

/-- An optional group as fields: its presence byte, and the group when present (R180). -/
def Field.optional {α : Type} (f : α → List Field) : Option α → List Field
  | none => [.b1 0]
  | some a => .b1 1 :: f a

/-- A list as fields: its count, and the items (R180). -/
def Field.list {α : Type} (f : α → List Field) (l : List α) : List Field := .b1 l.length :: l.flatMap f

/-- The body of a host reply: the result byte, then the fields (R168, R179). -/
def HostReply.body (r : HostReply) : List Byte := natBytes 1 r.result.code ++ r.fields.flatMap Field.bytes

/-- The frame of a host reply (R168). -/
def HostReply.frame (r : HostReply) : OutFrame :=
  { bytes := frameBytes r.kind r.tag r.body, resets := r.kind == kindReset && r.result == .ok }

/-! ### Station replies (section 11.4) -/

/-- A reply that carries no group. -/
def StationGroups.empty : StationGroups :=
  { timing := none, direction := none, amounts := none, available := none, charge := none, handle := none,
    muster := none }

/-- The five computed values as fields. -/
def Amounts.bytes (a : Amounts) : List Byte :=
  natBytes 4 a.subtotal ++ natBytes 4 a.service ++ natBytes 4 a.tax ++ natBytes 4 a.tip ++ natBytes 4 a.total

/-- The body of a station reply: the result byte, then the seven groups behind their presence bytes. -/
def StationReply.body (r : StationReply) : List Byte :=
  natBytes 1 r.result.code
    ++ optionalBytes (fun t => natBytes 2 t.1 ++ flagBytes t.2) r.groups.timing
    ++ optionalBytes (fun d => natBytes 1 (directionCode d)) r.groups.direction
    ++ optionalBytes (fun a => Amounts.bytes a.1 ++ flagBytes a.2) r.groups.amounts
    ++ optionalBytes (natBytes 4) r.groups.available
    ++ optionalBytes (natBytes 4) r.groups.charge
    ++ optionalBytes (fun h => natBytes 2 h.1 ++ natBytes 1 h.2.toNat) r.groups.handle
    ++ optionalBytes (fun m => natBytes 2 m.1 ++ natBytes 1 m.2.1 ++ natBytes 1 m.2.2) r.groups.muster

/-- The frame of a station reply (R168). -/
def StationReply.frame (r : StationReply) : OutFrame :=
  { bytes := frameBytes r.kind r.tag r.body, resets := false }

/-! ### Unsolicited frames: tag 0 (R168) -/

/-- The NOTICE body: group, level, member count, and each member's flag and occurrence count (section 11.7). -/
def noticeBody (group level : Nat) (members : List Member) : List Byte :=
  natBytes 1 group ++ natBytes 1 level ++ natBytes 1 members.length
    ++ members.flatMap fun m => flagBytes m.flag ++ natBytes 1 m.count

/-- The NOTICE frame. -/
def noticeFrame (group level : Nat) (members : List Member) : OutFrame :=
  { bytes := frameBytes kindNotice 0 (noticeBody group level members), resets := false }

/-- The CHARGE_POST body (section 11.6). -/
def Entry.body (e : Entry) : List Byte :=
  natBytes 2 e.boot.toNat ++ natBytes 4 e.charge ++ natBytes 1 e.unitAddress.toNat ++ natBytes 2 e.person
    ++ natBytes 1 e.generation.toNat ++ natBytes 1 e.outlet ++ natBytes 1 e.station ++ natBytes 1 e.kind.code
    ++ e.amounts.bytes ++ natBytes 4 e.shipTime ++ natBytes 2 e.day ++ linesBytes e.lines

/-- The CHARGE_POST frame. -/
def Entry.frame (e : Entry) : OutFrame := { bytes := frameBytes kindChargePost 0 e.body, resets := false }

/-- The STARTED body (section 11.7): of the lost blocks, the first 8 are listed. -/
def StartedReport.body (r : StartedReport) : List Byte :=
  natBytes 1 (resetCauseCode r.cause) ++ natBytes 1 r.unitAddress.toNat ++ natBytes 2 r.boot.toNat
    ++ natBytes 1 r.judgement.code ++ flagBytes r.orderly ++ natBytes 2 r.restored
    ++ optionalBytes (fun m => natBytes 2 m.1 ++ natBytes 2 m.2.1 ++ natBytes 2 m.2.2) r.muster
    ++ natBytes 1 r.lost.length ++ natBytes 1 (r.lost.take 8).length ++ (r.lost.take 8).flatMap (natBytes 1)
    ++ flagBytes r.unusable

/-- The STARTED frame. -/
def StartedReport.frame (r : StartedReport) : OutFrame :=
  { bytes := frameBytes kindStarted 0 r.body, resets := false }

end Sys2Proof.Machine
end

