-- ==== Sys2Proof/Machine/Ops.lean ====
section
/-!
DEFINITION. The shared operations: monotonic time, the dirty set and the writer's turn (R156, R157, R161), the one
operation by which a person record changes together with everything kept in step with it (R9, R10, R14, R21, R22, R66,
R127, R132), and the reads of the numbered records.
-/

namespace Sys2Proof.Machine

/-! ### Reads of the numbered records -/

/-- The person record at an index; `none` is EMPTY (R6). -/
def State.person (s : State) (i : Nat) : Option Person := s.persons.read none i

/-- A cabin record (R67). -/
def State.cabin (s : State) (c : Nat) : Cabin := s.cabins.read Cabin.reset c

/-- A lane (R38). -/
def State.lane (s : State) (l : Nat) : Lane := s.lanes.read Lane.reset l

/-- A decoder (R1). -/
def State.decoder (s : State) (d : Nat) : Decoder := s.decoders.read Decoder.reset d

/-- A station entry (R24). -/
def State.stationEntry (s : State) (a : Nat) : Station := s.stations.read Station.reset a

/-- An outlet record (R86). -/
def State.outlet (s : State) (o : Nat) : Outlet := s.outlets.read Outlet.reset o

/-- A slot of the hold table (R103). -/
def State.slot (s : State) (k : Nat) : Slot := s.slots.read Slot.reset k

/-- A tally count (R21). -/
def State.tallyCount (s : State) (cls : PersonClass) (loc : Location) : Nat :=
  s.tally.read 0 (4 * cls.code + loc.code)

/-! ### Writes of the numbered records that are kept by one unit alone -/

/-- Replaces a cabin record. -/
def State.putCabin (c : Nat) (v : Cabin) (s : State) : State := { s with cabins := s.cabins.write Cabin.reset c v }

/-- Replaces a lane. -/
def State.putLane (l : Nat) (v : Lane) (s : State) : State := { s with lanes := s.lanes.write Lane.reset l v }

/-- Replaces a slot of the hold table. -/
def State.putSlot (k : Nat) (v : Slot) (s : State) : State := { s with slots := s.slots.write Slot.reset k v }

/-! ### Monotonic time (R27) -/

/-- The greatest monotonic time (R27). -/
def maxMono : Nat := 281474976710655

/-- Monotonic time has come to `t`, or stands where it was when it is already past it (log entry 7). -/
def State.advanceTo (t : Nat) (s : State) : State :=
  { s with clock := { s.clock with mono := max s.clock.mono (min t maxMono) } }

/-! ### The dirty set (R156) -/

/-- The number of the control block (R155). -/
def controlBlock : Nat := 128

/-- The person block of an index (R9). -/
def blockOf (index : Nat) : Nat := index / 64

/-- The block is FAILED (R158, R165). -/
def Store.isFailed (t : Store) (block : Nat) : Bool :=
  t.failedList.contains block || t.unlistedFailed == some block

/-- Inserts a number into an ascending list without repeats. -/
def insertAscending (n : Nat) : List Nat → List Nat
  | [] => [n]
  | m :: ms => if n < m then n :: m :: ms else if n = m then m :: ms else m :: insertAscending n ms

/-- Marks a block dirty when the condition holds; a FAILED block is not added (R156). -/
def Store.markWhen (c : Bool) (block : Nat) (t : Store) : Store :=
  { t with dirty := if c && !t.isFailed block then insertAscending block t.dirty else t.dirty }

/-- Marks the control block dirty: a live control fact has changed (R156). -/
def State.markControl (s : State) : State := { s with store := s.store.markWhen true controlBlock }

/-! ### The writer (R157, R161) -/

/-- Whether a muster state is MUSTERED at a point or MUSTERED(UNRECORDED) (R155). -/
def MusterState.isMustered : MusterState → Bool
  | .mustered _ => true
  | .unrecorded => true
  | _ => false

/-- The retained fields of a record (R9). -/
def retained : Option Person → Option StoredEntry
  | none => none
  | some p => some { cls := p.cls, generation := p.generation, location := p.location, mustered := p.muster.isMustered }

/-- The contents of a person block as the records stand (R155). -/
def personCopy (persons : Table (Option Person)) (block : Nat) : List (Nat × StoredEntry) :=
  (persons.filter fun e => blockOf e.1 == block).filterMap fun e => (retained e.2).map fun r => (e.1, r)

/-- The live control facts: the muster facts are the muster unit's (R155). -/
def Store.liveFacts (t : Store) (m : Muster) : ControlFacts :=
  { boot := t.boot, musterActive := m.active, musterId := m.id, orderly := t.orderly, failedList := t.failedList,
    unusable := t.unusable }

/-- The block the idle writer takes: the control block first; else the lowest dirty person block above the last one
written, wrapping round (R157). While the person blocks wait for the first event after start-up, and when one last write
is owed, only the control block (R157, R159). -/
def Store.nextBlock (waits : Bool) (t : Store) : Option Nat :=
  match t.writer with
  | .stopped => none
  | .lastOwed => if t.dirty.contains controlBlock then some controlBlock else none
  | .normal =>
    if t.dirty.contains controlBlock then some controlBlock
    else if waits then none
    else match t.dirty.find? (fun b => decide (t.lastWritten < b)) with
      | some b => some b
      | none => t.dirty.head?

/-- The closing write begins: CLOSING, drained, nothing in flight, live orderly false, not UNUSABLE (R160, R161). The
live orderly flag becomes true, which marks the control block dirty. -/
def Store.closingTurn (waits : Bool) (t : Store) : Store :=
  let begins := !waits && t.state == .closing && t.dirty.isEmpty && t.inFlight.isNone && !t.orderly && !t.unusable
  { t with orderly := t.orderly || begins, dirty := if begins then [controlBlock] else t.dirty }

/-- The write start: the block leaves the dirty set and its contents are copied as they stand (R157). -/
def Store.startWrite (persons : Table (Option Person)) (m : Muster) (now : Nat) (block : Nat) (t : Store) : Store :=
  { t with
    dirty := t.dirty.erase block
    inFlight := some { block, startedAt := now,
                       copy := if block = controlBlock then .control (t.liveFacts m) else .person (personCopy persons block) } }

/-- The writer's turn at the end of an event: an idle writer with a block to write starts on it. -/
def Store.turn (waits : Bool) (persons : Table (Option Person)) (m : Muster) (now : Nat) (t : Store) : Store :=
  let t := t.closingTurn waits
  if t.inFlight.isSome then t
  else match t.nextBlock waits with
    | none => t
    | some b => t.startWrite persons m now b

/-- Start-up is in progress: it has not yet reached the queuing of the STARTED frame (R163, R166, R172). -/
def State.isStarting (s : State) : Bool :=
  match s.phase with
  | .starting _ => true
  | .assertionDue => false
  | .running => false

/-- The part runs, with no assertion due from start-up (R166). -/
def State.isRunning (s : State) : Bool :=
  match s.phase with
  | .starting _ => false
  | .assertionDue => false
  | .running => true

/-- The writer's turn, with which every event ends. Until the first event after start-up, which is the assertion where one
is due, the writer takes no person block (R157, R166). -/
def State.writerTurn (s : State) : State :=
  { s with store := s.store.turn (!s.isRunning) s.persons s.muster s.clock.mono }

/-- The outcome of an event that takes place: its changes, then the writer's turn. -/
def event (s : State) : Host.Outcome State Fault Refusal := .next s.writerTurn

/-! ### The muster counts (R127) -/

/-- Takes one from the count that a muster state belongs to. -/
def Muster.lower (m : Muster) : MusterState → Muster
  | .none => m
  | .unmustered => { m with unmustered := m.unmustered - 1 }
  | .mustered p => { m with points := m.points.write 0 p (m.points.read 0 p - 1) }
  | .unrecorded => { m with unrecorded := m.unrecorded - 1 }

/-- Adds one to the count that a muster state belongs to. -/
def Muster.lift (m : Muster) : MusterState → Muster
  | .none => m
  | .unmustered => { m with unmustered := m.unmustered + 1 }
  | .mustered p => { m with points := m.points.write 0 p (m.points.read 0 p + 1) }
  | .unrecorded => { m with unrecorded := m.unrecorded + 1 }

/-- The counts after a record's muster state changes. -/
def Muster.move (m : Muster) (old new : MusterState) : Muster :=
  if old = new then m else (m.lower old).lift new

/-- The muster state of a record; an EMPTY record has none. -/
def musterOf : Option Person → MusterState
  | none => .none
  | some p => p.muster

/-! ### The tally (R21) -/

/-- Where a record stands in the tally. -/
def placeOf : Option Person → Option (PersonClass × Location)
  | none => none
  | some p => some (p.cls, p.location)

/-- Changes the count of one place. -/
def countAt (f : Nat → Nat) (t : Table Nat) : Option (PersonClass × Location) → Table Nat
  | none => t
  | some (cls, loc) => t.write 0 (4 * cls.code + loc.code) (f (t.read 0 (4 * cls.code + loc.code)))

/-- The counts after a record moves from one place to another. -/
def moveTally (t : Table Nat) (old new : Option (PersonClass × Location)) : Table Nat :=
  if old = new then t else countAt (· + 1) (countAt (· - 1) t old) new

/-! ### Occupant counts (R14) -/

/-- The cabin a record names. -/
def cabinOf : Option Person → Option Nat
  | none => none
  | some p => p.cabin

/-- Changes the occupant count of one cabin. -/
def occupantsAt (f : Nat → Nat) (t : Table Cabin) : Option Nat → Table Cabin
  | none => t
  | some c =>
    let v := t.read Cabin.reset c
    t.write Cabin.reset c { v with occupants := f v.occupants }

/-- The cabin records after a record's cabin changes. -/
def moveOccupant (t : Table Cabin) (old new : Option Nat) : Table Cabin :=
  if old = new then t else occupantsAt (· + 1) (occupantsAt (· - 1) t old) new

/-! ### Changing a person record -/

/-- ALL_GUESTS_ABOARD is due: the tally has changed, the deadline is PASSED, the flag clear and GUEST-ASHORE 0 (R66). -/
def State.guestsDue (s : State) (changed : Bool) (tally : Table Nat) : Bool :=
  changed && s.deadline == .passed && !s.guestsReported
    && tally.read 0 (4 * PersonClass.guest.code + Location.ashore.code) == 0

/-- The one way a person record changes. In the same event (R10): the tally counts move and the sequence increments
when the class or location changes, or the record is created or cleared (R21, R22); the occupant counts follow the
cabin (R14); the muster counts follow the muster state, and ALL_MUSTERED is raised when the unmustered count falls to 0
(R127, R132); the block is marked dirty when a retained field changes (R9); ALL_GUESTS_ABOARD is raised when due (R66). -/
def State.changePerson (i : Nat) (new : Option Person) (s : State) : State :=
  let old := s.person i
  let moved := decide (placeOf old ≠ placeOf new)
  let tally := moveTally s.tally (placeOf old) (placeOf new)
  let muster := s.muster.move (musterOf old) (musterOf new)
  let guests := s.guestsDue moved tally
  ({ s with
      persons := s.persons.write none i new
      tally := tally
      tallySequence := if moved then s.tallySequence + 1 else s.tallySequence
      cabins := moveOccupant s.cabins (cabinOf old) (cabinOf new)
      muster := muster
      store := s.store.markWhen (decide (retained old ≠ retained new)) (blockOf i)
      guestsReported := s.guestsReported || guests }
    |>.raiseWhen (decide (0 < s.muster.unmustered) && muster.unmustered == 0) MemberId.allMustered s.muster.id
    |>.raiseWhen guests MemberId.allGuestsAboard 0)

/-- Replaces the account of a record; an EMPTY record, or one without an account, stays as it is. -/
def State.changeAccount (i : Nat) (f : Account → Account) (s : State) : State :=
  match s.person i with
  | none => s
  | some p => match p.account with
    | none => s
    | some a => s.changePerson i (some { p with account := some (f a) })

/-! ### Permits and the flap (R51, R52, R58) -/

/-- The flap over an empty queue is SHUT once the recognizer is CLEAR and the lane is not blocked (R52). -/
def Lane.settleFlap (l : Lane) : Lane :=
  { l with flapOpen := l.flapOpen && !(l.permits.isEmpty && l.recognizer == .clear && !l.blocked) }

/-- Removes the gate permit field of a person (R51). -/
def State.dropGatePermit (i : Nat) (s : State) : State :=
  match s.person i with
  | none => s
  | some p => s.changePerson i (some { p with gatePermit := none })

/-- Removes from a lane's queue the permits that `gone` names, with the gate permit fields of their persons, and lets
the flap follow (R51, R52). -/
def State.removePermits (lane : Nat) (gone : Permit → Bool) (s : State) : State :=
  let l := s.lane lane
  ((l.permits.filter gone).foldl (fun s p => s.dropGatePermit p.person) s).putLane lane
    { l with permits := l.permits.filter fun p => !gone p }.settleFlap

/-- Cancels every permit in all four lanes (R58). -/
def State.cancelAllPermits (s : State) : State :=
  (List.range 4).foldl (fun s l => s.removePermits l fun _ => true) s

end Sys2Proof.Machine
end

