-- ==== Sys2Proof/Machine/Operands.lean ====
section
/-!
DEFINITION. How a command's operands are read: the taking of a request from its link (R173), the decoding of a card
(R2 to R5) and the station-table check (R25).
-/

namespace Sys2Proof.Machine

/-! ### Taking a host request (R173, R177) -/

/-- What an owner answers to a host request. -/
structure HostAnswer where
  result : Result
  fields : List Field
  deriving DecidableEq, Repr

/-- A refusal, or an OK that carries nothing. -/
def HostAnswer.plain (r : Result) : HostAnswer := { result := r, fields := [] }

/-- OK with fields. For the messages whose rules name no result (the READ messages, IDENTIFY, ACK_NOTICE) OK is a DESIGN
CHOICE (log entry 28). -/
def HostAnswer.okay (fields : List Field) : HostAnswer := { result := .ok, fields }

/-- A reply joins the tail of the host reply queue. -/
def State.hostReply (r : HostReply) (s : State) : State :=
  { s with host := { s.host with replies := s.host.replies ++ [r] } }

/-- The head request leaves the host request queue. -/
def State.dropHostRequest (s : State) : State :=
  { s with host := { s.host with port := { s.host.port with requests := s.host.port.requests.tail } } }

/-- The host link controller takes a request: the part runs with no assertion due (R166), RESET has not been taken, the reply queue has room, and
the request is the one at the head of the queue (R171, R173, R177). -/
def State.hostTakes (s : State) (f : Frame) : Bool :=
  s.isRunning && !s.host.takingStopped && decide (s.host.replies.length < 16)
    && decide (s.host.port.requests.head? = some f)

/-- The taking event of a host request of a kind: a tag of 0 or a body that is not well formed is answered MALFORMED;
else the owner acts and answers (R173). A request that is not there to be taken is no event. -/
def takeHost {α : Type} (kind : Byte) (decode : List Byte → Option α) (act : α → State → State × HostAnswer)
    (r : Request) (s : State) : Host.Outcome State Fault Refusal :=
  if s.hostTakes ⟨kind, r.tag, r.body⟩ then
    let taken := s.dropHostRequest
    match (if r.tag = 0 then none else decode r.body) with
    | none => event (taken.hostReply ⟨kind, r.tag, .malformed, []⟩)
    | some q =>
      let (after, answer) := act q taken
      event (after.hostReply ⟨kind, r.tag, answer.result, answer.fields⟩)
  else .next s

/-! ### The host transmitter (R175) -/

/-- The host transmitter is free and the STARTED frame has gone before. -/
def State.hostFree (s : State) : Bool := !s.isStarting && s.host.sending.isNone && s.host.started.isNone

/-- A frame starts on the host link. -/
def State.sendHost (f : OutFrame) (s : State) : State := { s with host := { s.host with sending := some f } }

/-! ### Taking a station request (R173) -/

/-- What an owner answers to a station request. -/
structure StationAnswer where
  result : Result
  groups : StationGroups
  deriving DecidableEq, Repr

/-- A refusal that carries no group, or an ACK. -/
def StationAnswer.plain (r : Result) : StationAnswer := { result := r, groups := StationGroups.empty }

/-- A reply joins the tail of the station reply queue. -/
def State.stationReply (r : StationReply) (s : State) : State :=
  { s with station := { s.station with replies := s.station.replies ++ [r] } }

/-- The head request leaves the station intake queue. -/
def State.dropStationRequest (s : State) : State :=
  { s with station := { s.station with port := { s.station.port with requests := s.station.port.requests.tail } } }

/-- The station link controller takes a request (R166, R171, R173). -/
def State.stationTakes (s : State) (f : Frame) : Bool :=
  s.isRunning && decide (s.station.replies.length < 32) && decide (s.station.port.requests.head? = some f)

/-- The taking event of a station request of a kind (R173). -/
def takeStation {α : Type} (kind : Byte) (decode : List Byte → Option α) (act : α → State → State × StationAnswer)
    (r : Request) (s : State) : Host.Outcome State Fault Refusal :=
  if s.stationTakes ⟨kind, r.tag, r.body⟩ then
    let taken := s.dropStationRequest
    match (if r.tag = 0 then none else decode r.body) with
    | none => event (taken.stationReply ⟨kind, r.tag, .malformed, StationGroups.empty⟩)
    | some q =>
      let (after, answer) := act q taken
      event (after.stationReply ⟨kind, r.tag, answer.result, answer.groups⟩)
  else .next s

/-- A refusal of a source the tables do not serve: UNCONFIGURED_SOURCE with the station address or the cabin number
(R25, R71, R81). -/
def refuseSource (source : Nat) (s : State) : State × StationAnswer :=
  (s.raise MemberId.unconfiguredSource source, .plain .notConfigured)

/-- The binding of a station whose entry serves a kind of request: enabled and of the kind (R25). -/
def State.bindingFor (s : State) (kind : StationKind) (address : Nat) : Option Nat :=
  let e := s.stationEntry address
  if e.kind = kind ∧ e.enabled then e.binding else none

/-- The station-table check, before any test of the owning unit (R25). -/
def atStation (kind : StationKind) (address : Nat) (owner : Nat → State → State × StationAnswer) (s : State) :
    State × StationAnswer :=
  match s.bindingFor kind address with
  | none => refuseSource address s
  | some b => owner b s

/-! ### Decoding a card (R2 to R5) -/

/-- A card number matches a decoder (R2). -/
def Decoder.matchesCard (d : Decoder) (number : BitVec 32) : Bool :=
  d.enabled && (number &&& d.mask == d.compare &&& d.mask)

/-- The deciding decoder: the lowest-numbered enabled one that matches (R2). -/
def State.decidingDecoder (s : State) (number : BitVec 32) : Option Decoder :=
  ((List.range 8).find? fun k => Decoder.matchesCard (s.decoder k) number).map s.decoder

/-- The outcome of a decode (R3): a reason with the person index computed, or the index and the record. -/
inductive CardDecode
  | failed (reason : Result) (index : Nat)
  | passed (index : Nat) (p : Person)
  deriving DecidableEq, Repr

/-- Decodes a card against the decoders and the person table as they stand (R2 to R5). -/
def State.decodeCard (s : State) (c : Card) : CardDecode :=
  match s.decidingDecoder c.number with
  | none => .failed .unknownCard 0
  | some d =>
    let index := (c.number + d.offset).toNat
    if 8192 ≤ index then .failed .outOfTable index
    else match s.person index with
      | none => .failed .noRecord index
      | some p =>
        if p.cls ≠ d.cls then .failed .classMismatch index
        else
          let diff := c.generation - p.generation
          if diff = 0 then .passed index p
          else if diff.toNat ≤ 7 then .failed .futureCard index
          else .failed .staleCard index

/-- What a decode reason does besides the refusal: FUTURE_CARD raises the SYSTEM member with the person index (R4). -/
def State.afterDecodeFailure (reason : Result) (index : Nat) (s : State) : State :=
  s.raiseWhen (reason == .futureCard) MemberId.futureCard index

end Sys2Proof.Machine
end

