-- ==== Sys2Proof/Machine/Time.lean ====
section
/-!
DEFINITION. The time unit: SET_CLOCK, SET_DAY_OFFSET, READ_CLOCK, the advance of ship time and of the day, and the
arrival of held ship times (chapter 2).
-/

namespace Sys2Proof.Machine

/-- The computed day (R31). -/
def Clock.computedDay (c : Clock) : Nat := (c.shipTime + 86400 - c.dayOffset) / 86400

/-- The day after a computation: it never decreases (R31). -/
def Clock.advanceDay (c : Clock) : Clock := { c with currentDay := max c.currentDay c.computedDay }

/-- The time unit computes the day, while RUNNING; an advance raises DAY_ADVANCED with the new day (R31). -/
def State.computeDay (s : State) : State :=
  let advances := s.clock.running && decide (s.clock.currentDay < s.clock.computedDay)
  ({ s with clock := if s.clock.running then s.clock.advanceDay else s.clock }).raiseWhen advances
    MemberId.dayAdvanced s.clock.computedDay

/-- A hold whose expiry ship time is reached is told so (R34). -/
def Hold.tell (shipTime : Nat) (h : Hold) : Hold := { h with arrived := h.arrived || decide (h.expiry ≤ shipTime) }

/-- A slot whose hold's expiry ship time is reached is told so. -/
def Slot.tell (shipTime : Nat) (k : Slot) : Slot := { k with hold := k.hold.map (Hold.tell shipTime) }

/-- A deadline that is SET is reached. -/
def Deadline.reached (d : Deadline) (shipTime : Nat) : Bool :=
  match d with
  | .set t => decide (t ≤ shipTime)
  | _ => false

/-- The time unit tells the owners of the held ship times that have arrived (R34). While the muster is ACTIVE no
expiry is told (R34, R110). -/
def State.tellArrivals (s : State) : State :=
  { s with
    slots := if s.muster.active then s.slots else s.slots.mapRecords Slot.reset (Slot.tell s.clock.shipTime)
    deadlineArrived := s.deadlineArrived || s.deadline.reached s.clock.shipTime }

/-- SET_CLOCK (R29). -/
def doSetClock (t : Nat) (s : State) : State × HostAnswer :=
  let after := ({ s with clock := { s.clock with running := true, shipTime := t,
                                                 nextAdvance := s.clock.mono + 1000 } }).computeDay.tellArrivals
  (after, .okay [.b4 t, .b2 after.clock.currentDay])

/-- SET_CLOCK. -/
def execSetClock (r : Request) (s : State) : Host.Outcome State Fault Refusal :=
  takeHost 0x30 decodeTime doSetClock r s

/-- SET_DAY_OFFSET (R30): clamped to 86,399. -/
def doSetDayOffset (offset : Nat) (s : State) : State × HostAnswer :=
  let taken := min offset 86399
  let after := ({ s with clock := { s.clock with dayOffset := taken } }).computeDay
  (after, .okay [.b4 taken, .b2 after.clock.currentDay])

/-- SET_DAY_OFFSET. -/
def execSetDayOffset (r : Request) (s : State) : Host.Outcome State Fault Refusal :=
  takeHost 0x31 decodeTime doSetDayOffset r s

/-- READ_CLOCK (R33). -/
def execReadClock (r : Request) (s : State) : Host.Outcome State Fault Refusal :=
  takeHost 0x32 decodeEmpty
    (fun _ s => (s, .okay [.b1 (if s.clock.running then 1 else 0), .b4 s.clock.shipTime, .b4 s.clock.dayOffset,
                           .b2 s.clock.currentDay])) r s

/-- SHIP_TIME_ADVANCE (R28): at the end of a full 1,000 milliseconds since the SET_CLOCK event, while RUNNING and below
the maximum; otherwise no such event occurs. -/
def execShipTimeAdvance (s : State) : Host.Outcome State Fault Refusal :=
  if s.clock.running ∧ s.clock.shipTime < maxShipTime then
    let due := s.advanceTo s.clock.nextAdvance
    event ({ due with clock := { due.clock with shipTime := s.clock.shipTime + 1,
                                                nextAdvance := s.clock.nextAdvance + 1000 } }).computeDay.tellArrivals
  else .next s

end Sys2Proof.Machine
end

