-- ==== Sys2Proof/Machine/Lanes.lean ====
section
/-!
DEFINITION. The gate unit: lane setup, beams and their filters, the passage recognizer, taps and permits, the judgement
of passages, the counters, the movement log and the all-aboard deadline (chapter 3).
-/

namespace Sys2Proof.Machine

/-! ### Setup (R38 to R40) -/

/-- The directions a mode admits (R38). -/
def admits : LaneMode → Direction → Bool
  | .inbound, .inward | .both, .inward => true
  | .outbound, .outward | .both, .outward | .finalOut, .outward => true
  | _, _ => false

/-- The values CONFIGURE_LANE takes (R39). -/
def LaneSetup.clamped (u : LaneSetup) : LaneSetup :=
  { polarity := u.polarity, filterTime := min u.filterTime 250, permitWindow := max 1 (min u.permitWindow 60),
    blockTime := max 5 (min u.blockTime 600) }

/-- A beam input reads as BROKEN (R41). -/
def readsBroken (p : Polarity) (high : Bool) : Bool :=
  match p with
  | .brokenLow => !high
  | .brokenHigh => high

/-- A beam after a change of what its input reads as: a filter run begins when the raw state differs from the filtered
one, and is abandoned when it equals it (R41, R42). -/
def BeamState.refilter (b : BeamState) (raw : Bool) (now filterTime : Nat) : BeamState :=
  { b with filterEnd := if raw = b.broken then none else some (now + filterTime) }

/-- A lane after CONFIGURE_LANE (R39, R41): a change of polarity reverses the raw states of both beams. -/
def Lane.configured (l : Lane) (u : LaneSetup) (now : Nat) : Lane :=
  if u.polarity = l.setup.polarity then { l with setup := u }
  else { l with
    setup := u
    outer := l.outer.refilter (readsBroken u.polarity l.outer.high) now u.filterTime
    inner := l.inner.refilter (readsBroken u.polarity l.inner.high) now u.filterTime }

/-- The four setup values as fields (R39). -/
def setupFields (u : LaneSetup) : List Field :=
  [.b1 u.polarity.code, .b1 u.filterTime, .b1 u.permitWindow, .b2 u.blockTime]

/-- What CONFIGURE_LANE sets (R39). -/
def doConfigureLane (q : Nat × LaneSetup) (s : State) : State × HostAnswer :=
  let u := LaneSetup.clamped q.2
  (s.putLane q.1 ((s.lane q.1).configured u s.clock.mono), .okay (setupFields u))

/-- SET_LANE_MODE (R40): the permits of a direction that the old mode admits and the new one does not are cancelled. -/
def doSetLaneMode (q : Nat × LaneMode) (s : State) : State × HostAnswer :=
  let old := (s.lane q.1).mode
  let moded := s.putLane q.1 { s.lane q.1 with mode := q.2 }
  (moded.removePermits q.1 fun p => admits old p.direction && !admits q.2 p.direction, .okay [.b1 q.2.code])

/-- SET_LANE_MODE. -/
def execSetLaneMode (r : Request) (s : State) : Host.Outcome State Fault Refusal :=
  takeHost 0x39 decodeSetLaneMode doSetLaneMode r s

/-! ### Counters (R59, R44) -/

/-- A saturating counter of 0 to 65,535 (R59). -/
def bump (n : Nat) : Nat := min (n + 1) 65535

/-- The greatest occupancy (R44). -/
def maxOccupancy : Nat := 4294967295

/-- The eight counts in the order of their identities (R59), each with its maximum. -/
def LaneCounts.listed (c : LaneCounts) : List (Nat × Nat) :=
  [(c.inbound, 65535), (c.outbound, 65535), (c.balks, 65535), (c.late, 65535), (c.contrary, 65535), (c.forced, 65535),
   (c.noShows, 65535), (c.occupancy, maxOccupancy)]

/-- The identities of the counts that reach their maximum between two readings of a lane's counts. -/
def reachedMaximum (old new : LaneCounts) : List Nat :=
  (List.range 8).filter fun k =>
    match old.listed[k]?, new.listed[k]? with
    | some (a, top), some (b, _) => decide (a < top) && decide (b = top)
    | _, _ => false

/-- COUNTER_SATURATED (R59): in the event in which a count of the lane reaches its maximum while the lane's flag is
clear, the member is raised with the counter's identity and the flag is set. When several reach it in one event, which
is named is a free value (log entry 6). -/
def State.noteSaturation (lane : Nat) (before : LaneCounts) (s : State) : State :=
  let l := s.lane lane
  let reached := reachedMaximum before l.counts
  let due := !reached.isEmpty && !l.saturationReported
  let several := due && decide (1 < reached.length)
  let pick := if several then Config.openIdentity s.freeIndex % reached.length else 0
  let named := { s with
    lanes := s.lanes.write Lane.reset lane { l with saturationReported := l.saturationReported || due }
    freeIndex := if several then s.freeIndex + 1 else s.freeIndex }
  named.raiseWhen due (MemberId.counterSaturated lane) (reached[pick]?.getD 0)

/-! ### Beam events (R42 to R48) -/

/-- A beam of a lane. -/
def Lane.beam (l : Lane) : Beam → BeamState
  | .outer => l.outer
  | .inner => l.inner

/-- Replaces a beam of a lane. -/
def Lane.putBeam (l : Lane) (b : Beam) (v : BeamState) : Lane :=
  match b with
  | .outer => { l with outer := v }
  | .inner => { l with inner := v }

/-- Adds an occupied period to the accumulator, saturating (R44). -/
def addOccupancy (occupancy period : Nat) : Nat := min (occupancy + period) maxOccupancy

/-- The accumulator with the running part of a period in progress (R44). -/
def Lane.occupancyAt (l : Lane) (now : Nat) : Nat :=
  match l.occupiedSince with
  | none => l.counts.occupancy
  | some t => addOccupancy l.counts.occupancy (now - t)

/-- The filtered state of a beam takes its raw state: the block timing starts or is abandoned (R47) and the occupied
period begins or ends (R44). -/
def Lane.filtered (l : Lane) (b : Beam) (now : Nat) : Lane :=
  let old := l.beam b
  let broken := !old.broken
  let l' := l.putBeam b { old with
    broken := broken
    filterEnd := none
    blockEnd := if broken then some (now + 1000 * l.setup.blockTime) else none }
  let occupied := l'.outer.broken || l'.inner.broken
  { l' with
    occupiedSince := if occupied then some (l.occupiedSince.getD now) else none
    counts := if occupied then l.counts else { l.counts with occupancy := l.occupancyAt now } }

/-- The recognizer's transition at a beam event (R45). An event that cannot reach a state leaves it. -/
def recognize : Recognizer → Beam → Bool → Recognizer
  | .clear, .outer, true => .outer
  | .clear, .inner, true => .inner
  | .outer, .inner, true => .crossingIn
  | .outer, .outer, false => .clear
  | .crossingIn, .outer, false => .leavingIn
  | .crossingIn, .inner, false => .outer
  | .leavingIn, .inner, false => .clear
  | .leavingIn, .outer, true => .crossingIn
  | .inner, .outer, true => .crossingOut
  | .inner, .inner, false => .clear
  | .crossingOut, .inner, false => .leavingOut
  | .crossingOut, .outer, false => .inner
  | .leavingOut, .outer, false => .clear
  | .leavingOut, .inner, true => .crossingOut
  | r, _, _ => r

/-- What a return of the recognizer to CLEAR means (R46). -/
inductive Return
  | nothing
  | balk
  | passage (d : Direction)
  deriving DecidableEq, Repr

/-- What the return to CLEAR from a state means (R46). -/
def returnFrom : Recognizer → Return
  | .outer | .inner => .balk
  | .leavingIn => .passage .inward
  | .leavingOut => .passage .outward
  | _ => .nothing

/-- The passage counter of a direction rises (R53). -/
def LaneCounts.passage (c : LaneCounts) : Direction → LaneCounts
  | .inward => { c with inbound := bump c.inbound }
  | .outward => { c with outbound := bump c.outbound }

/-- The target location of a Permitted passage (R54). -/
def passageTarget (d : Direction) (cls : PersonClass) (mode : LaneMode) : Location :=
  match d, cls with
  | .inward, _ => .aboard
  | .outward, .guest => if mode = .finalOut then .departed else .ashore
  | .outward, .visitor => .departed
  | .outward, .crew => .ashore

/-- Appends a movement record, or counts a discard while the log holds 256 records (R62). -/
def State.appendMovement (m : Movement) (s : State) : State :=
  let n := s.movementLog.length
  let full := decide (256 ≤ n)
  ({ s with
      movementLog := if full then s.movementLog else s.movementLog ++ [m]
      discardCount := if full then min (s.discardCount + 1) 255 else s.discardCount }
    |>.raiseWhen (n == 0) MemberId.movementWaiting m.person
    |>.raiseWhen (full || n == 255) MemberId.movementLogFull 256)

/-- The first permit of a direction leaves a queue (R54). -/
def consume (d : Direction) : List Permit → List Permit
  | [] => []
  | p :: ps => if p.direction = d then ps else p :: consume d ps

/-- A Permitted passage (R54): the oldest permit of the direction is consumed, its person moved to the target, the tally
sequence incremented once, and the movement appended. -/
def State.permittedPassage (lane : Nat) (d : Direction) (permit : Permit) (s : State) : State :=
  let l := s.lane lane
  let queued := s.putLane lane { l with permits := consume d l.permits }
  match s.person permit.person with
  | none => queued
  | some p =>
    let target := passageTarget d p.cls l.mode
    let redundant := decide (p.location = target)
    let moved := queued.changePerson permit.person (some { p with location := target, gatePermit := none })
    let numbered := { moved with tallySequence := s.tallySequence + 1 }
    numbered.appendMovement
      { sequence := s.tallySequence + 1, person := permit.person, lane, direction := d, location := target, redundant,
        shipTime := if s.clock.running then some s.clock.shipTime else none }

/-- The judgement of a completed passage (R53 to R55). The recognizer of the lane is already CLEAR. -/
def State.judgePassage (lane : Nat) (d : Direction) (openAtStart : Bool) (s : State) : State :=
  let l := s.lane lane
  let counts := l.counts.passage d
  match l.permits.find? fun p => decide (p.direction = d) with
  | some permit => (s.putLane lane { l with counts }).permittedPassage lane d permit
  | none =>
    if openAtStart then
      if l.permits.isEmpty then
        (s.putLane lane { l with counts := { counts with late := bump counts.late } }).raise (MemberId.late lane) (directionCode d)
      else
        (s.putLane lane { l with counts := { counts with contrary := bump counts.contrary } }).raise
          (MemberId.contrary lane) (directionCode d)
    else
      (s.putLane lane { l with counts := { counts with forced := bump counts.forced } }).raise MemberId.laneForced lane

/-- A lane whose beams have just taken an event, after the recognizer's part in it: while blocked it takes no
transition, and the block ends when both beams are CLEAR (R45, R47, R48). -/
def Lane.recognized (l : Lane) (b : Beam) : Lane × Return :=
  if l.blocked then
    if l.outer.broken || l.inner.broken then (l, .nothing)
    else ({ l with blocked := false, recognizer := .clear, openAtStart := none }, .nothing)
  else
    let next := recognize l.recognizer b (l.beam b).broken
    let note := if l.recognizer = .clear then (if next = .clear then none else some l.flapOpen)
      else if next = .clear then none else l.openAtStart
    ({ l with recognizer := next, openAtStart := note }, if next = .clear then returnFrom l.recognizer else .nothing)

/-- Lets the flap of a lane follow its queue and recognizer (R52). -/
def State.settleFlap (lane : Nat) (s : State) : State := s.putLane lane (s.lane lane).settleFlap

/-- A beam event at a lane (R42): the filters, block timing and accumulator, then the recognizer, then the passage or
balk it completes, the flap, and the saturation of the counts. -/
def State.beamEvent (lane : Nat) (b : Beam) (s : State) : State :=
  let before := s.lane lane
  let (l, outcome) := (before.filtered b s.clock.mono).recognized b
  let taken := s.putLane lane l
  let judged := match outcome with
    | .nothing => taken
    | .balk => taken.putLane lane { l with counts := { l.counts with balks := bump l.counts.balks } }
    | .passage d => taken.judgePassage lane d (before.openAtStart.getD false)
  (judged.settleFlap lane).noteSaturation lane before.counts

/-- BEAM_RAW_CHANGE (R42): the level of a beam input changes. A filter run that has already lasted its filter time ends
in its beam event first. With a filter time of 0 the beam event is taken at once. -/
def execBeamRawChange (lane : Nat) (b : Beam) (high : Bool) (s : State) : Host.Outcome State Fault Refusal :=
  if 4 ≤ lane then .fault .noSuchLane
  else if ((s.lane lane).beam b).high = high then .next s
  else
    let overdue := match ((s.lane lane).beam b).filterEnd with
      | some t => decide (t ≤ s.clock.mono)
      | none => false
    let s' := if overdue then (s.beamEvent lane b).writerTurn else s
    let l := s'.lane lane
    let raw := readsBroken l.setup.polarity high
    let changed := BeamState.refilter { l.beam b with high } raw s.clock.mono l.setup.filterTime
    let put := s'.putLane lane (l.putBeam b changed)
    event (if raw ≠ (l.beam b).broken ∧ l.setup.filterTime = 0 then put.beamEvent lane b else put)

/-- BEAM_EVENT (R42): the beam's filter run has lasted its filter time. -/
def execBeamEvent (lane : Nat) (b : Beam) (s : State) : Host.Outcome State Fault Refusal :=
  if 4 ≤ lane then .fault .noSuchLane
  else match ((s.lane lane).beam b).filterEnd with
    | none => .next s
    | some t => event ((s.advanceTo t).beamEvent lane b)

/-- The moment at which a beam's filter run has lasted its filter time, where that moment has come (R42). -/
def BeamState.dueAt (b : BeamState) (now : Nat) : Option Nat := b.filterEnd.filter fun e => decide (e ≤ now)

/-- A beam event at the present moment, an event of its own (R42). -/
def State.takeBeamEvent (lane : Nat) (b : Beam) (s : State) : State := (s.beamEvent lane b).writerTurn

/-- Every filter run of a lane that has lasted its filter time ends in its beam event (R42), the earlier first. Which of two
that fall due together is first is a free value (log entry 6). -/
def State.endRuns (lane : Nat) (s : State) : State :=
  match (s.lane lane).outer.dueAt s.clock.mono, (s.lane lane).inner.dueAt s.clock.mono with
  | none, none => s
  | some _, none => s.takeBeamEvent lane .outer
  | none, some _ => s.takeBeamEvent lane .inner
  | some o, some i =>
    let outerFirst := decide (o < i) || (decide (o = i) && Config.openBeamOrder s.freeIndex)
    let known := { s with freeIndex := if o = i then s.freeIndex + 1 else s.freeIndex }
    if outerFirst then (known.takeBeamEvent lane .outer).takeBeamEvent lane .inner
    else (known.takeBeamEvent lane .inner).takeBeamEvent lane .outer

/-- The lane that a CONFIGURE_LANE sets, where the request is taken and its body is well formed (R39, R173). -/
def configuredLane (r : Request) (s : State) : Option Nat :=
  if s.hostTakes ⟨0x38, r.tag, r.body⟩ ∧ r.tag ≠ 0 then (decodeConfigureLane r.body).map Prod.fst else none

/-- CONFIGURE_LANE (R39, R41, R42). The runs of the lane that have already lasted their filter times end in their beam events
first (log entry 13). A run that a change of polarity begins with a filter time of 0 is not timed: its beam event is taken in
the same moment. -/
def execConfigureLane (r : Request) (s : State) : Host.Outcome State Fault Refusal :=
  match configuredLane r s with
  | none => takeHost 0x38 decodeConfigureLane doConfigureLane r s
  | some lane =>
    match takeHost 0x38 decodeConfigureLane doConfigureLane r (s.endRuns lane) with
    | .next t => .next (t.endRuns lane)
    | stop => stop

/-- The beam as a notice detail (R47). -/
def beamDetail : Beam → Nat
  | .outer => 0 | .inner => 1

/-- BLOCK_TIMING_EXPIRY (R47): the lane becomes blocked if it was not. -/
def execBlockTimingExpiry (lane : Nat) (b : Beam) (s : State) : Host.Outcome State Fault Refusal :=
  if 4 ≤ lane then .fault .noSuchLane
  else match ((s.lane lane).beam b).blockEnd with
    | none => .next s
    | some t =>
      let l := s.lane lane
      let after := (s.advanceTo t).putLane lane
        { l.putBeam b { l.beam b with blockEnd := none } with blocked := true }
      event (after.raiseWhen (!l.blocked) (MemberId.blocked lane) (beamDetail b))

/-! ### Lane taps (R49 to R51) -/

/-- The direction a location wants (R50). -/
def wantedDirection : Location → Direction
  | .aboard => .outward
  | _ => .inward

/-- The tests of R49 from the sixth on, for a decoded person. -/
def laneRefusal (s : State) (lane : Nat) (p : Person) : Option Result :=
  let l := s.lane lane
  let d := wantedDirection p.location
  if p.location = .departed then some .departed
  else if !admits l.mode d then some .wrongDirection
  else if d = .outward ∧ p.cls ≠ .crew ∧ s.deadline = .passed then some .allAboardClosed
  else if p.gatePermit.isSome then some .alreadyPermitted
  else if 2 ≤ l.permits.length then some .permitsFull
  else if 256 ≤ s.movementLog.length then some .logFull
  else none

/-- A granted tap (R51): a permit joins the queue, the person's gate permit names the lane, the flap is OPEN. -/
def State.grantPermit (lane i : Nat) (p : Person) (s : State) : State :=
  let l := s.lane lane
  let permit := { person := i, direction := wantedDirection p.location, issued := s.clock.mono,
                  expiry := s.clock.mono + 1000 * l.setup.permitWindow : Permit }
  (s.changePerson i (some { p with gatePermit := some lane })).putLane lane
    { l with permits := l.permits ++ [permit], flapOpen := true }

/-- LANE_TAP at its lane (R49). -/
def tapLane (card : Card) (lane : Nat) (s : State) : State × StationAnswer :=
  if s.muster.active then (s, .plain .muster)
  else if s.store.state ≠ .opened then (s, .plain .powerFail)
  else if (s.lane lane).mode = .closed then (s, .plain .laneClosed)
  else if (s.lane lane).blocked then (s, .plain .laneBlocked)
  else match s.decodeCard card with
    | .failed reason i => (s.afterDecodeFailure reason i, .plain reason)
    | .passed i p => match laneRefusal s lane p with
      | some reason => (s, .plain reason)
      | none => (s.grantPermit lane i p,
          { result := .granted,
            groups := { StationGroups.empty with direction := some (wantedDirection p.location) } })

/-- LANE_TAP. -/
def execLaneTap (r : Request) (s : State) : Host.Outcome State Fault Refusal :=
  takeStation 0x03 decodeStationTap (fun q => atStation .lane q.station (tapLane q.card)) r s

/-- PERMIT_EXPIRY (R57): the permit of a person leaves the lane's queue and the no-show counter rises. -/
def execPermitExpiry (lane person : Nat) (s : State) : Host.Outcome State Fault Refusal :=
  if 4 ≤ lane then .fault .noSuchLane
  else if 8192 ≤ person then .fault .noSuchPerson
  else match (s.lane lane).permits.find? fun p => decide (p.person = person) with
    | none => .next s
    | some permit =>
      let before := (s.lane lane).counts
      let expired := (s.advanceTo permit.expiry).removePermits lane fun p => decide (p.person = person)
      let l := expired.lane lane
      let counted := expired.putLane lane { l with counts := { l.counts with noShows := bump l.counts.noShows } }
      event (counted.noteSaturation lane before)

/-! ### Reading a lane (R60, R61) -/

/-- A permit as fields. -/
def permitFields (p : Permit) : List Field :=
  [.b2 p.person, .b1 (directionCode p.direction), .b8 p.issued, .b8 p.expiry]

/-- A lane as fields, in the order of R60. Within its items the manual leaves the order open: the four values of CONFIGURE_LANE
stand before the mode, and the outer beam's filtered state before the inner's (DESIGN CHOICE, log entry 38). -/
def laneFields (l : Lane) (now : Nat) : List Field :=
  setupFields l.setup
    ++ [Field.b1 l.mode.code, Field.flag l.outer.broken, Field.flag l.inner.broken, Field.b1 l.recognizer.code]
    ++ Field.optional (fun o => [Field.flag o]) l.openAtStart
    ++ [Field.flag l.blocked, Field.flag l.flapOpen]
    ++ Field.list permitFields l.permits
    ++ [Field.b2 l.counts.inbound, Field.b2 l.counts.outbound, Field.b2 l.counts.balks,
        Field.b2 l.counts.late, Field.b2 l.counts.contrary,
        Field.b2 l.counts.forced, Field.b2 l.counts.noShows, Field.b4 (l.occupancyAt now),
        Field.flag l.saturationReported, Field.b8 now]

/-- READ_LANE (R60). -/
def execReadLane (r : Request) (s : State) : Host.Outcome State Fault Refusal :=
  takeHost 0x3A decodeLane (fun l s => (s, .okay (laneFields (s.lane l) s.clock.mono))) r s

/-- RESET_LANE_COUNTERS (R61): an occupied period in progress goes on, and counts from here (R44). -/
def doResetLaneCounters (lane : Nat) (s : State) : State × HostAnswer :=
  let l := s.lane lane
  (s.putLane lane { l with counts := LaneCounts.zero, saturationReported := false,
                           occupiedSince := l.occupiedSince.map fun _ => s.clock.mono }, .plain .ok)

/-- RESET_LANE_COUNTERS. -/
def execResetLaneCounters (r : Request) (s : State) : Host.Outcome State Fault Refusal :=
  takeHost 0x3B decodeLane doResetLaneCounters r s

/-! ### The all-aboard deadline (R64 to R66) -/

/-- The deadline becomes PASSED (R65, R66). -/
def State.passDeadline (s : State) : State :=
  let ashore := s.tallyCount .guest .ashore
  ({ s with deadline := .passed, deadlineArrived := false, guestsReported := ashore == 0 }
    |>.raise MemberId.allAboardReached ashore
    |>.raiseWhen (ashore == 0) MemberId.allGuestsAboard 0)

/-- The deadline as fields: its state, and the time when SET (R64). -/
def deadlineFields : Deadline → List Field
  | .none => [.b1 0, .b1 0]
  | .set t => [.b1 1, .b1 1, .b4 t]
  | .passed => [.b1 2, .b1 0]

/-- SET_ALL_ABOARD (R64). -/
def doSetAllAboard (time : Option Nat) (s : State) : State × HostAnswer :=
  if !s.clock.running then (s, .plain .clockUnset)
  else
    let after := match time with
      | none => { s with deadline := .none, deadlineArrived := false }
      | some t => if s.clock.shipTime < t then { s with deadline := .set t, deadlineArrived := false }
        else s.passDeadline
    (after, .okay (deadlineFields after.deadline))

/-- SET_ALL_ABOARD. -/
def execSetAllAboard (r : Request) (s : State) : Host.Outcome State Fault Refusal :=
  takeHost 0x3C decodeSetAllAboard doSetAllAboard r s

/-- ALL_ABOARD_DEADLINE_PASSED (R65): the gate unit takes the arrival it has been told of (R34). -/
def execAllAboardDeadlinePassed (s : State) : Host.Outcome State Fault Refusal :=
  if s.deadlineArrived then event s.passDeadline else .next s

/-! ### READ_MOVEMENTS (R63) -/

/-- A movement record as fields (section 11.6). -/
def movementFields (m : Movement) : List Field :=
  [Field.b4 m.sequence.toNat, Field.b2 m.person, Field.b1 m.lane, Field.b1 (directionCode m.direction),
   Field.b1 m.location.code,
   Field.flag m.redundant] ++ Field.optional (fun t => [Field.b4 t]) m.shipTime

/-- READ_MOVEMENTS (R63): the discard count, then the records (section 11.6). -/
def doReadMovements (count : Nat) (s : State) : State × HostAnswer :=
  ({ s with movementLog := s.movementLog.drop count, discardCount := 0 },
    .okay (.b1 s.discardCount :: Field.list movementFields (s.movementLog.take count)))

/-- READ_MOVEMENTS. -/
def execReadMovements (r : Request) (s : State) : Host.Outcome State Fault Refusal :=
  takeHost 0x3D decodeReadMovements doReadMovements r s

end Sys2Proof.Machine
end

