-- ==== Sys2Proof/Machine/Doors.lean ====
section
/-!
DEFINITION. The door unit: cabin records, door taps and the strike window, failure counting and lockout, door reports and
ajar timing (chapter 4).
-/

namespace Sys2Proof.Machine

/-! ### Settings and configuration (R68, R69) -/

/-- Clamps a value to a range. -/
def clampTo (low high n : Nat) : Nat := max low (min n high)

/-- The settings SET_DOOR_SETTINGS takes (R68). -/
def DoorSettings.clamped (d : DoorSettings) : DoorSettings :=
  { strikeTime := clampTo 1 30 d.strikeTime, ajarTime := clampTo 10 600 d.ajarTime,
    lockoutThreshold := clampTo 3 15 d.lockoutThreshold, lockoutTime := clampTo 10 3600 d.lockoutTime }

/-- The four settings as fields. -/
def settingsFields (d : DoorSettings) : List Field :=
  [.b1 d.strikeTime, .b2 d.ajarTime, .b1 d.lockoutThreshold, .b2 d.lockoutTime]

/-- SET_DOOR_SETTINGS (R68). -/
def doSetDoorSettings (d : DoorSettings) (s : State) : State × HostAnswer :=
  ({ s with doorSettings := DoorSettings.clamped d }, .okay (settingsFields (DoorSettings.clamped d)))

/-- SET_DOOR_SETTINGS. -/
def execSetDoorSettings (r : Request) (s : State) : Host.Outcome State Fault Refusal :=
  takeHost 0x43 decodeDoorSettings doSetDoorSettings r s

/-- A cabin configured while the muster is IDLE or ACTIVE (R69). -/
def Cabin.configure (v : Cabin) (active : Bool) : Cabin :=
  { v with configured := true, sweep := if active then .unswept else .none }

/-- A cabin made unconfigured: every field but the occupant count returns to its reset value (R69). -/
def Cabin.unconfigure (v : Cabin) : Cabin := { Cabin.reset with occupants := v.occupants }

/-- CONFIGURE_CABIN (R69, R133). -/
def doConfigureCabin (q : Nat × Bool) (s : State) : State × HostAnswer :=
  let v := s.cabin q.1
  if v.configured = q.2 then (s, .okay [.flag q.2])
  else if q.2 then
    ({ s.putCabin q.1 (v.configure s.muster.active) with
        muster := { s.muster with unswept := if s.muster.active then s.muster.unswept + 1 else s.muster.unswept } },
      .okay [.flag true])
  else if s.muster.active then (s, .plain .musterActive)
  else (s.putCabin q.1 v.unconfigure, .okay [.flag false])

/-- CONFIGURE_CABIN. -/
def execConfigureCabin (r : Request) (s : State) : Host.Outcome State Fault Refusal :=
  takeHost 0x40 decodeConfigureCabin doConfigureCabin r s

/-- An end time as fields: present while the timing runs (R70). -/
def endField (t : Option Nat) : List Field := Field.optional (fun t => [.b8 t]) t

/-- A cabin record as fields, in the order of R67, then the end times, the settings and the monotonic time (R70). -/
def cabinFields (v : Cabin) (d : DoorSettings) (now : Nat) : List Field :=
  [Field.flag v.configured, Field.flag v.releasedUntil.isSome, Field.flag v.sensedOpen,
   Field.flag v.ajarEnd.isSome, Field.flag v.ajarGiven,
   Field.flag v.privacy, Field.b1 v.failures, Field.flag v.lockoutUntil.isSome, Field.b1 v.sweep.code,
   Field.b1 v.occupants]
    ++ endField v.releasedUntil ++ endField v.ajarEnd ++ endField v.lockoutUntil ++ settingsFields d ++ [Field.b8 now]

/-- READ_CABIN (R70). -/
def execReadCabin (r : Request) (s : State) : Host.Outcome State Fault Refusal :=
  takeHost 0x41 decodeCabin (fun c s => (s, .okay (cabinFields (s.cabin c) s.doorSettings s.clock.mono))) r s

/-- CLEAR_LOCKOUT (R80). -/
def doClearLockout (c : Nat) (s : State) : State × HostAnswer :=
  let v := s.cabin c
  (s.putCabin c { v with lockoutUntil := none, failures := 0 }, .okay [.flag v.lockoutUntil.isSome])

/-- CLEAR_LOCKOUT. -/
def execClearLockout (r : Request) (s : State) : Host.Outcome State Fault Refusal :=
  takeHost 0x42 decodeCabin doClearLockout r s

/-! ### Door taps (R71 to R79) -/

/-- Whole seconds from `now` to an end time, rounded up; 0 at or after the end (R75, R76, R79). -/
def secondsLeft (now t : Nat) : Nat := (t - now + 999) / 1000

/-- The groups of a reply that carries a timing (section 11.4). -/
def timingGroups (seconds : Nat) (sweep : Bool) : StationGroups :=
  { StationGroups.empty with timing := some (seconds, sweep) }

/-- A granted tap (R75). -/
def grantDoor (c : Nat) (sweep : Bool) (s : State) : State × StationAnswer :=
  let v := s.cabin c
  match v.releasedUntil with
  | none =>
    (s.putCabin c { v with releasedUntil := some (s.clock.mono + 1000 * s.doorSettings.strikeTime), failures := 0 },
      { result := .granted, groups := timingGroups s.doorSettings.strikeTime sweep })
  | some t =>
    (s.putCabin c { v with failures := 0 },
      { result := .grantedAlreadyOpen, groups := timingGroups (secondsLeft s.clock.mono t) sweep })

/-- A sweeper's grant marks an UNSWEPT cabin SWEPT; the unswept count falls, and ALL_SWEPT is raised when it comes to 0
(R72, R133). -/
def State.sweepCabin (c : Nat) (s : State) : State :=
  let v := s.cabin c
  let first := v.sweep == .unswept
  let left := if first then s.muster.unswept - 1 else s.muster.unswept
  ({ s.putCabin c (if first then { v with sweep := .swept } else v) with
      muster := { s.muster with unswept := left } }).raiseWhen (first && left == 0) MemberId.allSwept s.muster.id

/-- A counted refusal (R77, R78): while no lockout is in force the failure count rises, and at or above the threshold a
lockout starts. -/
def State.countFailure (c : Nat) (s : State) : State :=
  let v := s.cabin c
  match v.lockoutUntil with
  | some _ => s
  | none =>
    if s.doorSettings.lockoutThreshold ≤ v.failures + 1 then
      (s.putCabin c { v with failures := 0, lockoutUntil := some (s.clock.mono + 1000 * s.doorSettings.lockoutTime) }).raise
        MemberId.doorLockout c
    else s.putCabin c { v with failures := v.failures + 1 }

/-- The judgement of a guest's or visitor's tap (R73). -/
def guestRefusal (c : Nat) (p : Person) : Option Result :=
  if p.cabin ≠ some c then some .notYourCabin
  else match p.location with
    | .expected => some .notBoarded
    | .aboard => none
    | .ashore => some .ashoreCard
    | .departed => some .ashoreCard

/-- The judgement of a crew member's tap (R74). -/
def crewRefusal (c : Nat) (v : Cabin) (p : Person) : Option Result :=
  match p.rights with
  | none => some .notYourCabin
  | some (first, last) =>
    if c < first ∨ last < c then some .notYourCabin else if v.privacy then some .privacy else none

/-- DOOR_TAP (R71). -/
def doDoorTap (q : DoorTap) (s : State) : State × StationAnswer :=
  let v := s.cabin q.cabin
  if !v.configured then refuseSource q.cabin s
  else match s.decodeCard q.card with
    | .failed reason i => ((s.afterDecodeFailure reason i).countFailure q.cabin, .plain reason)
    | .passed i p =>
      if s.muster.active ∧ p.cls = .crew ∧ p.sweep then grantDoor q.cabin true (s.sweepCabin q.cabin)
      else match v.lockoutUntil with
        | some t => (s, { result := .lockedOut, groups := timingGroups (secondsLeft s.clock.mono t) false })
        | none =>
          if !p.loaded then (s, .plain .recordIncomplete)
          else match (if p.cls = .crew then crewRefusal q.cabin v p else guestRefusal q.cabin p) with
            | none => grantDoor q.cabin false s
            | some reason =>
              ((s.raiseWhen (reason == .ashoreCard) MemberId.ashoreCard i).countFailure q.cabin, .plain reason)

/-- DOOR_TAP. -/
def execDoorTap (r : Request) (s : State) : Host.Outcome State Fault Refusal :=
  takeStation 0x01 decodeDoorTap doDoorTap r s

/-- STRIKE_WINDOW_END (R76). -/
def execStrikeWindowEnd (c : Nat) (s : State) : Host.Outcome State Fault Refusal :=
  if 4096 ≤ c then .fault .noSuchCabin
  else match (s.cabin c).releasedUntil with
    | none => .next s
    | some t => event ((s.advanceTo t).putCabin c { s.cabin c with releasedUntil := none })

/-- LOCKOUT_END (R79). -/
def execLockoutEnd (c : Nat) (s : State) : Host.Outcome State Fault Refusal :=
  if 4096 ≤ c then .fault .noSuchCabin
  else match (s.cabin c).lockoutUntil with
    | none => .next s
    | some t => event ((s.advanceTo t).putCabin c { s.cabin c with lockoutUntil := none })

/-! ### Door reports (R81 to R85) -/

/-- What a report does to a configured cabin (R82, R83, R85). -/
def Cabin.report (v : Cabin) (e : DoorEvent) (now ajarTime : Nat) : Cabin :=
  match e with
  | .opened _ => { v with sensedOpen := true, ajarEnd := some (now + 1000 * ajarTime), ajarGiven := false }
  | .closed => if v.sensedOpen then { v with sensedOpen := false, ajarEnd := none, ajarGiven := false } else v
  | .privacyOn => { v with privacy := true }
  | .privacyOff => { v with privacy := false }
  | .tamper => v

/-- DOOR_REPORT (R81 to R85). -/
def doDoorReport (q : DoorReport) (s : State) : State × StationAnswer :=
  let v := s.cabin q.cabin
  if !v.configured then refuseSource q.cabin s
  else
    let reported := s.putCabin q.cabin (v.report q.event s.clock.mono s.doorSettings.ajarTime)
    (reported
      |>.raiseWhen (q.event == .opened .unexplained) MemberId.doorForced q.cabin
      |>.raiseWhen (q.event == .tamper) MemberId.doorTamper q.cabin, .plain .ack)

/-- DOOR_REPORT. -/
def execDoorReport (r : Request) (s : State) : Host.Outcome State Fault Refusal :=
  takeStation 0x02 decodeDoorReport doDoorReport r s

/-- AJAR_TIMING_END (R84): while the door is OPEN. -/
def execAjarTimingEnd (c : Nat) (s : State) : Host.Outcome State Fault Refusal :=
  if 4096 ≤ c then .fault .noSuchCabin
  else match (s.cabin c).ajarEnd with
    | none => .next s
    | some t =>
      if (s.cabin c).sensedOpen then
        event (((s.advanceTo t).putCabin c { s.cabin c with ajarEnd := none, ajarGiven := true }).raise
          MemberId.doorAjar c)
      else .next s

end Sys2Proof.Machine
end

