-- ==== Sys2Proof/Machine/Charging.lean ====
section
/-!
DEFINITION. The charge unit's outlets, the purchase arithmetic, the authorization tests, captures and BAR_SALE
(chapter 5, R113 to R115, R123).
-/

namespace Sys2Proof.Machine

/-! ### Outlets (R86, R87) -/

/-- The record CONFIGURE_OUTLET takes (R87). -/
def Outlet.clamped (o : Outlet) : Outlet :=
  { enabled := o.enabled, serviceRate := min o.serviceRate 250, taxRate0 := min o.taxRate0 3000,
    taxRate1 := min o.taxRate1 3000, taxRate2 := min o.taxRate2 3000, taxRate3 := min o.taxRate3 3000,
    alcoholAllowed := o.alcoholAllowed, tipsAllowed := o.tipsAllowed, holdLife := clampTo 600 86400 o.holdLife,
    voidWindow := min o.voidWindow 3600 }

/-- An outlet record as fields (R87). -/
def outletFields (o : Outlet) : List Field :=
  [.flag o.enabled, .b1 o.serviceRate, .b2 o.taxRate0, .b2 o.taxRate1, .b2 o.taxRate2, .b2 o.taxRate3,
   .flag o.alcoholAllowed, .flag o.tipsAllowed, .b4 o.holdLife, .b2 o.voidWindow]

/-- CONFIGURE_OUTLET (R87). -/
def doConfigureOutlet (q : Nat × Outlet) (s : State) : State × HostAnswer :=
  ({ s with outlets := s.outlets.write Outlet.reset q.1 (Outlet.clamped q.2) },
    .okay (outletFields (Outlet.clamped q.2)))

/-- CONFIGURE_OUTLET. -/
def execConfigureOutlet (r : Request) (s : State) : Host.Outcome State Fault Refusal :=
  takeHost 0x48 decodeConfigureOutlet doConfigureOutlet r s

/-- READ_OUTLET (R87). -/
def execReadOutlet (r : Request) (s : State) : Host.Outcome State Fault Refusal :=
  takeHost 0x49 decodeReadOutlet (fun o s => (s, .okay (outletFields (s.outlet o)))) r s

/-! ### The arithmetic (R90 to R94) -/

/-- The line amount (R90). -/
def lineAmount (l : Line) : Nat := l.price * l.quantity

/-- The sum of the line amounts of the lines that `p` picks (R90, R92). -/
def sumLines (p : Line → Bool) (ls : List Line) : Nat := ((ls.filter p).map lineAmount).sum

/-- The service charge (R91). -/
def serviceCharge (subtotal rate : Nat) : Nat := (subtotal * rate + 500) / 1000

/-- The tax of one class (R92). -/
def classTax (base rate : Nat) : Nat := (base * rate + 5000) / 10000

/-- The tax of one class of the lines of a purchase (R92). -/
def taxOf (rate k : Nat) (ls : List Line) : Nat := classTax (sumLines (fun l => l.taxClass == k) ls) rate

/-- The tax of a purchase (R92). -/
def purchaseTax (o : Outlet) (ls : List Line) : Nat :=
  taxOf o.taxRate0 0 ls + taxOf o.taxRate1 1 ls + taxOf o.taxRate2 2 ls + taxOf o.taxRate3 3 ls

/-- The tip taken into the total (R93). -/
def purchaseTip (o : Outlet) (tip : Nat) : Nat := if o.tipsAllowed then tip else 0

/-- The five values of a purchase (R90 to R94). -/
def priceOf (o : Outlet) (ls : List Line) (tip : Nat) : Amounts :=
  let subtotal := sumLines (fun _ => true) ls
  let service := serviceCharge subtotal o.serviceRate
  { subtotal, service, tax := purchaseTax o ls, tip := purchaseTip o tip,
    total := subtotal + service + purchaseTax o ls + purchaseTip o tip }

/-- TIP_DROPPED (R93). -/
def dropsTip (o : Outlet) (tip : Nat) : Bool := !o.tipsAllowed && decide (0 < tip)

/-! ### Accounts (R99 to R101) -/

/-- The exposure (R8, R99). -/
def Account.exposure (a : Account) : Int := a.posted + a.held + a.unposted

/-- The available amount (R99). -/
def Account.available (a : Account) : Nat := (a.creditLimit - a.exposure).toNat

/-- The spending that counts today (R100). -/
def Account.spentNow (a : Account) (day : Nat) : Nat := if a.spentDay = day then a.spentToday else 0

/-- An account after a capture of a total, `freed` being the amount of the hold that the capture frees
(R101, R107, R115). -/
def Account.captured (a : Account) (day total freed : Nat) : Account :=
  { a with held := a.held - freed, unposted := a.unposted + total, spentToday := min (a.spentNow day + total) maxBalance,
           spentDay := day }

/-! ### The tests (R95 to R100) -/

/-- The first four tests of a sale and of both tab requests (R95, R104, R106). -/
def barRefusal (s : State) (outlet : Nat) : Option Result :=
  if s.muster.active then some .muster
  else if !s.clock.running then some .clockUnset
  else if s.store.state ≠ .opened then some .powerFail
  else if !(s.outlet outlet).enabled then some .outletClosed
  else none

/-- The account test (R96): the account, or the reason. -/
def accountTest (p : Person) : Except Result Account :=
  match p.account with
  | none => .error (if p.loaded then .noAccount else .recordIncomplete)
  | some a => if a.suspended then .error .suspended else .ok a

/-- The alcohol test (R97) fails. -/
def alcoholFails (o : Outlet) (a : Account) (ls : List Line) : Bool :=
  ls.any Line.alcohol && (a.noAlcohol || !o.alcoholAllowed)

/-- The greatest total of one purchase (R98). -/
def ceiling : Nat := 10000000

/-- The credit test (R99) fails. -/
def creditFails (a : Account) (increase : Nat) : Bool :=
  decide (0 < increase) && decide ((a.creditLimit : Int) < a.exposure + increase)

/-- The daily test (R100) fails. -/
def dailyFails (a : Account) (day increase : Nat) : Bool :=
  match a.dailyLimit with
  | none => false
  | some limit => decide (0 < increase) && decide (limit < a.spentNow day + increase)

/-- The authorization tests after the account test, in order (R97 to R100). -/
def authorization (o : Outlet) (a : Account) (ls : List Line) (total increase day : Nat) : Option Result :=
  if alcoholFails o a ls then some .alcohol
  else if ceiling < total then some .overCeiling
  else if creditFails a increase then some .credit
  else if dailyFails a day increase then some .daily
  else none

/-- The charge journal holds 1,024 entries (R113). -/
def State.journalIsFull (s : State) : Bool := decide (1024 ≤ s.journal.length)

/-- The tests of a capture after the account test (R95, R106). -/
def captureRefusal (s : State) (outlet : Nat) (a : Account) (ls : List Line) (total increase : Nat) : Option Result :=
  match authorization (s.outlet outlet) a ls total increase s.clock.currentDay with
  | some r => some r
  | none => if s.journalIsFull then some .journalFull else none

/-- A reason given at the credit test or later (R99). -/
def Result.creditOrLater : Result → Bool
  | .credit | .daily | .journalFull | .holdLimit | .holdsFull => true
  | _ => false

/-! ### Captures (R114, R115, R123) -/

/-- The charge number that follows one (R114). -/
def chargeAfter (n : Nat) : Nat := if n = 4294967295 then 1 else n + 1

/-- The entry that a capture appends (R115). -/
def State.entryOf (s : State) (person : Nat) (generation : BitVec 4) (outlet station : Nat) (kind : EntryKind)
    (amounts : Amounts) (lines : List Line) : Entry :=
  { boot := s.store.boot, charge := s.nextCharge, unitAddress := s.unitAddress, person, generation, outlet, station,
    kind, amounts, shipTime := s.clock.shipTime, day := s.clock.currentDay, lines }

/-- A capture (R101, R115, R123): the account, the journal, the charge number, and CHARGE_WAITING when the journal was
empty and the allowance is 0. R107 says that a close raises no notice, and R115 and R123 have every capture, a granted
BAR_CLOSE_TAB included, raise this one: the model follows R115 and R123 (DESIGN CHOICE, log entry 32). -/
def State.capture (e : Entry) (freed : Nat) (s : State) : State :=
  let charged := s.changeAccount e.person fun a => a.captured e.day e.amounts.total freed
  ({ charged with journal := s.journal ++ [e], nextCharge := chargeAfter s.nextCharge }).raiseWhen
    (s.journal.isEmpty && s.allowance == 0) MemberId.chargeWaiting e.person

/-- What a JOURNAL_FULL refusal does besides refusing (R115). -/
def State.afterCaptureRefusal (reason : Result) (outlet : Nat) (s : State) : State :=
  let full := reason == .journalFull
  ({ s with journalFullReported := s.journalFullReported || full }).raiseWhen (full && !s.journalFullReported)
    MemberId.journalFull outlet

/-- The groups of a reply to a computed purchase (R102). -/
def purchaseGroups (amounts : Amounts) (dropped : Bool) (available charge : Option Nat) : StationGroups :=
  { StationGroups.empty with amounts := some (amounts, dropped), available, charge }

/-- The reply to a purchase refused before its account is known (R102). -/
def refusedPurchase (amounts : Amounts) (dropped : Bool) (reason : Result) : StationAnswer :=
  { result := reason, groups := purchaseGroups amounts dropped none none }

/-- The reply to a purchase refused on or after its account (R99, R102). -/
def refusedCapture (amounts : Amounts) (dropped : Bool) (reason : Result) (a : Account) : StationAnswer :=
  { result := reason,
    groups := purchaseGroups amounts dropped (if reason.creditOrLater then some a.available else none) none }

/-- The reply to a granted capture (R102). -/
def grantedCapture (amounts : Amounts) (dropped : Bool) (after : Account) (charge : Nat) : StationAnswer :=
  { result := .granted, groups := purchaseGroups amounts dropped (some after.available) (some charge) }

/-! ### BAR_SALE (R95) -/

/-- A sale once its card is decoded (R95 from test 6). -/
def sellTo (q : Sale) (outlet i : Nat) (p : Person) (s : State) : State × StationAnswer :=
  let o := s.outlet outlet
  let amounts := priceOf o q.lines q.tip
  match accountTest p with
  | .error reason => (s, refusedPurchase amounts (dropsTip o q.tip) reason)
  | .ok a => match captureRefusal s outlet a q.lines amounts.total amounts.total with
    | some reason => (s.afterCaptureRefusal reason outlet, refusedCapture amounts (dropsTip o q.tip) reason a)
    | none =>
      (s.capture (s.entryOf i p.generation outlet q.station .sale amounts q.lines) 0,
        grantedCapture amounts (dropsTip o q.tip) (a.captured s.clock.currentDay amounts.total 0) s.nextCharge)

/-- BAR_SALE at its outlet (R95). The card's generation is the record's, since the decode has passed (R4). -/
def doBarSale (q : Sale) (outlet : Nat) (s : State) : State × StationAnswer :=
  let o := s.outlet outlet
  match barRefusal s outlet with
  | some reason => (s, .plain reason)
  | none => match s.decodeCard q.card with
    | .failed reason i =>
      (s.afterDecodeFailure reason i, refusedPurchase (priceOf o q.lines q.tip) (dropsTip o q.tip) reason)
    | .passed i p => sellTo q outlet i p s

/-- BAR_SALE. -/
def execBarSale (r : Request) (s : State) : Host.Outcome State Fault Refusal :=
  takeStation 0x04 decodeSale (fun q => atStation .bar q.station (doBarSale q)) r s

end Sys2Proof.Machine
end

