-- ==== Sys2Proof/Machine/Holds.lean ====
section
/-!
DEFINITION. The hold table, voids, posting and the host's messages on them (chapter 6).
-/

namespace Sys2Proof.Machine

/-! ### The hold table (R103) -/

/-- The OPEN holds of a person with their slots, in ascending slot order (R112). -/
def State.holdsOf (s : State) (person : Nat) : List (Nat × Slot) :=
  s.slots.filter fun e => e.2.hold.any fun h => h.person == person

/-- The number of OPEN holds. -/
def State.openHolds (s : State) : Nat := (s.slots.filter fun e => e.2.hold.isSome).length

/-- The lowest-numbered FREE slot (R105). -/
def State.freeSlot (s : State) : Option Nat := (List.range 512).find? fun k => (s.slot k).hold.isNone

/-- The hold that a handle names: its slot is OPEN with the handle's tag (R106, R111). -/
def State.holdAt (s : State) (slot : Nat) (tag : BitVec 8) : Option Hold :=
  if (s.slot slot).tag = tag then (s.slot slot).hold else none

/-- A slot becomes FREE, keeping its tag. -/
def State.vacate (slot : Nat) (s : State) : State := s.putSlot slot { s.slot slot with hold := none }

/-- A hold is freed without a capture (R108, R111): the slot becomes FREE and the held total falls by the amount. -/
def State.freeHold (slot : Nat) (h : Hold) (s : State) : State :=
  (s.vacate slot).changeAccount h.person fun a => { a with held := a.held - h.amount }

/-- A hold expires (R108). -/
def State.expireHold (slot : Nat) (h : Hold) (s : State) : State :=
  (s.freeHold slot h).raise MemberId.holdExpired h.person

/-! ### BAR_OPEN_TAB (R104, R105) -/

/-- The tests of a tab's opening after the account test (R104). -/
def openTabRefusal (s : State) (outlet i : Nat) (a : Account) (amount : Nat) : Option Result :=
  match authorization (s.outlet outlet) a [] amount amount s.clock.currentDay with
  | some r => some r
  | none =>
    if 4 ≤ (s.holdsOf i).length then some .holdLimit
    else if s.freeSlot.isNone then some .holdsFull
    else none

/-- The hold that a granted tab opens (R105). -/
def State.newHold (s : State) (q : OpenTab) (outlet i : Nat) : Hold :=
  { person := i, outlet, station := q.station, amount := q.amount, opened := s.clock.shipTime,
    expiry := min (s.clock.shipTime + (s.outlet outlet).holdLife) maxShipTime, arrived := false }

/-- A granted tab in a slot (R105). -/
def grantTab (q : OpenTab) (outlet i k : Nat) (a : Account) (s : State) : State × StationAnswer :=
  let tag := (s.slot k).tag + 1
  ((s.putSlot k { tag, hold := some (s.newHold q outlet i) }).changeAccount i
      fun a => { a with held := a.held + q.amount },
    { result := .granted,
      groups := { StationGroups.empty with
        available := some { a with held := a.held + q.amount : Account }.available
        handle := some (k, tag) } })

/-- A tab's opening once its card is decoded (R104 from test 6). -/
def openTabFor (q : OpenTab) (outlet i : Nat) (p : Person) (s : State) : State × StationAnswer :=
  match accountTest p with
  | .error reason => (s, .plain reason)
  | .ok a => match openTabRefusal s outlet i a q.amount with
    | some reason =>
      (s, { result := reason,
            groups := { StationGroups.empty with
              available := if reason.creditOrLater then some a.available else none } })
    | none => match s.freeSlot with
      | none => (s, .plain .holdsFull)
      | some k => grantTab q outlet i k a s

/-- BAR_OPEN_TAB at its outlet (R104). -/
def doOpenTab (q : OpenTab) (outlet : Nat) (s : State) : State × StationAnswer :=
  match barRefusal s outlet with
  | some reason => (s, .plain reason)
  | none => match s.decodeCard q.card with
    | .failed reason i => (s.afterDecodeFailure reason i, .plain reason)
    | .passed i p => openTabFor q outlet i p s

/-- BAR_OPEN_TAB. -/
def execBarOpenTab (r : Request) (s : State) : Host.Outcome State Fault Refusal :=
  takeStation 0x05 decodeOpenTab (fun q => atStation .bar q.station (doOpenTab q)) r s

/-! ### BAR_CLOSE_TAB (R106, R107) -/

/-- The account of a hold's person and its record's generation, or the account test's reason (R96, R106). -/
def holderTest (s : State) (h : Hold) : Except Result (BitVec 4 × Account) :=
  match s.person h.person with
  | none => .error .noAccount
  | some p => match accountTest p with
    | .error r => .error r
    | .ok a => .ok (p.generation, a)

/-- A close against the hold its handle names (R106 from test 6, R107). Its capture raises CHARGE_WAITING as R115 and R123
say, over the sentence of R107 that a close raises no notice (DESIGN CHOICE, log entry 32). -/
def closeHold (q : CloseTab) (outlet : Nat) (h : Hold) (s : State) : State × StationAnswer :=
  let o := s.outlet outlet
  let amounts := priceOf o q.lines q.tip
  if h.outlet ≠ outlet then (s, refusedPurchase amounts (dropsTip o q.tip) .wrongOutlet)
  else match holderTest s h with
    | .error reason => (s, refusedPurchase amounts (dropsTip o q.tip) reason)
    | .ok (generation, a) =>
      match captureRefusal s outlet a q.lines amounts.total (amounts.total - h.amount) with
      | some reason => (s.afterCaptureRefusal reason outlet, refusedCapture amounts (dropsTip o q.tip) reason a)
      | none =>
        ((s.vacate q.slot).capture (s.entryOf h.person generation outlet q.station .tabClose amounts q.lines) h.amount,
          grantedCapture amounts (dropsTip o q.tip) (a.captured s.clock.currentDay amounts.total h.amount) s.nextCharge)

/-- BAR_CLOSE_TAB at its outlet (R106). -/
def doCloseTab (q : CloseTab) (outlet : Nat) (s : State) : State × StationAnswer :=
  let o := s.outlet outlet
  match barRefusal s outlet with
  | some reason => (s, .plain reason)
  | none => match s.holdAt q.slot q.tag with
    | none => (s, refusedPurchase (priceOf o q.lines q.tip) (dropsTip o q.tip) .holdGone)
    | some h => closeHold q outlet h s

/-- BAR_CLOSE_TAB. -/
def execBarCloseTab (r : Request) (s : State) : Host.Outcome State Fault Refusal :=
  takeStation 0x06 decodeCloseTab (fun q => atStation .bar q.station (doCloseTab q)) r s

/-! ### HOLD_EXPIRY (R108, R110) -/

/-- HOLD_EXPIRY: the charge unit takes the arrival it has been told of (R34), while the muster is IDLE. -/
def execHoldExpiry (slot : Nat) (s : State) : Host.Outcome State Fault Refusal :=
  if 512 ≤ slot then .fault .noSuchSlot
  else match (s.slot slot).hold with
    | none => .next s
    | some h => if h.arrived ∧ ¬ s.muster.active then event (s.expireHold slot h) else .next s

/-! ### Release and reading (R111, R112, R118, R119) -/

/-- RELEASE_HOLD (R111). -/
def doReleaseHold (q : Nat × BitVec 8) (s : State) : State × HostAnswer :=
  match s.holdAt q.1 q.2 with
  | none => (s, .plain .holdGone)
  | some h => (s.freeHold q.1 h, .okay [.b2 h.person, .b4 h.amount])

/-- RELEASE_HOLD. -/
def execReleaseHold (r : Request) (s : State) : Host.Outcome State Fault Refusal :=
  takeHost 0x52 decodeReleaseHold doReleaseHold r s

/-- A hold as fields: handle, outlet, station, amount, opened and expiry ship times (R112). -/
def holdFields (e : Nat × Slot) : List Field :=
  match e.2.hold with
  | none => []
  | some h => [.b2 e.1, .b1 e.2.tag.toNat, .b1 h.outlet, .b1 h.station, .b4 h.amount, .b4 h.opened, .b4 h.expiry]

/-- READ_HOLDS (R112). -/
def execReadHolds (r : Request) (s : State) : Host.Outcome State Fault Refusal :=
  takeHost 0x51 decodeIndex
    (fun i s => (s, .okay (Field.list holdFields (s.holdsOf i) ++ [Field.b4 s.clock.shipTime]))) r s

/-- The charge numbers of the oldest and the newest entry (R118). -/
def oldestNewest (journal : List Entry) : Option (Nat × Nat) :=
  match journal.head?, journal.getLast? with
  | some a, some b => some (a.charge, b.charge)
  | _, _ => none

/-- The journal status as fields (R118). The charge numbers of the oldest and the newest entry stand behind one presence byte,
as one group: whether each has its own the manual leaves open (DESIGN CHOICE, log entry 33). -/
def State.journalFields (s : State) : List Field :=
  [Field.b2 s.journal.length] ++ Field.optional (fun p => [Field.b4 p.1, Field.b4 p.2]) (oldestNewest s.journal)
    ++ [Field.b4 s.nextCharge, Field.b2 s.allowance, Field.flag s.journalFullReported, Field.b2 s.openHolds,
        Field.b2 s.store.boot.toNat]

/-- READ_JOURNAL_STATUS (R118). -/
def execReadJournalStatus (r : Request) (s : State) : Host.Outcome State Fault Refusal :=
  takeHost 0x53 decodeEmpty (fun _ s => (s, .okay s.journalFields)) r s

/-- GRANT_POSTING (R119). -/
def doGrantPosting (n : Nat) (s : State) : State × HostAnswer :=
  ({ s with allowance := min (s.allowance + n) 1024 }, .okay [.b2 (min (s.allowance + n) 1024)])

/-- GRANT_POSTING. -/
def execGrantPosting (r : Request) (s : State) : Host.Outcome State Fault Refusal :=
  takeHost 0x50 decodeGrantPosting doGrantPosting r s

/-! ### BAR_VOID (R116, R117) -/

/-- The journal without an entry; the journal-full-reported flag is cleared when it was full (R115). -/
def State.removeEntry (charge : Nat) (s : State) : State :=
  { s with journal := s.journal.eraseP fun e => e.charge == charge
           journalFullReported := s.journalFullReported && !s.journalIsFull }

/-- An account after a void of an entry (R117). -/
def Account.voided (a : Account) (e : Entry) : Account :=
  { a with unposted := a.unposted - e.amounts.total
           spentToday := if e.day = a.spentDay then a.spentToday - e.amounts.total else a.spentToday }

/-- The time test of a void fails (R116). -/
def voidTooLate (window now : Nat) (e : Entry) : Bool := window == 0 || decide (e.shipTime + window < now)

/-- The tests of a void after the entry is found (R116). -/
def voidRefusal (s : State) (outlet : Nat) (e : Entry) : Option Result :=
  if e.outlet ≠ outlet then some .wrongOutlet
  else if voidTooLate (s.outlet outlet).voidWindow s.clock.shipTime e then some .voidWindow
  else none

/-- The account at an index, whatever the record's condition. -/
def State.accountOf (s : State) (i : Nat) : Option Account := (s.person i).bind Person.account

/-- The available amount of a granted void (R117). Where the entry's person has no account any more (the note of R117)
the manual states no value: a free value (log entry 6). -/
def State.availableAfterVoid (s : State) (e : Entry) : Nat :=
  match s.accountOf e.person with
  | some a => (a.voided e).available
  | none => (Config.openAvailable s.freeIndex).toNat

/-- A granted void (R117). -/
def grantVoid (e : Entry) (s : State) : State × StationAnswer :=
  let after := (s.removeEntry e.charge).changeAccount e.person fun a => a.voided e
  ({ after with freeIndex := if (s.accountOf e.person).isNone then s.freeIndex + 1 else s.freeIndex },
    { result := .granted, groups := purchaseGroups e.amounts false (some (s.availableAfterVoid e)) (some e.charge) })

/-- BAR_VOID at its outlet (R116). -/
def doBarVoid (q : VoidCharge) (outlet : Nat) (s : State) : State × StationAnswer :=
  if s.muster.active then (s, .plain .muster)
  else match s.journal.find? fun e => e.charge == q.charge with
    | none => (s, .plain .notInJournal)
    | some e => match voidRefusal s outlet e with
      | some reason => (s, .plain reason)
      | none => grantVoid e s

/-- BAR_VOID. -/
def execBarVoid (r : Request) (s : State) : Host.Outcome State Fault Refusal :=
  takeStation 0x07 decodeVoid (fun q => atStation .bar q.station (doBarVoid q)) r s

/-! ### Posting (R120, R121, R124) -/

/-- The charge unit has a post ready (R120). -/
def State.postReady (s : State) : Bool := decide (0 < s.allowance) && !s.journal.isEmpty && !s.host.asleep

/-- An account after a posting of a total (R121). -/
def Account.afterPost (a : Account) (total : Nat) : Account :=
  { a with unposted := a.unposted - total, posted := min (a.posted + total) maxBalance }

/-- A posting clamps the balance of an account (R121). -/
def clampsBalance (a : Option Account) (total : Nat) : Bool := a.any fun a => decide ((maxBalance : Int) < a.posted + total)

/-- The posting of the entry at the head of the journal (R121, R124). -/
def State.post (e : Entry) (s : State) : State :=
  let after := { s with
      journal := s.journal.tail
      journalFullReported := s.journalFullReported && !s.journalIsFull
      allowance := s.allowance - 1 }.changeAccount e.person fun a => a.afterPost e.amounts.total
  after.raiseWhen (clampsBalance (s.accountOf e.person) e.amounts.total) MemberId.balanceClamped e.person
    |>.raiseWhen (s.allowance == 1) MemberId.postingDrained s.journal.tail.length

/-- CHARGE_POST_START (R121, R175): the transmitter is free, no reply waits, no group is deliverable and a post is
ready. -/
def execChargePostStart (s : State) : Host.Outcome State Fault Refusal :=
  if s.hostFree ∧ s.host.replies = [] ∧ s.chosenGroup = none ∧ s.postReady then
    match s.journal.head? with
    | none => .next s
    | some e => event ((s.post e).sendHost e.frame)
  else .next s

end Sys2Proof.Machine
end

