-- ==== Sys2Proof/Machine/MusterUnit.lean ====
section
/-!
DEFINITION. The muster unit: start and end, credits at the points, and READ_MUSTER (chapter 7).
-/

namespace Sys2Proof.Machine

/-! ### START_MUSTER (R128) -/

/-- A record at the start of a muster (R128). -/
def Person.atMusterStart (p : Person) : Person :=
  { p with muster := if p.location = .aboard then .unmustered else p.muster }

/-- A cabin at the start of a muster (R128). -/
def Cabin.atMusterStart (v : Cabin) : Cabin := { v with sweep := if v.configured then .unswept else v.sweep }

/-- The number of ABOARD records (R127). -/
def State.aboardCount (s : State) : Nat :=
  (s.persons.filter fun e => e.2.any fun p => p.location == .aboard).length

/-- The number of configured cabins. -/
def State.configuredCount (s : State) : Nat := (s.cabins.filter fun e => e.2.configured).length

/-- The changes of a granted START_MUSTER (R128, R132). -/
def State.beginMuster (id : Nat) (s : State) : State :=
  ({ s with
      persons := s.persons.mapRecords none (Option.map Person.atMusterStart)
      cabins := s.cabins.mapRecords Cabin.reset Cabin.atMusterStart
      muster := { active := true, id, points := [], unrecorded := 0, unmustered := s.aboardCount,
                  unswept := s.configuredCount } }).cancelAllPermits.markControl.raiseWhen
    (s.aboardCount == 0) MemberId.allMustered id

/-- START_MUSTER (R128). -/
def doStartMuster (id : Nat) (s : State) : State × HostAnswer :=
  if s.muster.active then (s, .plain .musterActive)
  else if s.store.state ≠ .opened then (s, .plain .powerFail)
  else (s.beginMuster id, .okay [.b2 id, .b2 s.aboardCount, .b2 s.configuredCount])

/-- START_MUSTER. -/
def execStartMuster (r : Request) (s : State) : Host.Outcome State Fault Refusal :=
  takeHost 0x58 decodeMusterId doStartMuster r s

/-! ### Credits (R129 to R131) -/

/-- What a credit answers: the result, and the point left in a move. -/
structure Credit where
  result : Result
  left : Option MusterState
  deriving DecidableEq, Repr

/-- A credit of a record at a point (R130, R131). -/
def creditPerson (i point : Nat) (p : Person) (s : State) : State × Credit :=
  if p.location = .aboard then
    if p.muster = .mustered point then (s, { result := .alreadyMustered, left := none })
    else
      let moves := p.muster.isMustered
      ((s.changePerson i (some { p with muster := .mustered point })).raiseWhen moves MemberId.pointMove i,
        { result := .mustered, left := if moves then some p.muster else none })
  else
    ((s.changePerson i (some { p with location := .aboard, muster := .mustered point })).raise
        MemberId.tallyCorrected i,
      { result := .mustered, left := none })

/-- The point byte of a muster state: the point, or 0xFF for UNRECORDED (section 11.4). -/
def pointByte : MusterState → Nat
  | .mustered p => p
  | _ => 0xFF

/-- The reply group of a credit (section 11.4): 0xFE when there was no move. -/
def creditGroups (i point : Nat) (c : Credit) : StationGroups :=
  { StationGroups.empty with muster := some (i, point, (c.left.map pointByte).getD 0xFE) }

/-- MUSTER_TAP at its point (R129). -/
def doMusterTap (card : Card) (point : Nat) (s : State) : State × StationAnswer :=
  if !s.muster.active then (s, .plain .notActive)
  else if s.store.state ≠ .opened then (s, .plain .powerFail)
  else match s.decodeCard card with
    | .failed reason i => (s.afterDecodeFailure reason i, .plain reason)
    | .passed i p =>
      let (after, c) := creditPerson i point p s
      (after, { result := c.result, groups := creditGroups i point c })

/-- MUSTER_TAP. -/
def execMusterTap (r : Request) (s : State) : Host.Outcome State Fault Refusal :=
  takeStation 0x08 decodeStationTap (fun q => atStation .muster q.station (doMusterTap q.card)) r s

/-- MUSTER_PERSON (R134). That the point left stands behind a presence byte is a DESIGN CHOICE (log entry 30). -/
def doMusterPerson (q : Nat × Nat) (s : State) : State × HostAnswer :=
  if !s.muster.active then (s, .plain .notActive)
  else if s.store.state ≠ .opened then (s, .plain .powerFail)
  else match s.person q.1 with
    | none => (s, .plain .noRecord)
    | some p =>
      let (after, c) := creditPerson q.1 q.2 p s
      (after, { result := c.result,
                fields := [.b2 q.1, .b1 q.2] ++ Field.optional (fun m => [.b1 (pointByte m)]) c.left })

/-- MUSTER_PERSON. -/
def execMusterPerson (r : Request) (s : State) : Host.Outcome State Fault Refusal :=
  takeHost 0x5A decodeMusterPerson doMusterPerson r s

/-! ### END_MUSTER (R136) -/

/-- A record at the end of a muster. -/
def Person.atMusterEnd (p : Person) : Person := { p with muster := .none }

/-- A cabin at the end of a muster. -/
def Cabin.atMusterEnd (v : Cabin) : Cabin := { v with sweep := .none }

/-- A hold that the muster end leaves OPEN has its expiry arrive afresh (R34). -/
def Slot.atMusterEnd (k : Slot) : Slot := { k with hold := k.hold.map fun h => { h with arrived := false } }

/-- The blocks holding a record that was MUSTERED, with repeats. -/
def State.musteredBlocks (s : State) : List Nat :=
  (s.persons.filter fun e => (musterOf e.2).isMustered).map fun e => blockOf e.1

/-- Marks the blocks of a list dirty. -/
def Store.markAll (blocks : List Nat) (t : Store) : Store := blocks.foldl (fun t b => t.markWhen true b) t

/-- The OPEN holds whose expiry ship time is at or before a ship time, in ascending slot order (R110). -/
def State.overdueHolds (s : State) : List (Nat × Hold) :=
  s.slots.filterMap fun e => match e.2.hold with
    | none => none
    | some h => if h.expiry ≤ s.clock.shipTime then some (e.1, h) else none

/-- The overdue holds expire in ascending slot order (R110). -/
def State.expireOverdue (s : State) : State := s.overdueHolds.foldl (fun s e => s.expireHold e.1 e.2) s

/-- The changes of a granted END_MUSTER (R136). -/
def State.finishMuster (s : State) : State :=
  let ended := { s with
    persons := s.persons.mapRecords none (Option.map Person.atMusterEnd)
    cabins := s.cabins.mapRecords Cabin.reset Cabin.atMusterEnd
    muster := { active := false, id := s.muster.id, points := [], unrecorded := 0, unmustered := 0, unswept := 0 }
    store := s.store.markAll s.musteredBlocks }.markControl.expireOverdue
  { ended with slots := ended.slots.mapRecords Slot.reset Slot.atMusterEnd }

/-- END_MUSTER (R136): the reply carries the counts as they stood. -/
def doEndMuster (_ : Unit) (s : State) : State × HostAnswer :=
  if !s.muster.active then (s, .plain .notActive)
  else if s.store.state ≠ .opened then (s, .plain .powerFail)
  else (s.finishMuster, .okay [.b2 s.muster.id, .b2 s.muster.unmustered, .b2 s.muster.unrecorded, .b2 s.muster.unswept])

/-- END_MUSTER. -/
def execEndMuster (r : Request) (s : State) : Host.Outcome State Fault Refusal :=
  takeHost 0x59 decodeEmpty doEndMuster r s

/-! ### READ_MUSTER (R137) -/

/-- The person indices of the UNMUSTERED records at or above a start, ascending. -/
def State.unmusteredFrom (s : State) (start : Nat) : List Nat :=
  (s.persons.filter fun e => decide (start ≤ e.1) && musterOf e.2 == .unmustered).map Prod.fst

/-- READ_MUSTER's fields (R137): at most 32 indices. The 32 point counts stand in ascending point number, with no list count
before them: no rule states either (DESIGN CHOICE, log entry 36). -/
def State.musterFields (s : State) (start : Nat) : List Field :=
  let missing := s.unmusteredFrom start
  [Field.b1 (if s.muster.active then 1 else 0), Field.b2 s.muster.id]
    ++ ((List.range 32).map fun p => Field.b2 (s.muster.points.read 0 p))
    ++ [Field.b2 s.muster.unrecorded, Field.b2 s.muster.unmustered, Field.b2 s.muster.unswept]
    ++ Field.list (fun i => [Field.b2 i]) (missing.take 32)
    ++ [Field.flag (decide (32 < missing.length))]

/-- READ_MUSTER (R137). -/
def execReadMuster (r : Request) (s : State) : Host.Outcome State Fault Refusal :=
  takeHost 0x5B decodeIndex (fun start s => (s, .okay (s.musterFields start))) r s

end Sys2Proof.Machine
end

