-- ==== Sys2Proof/Machine/Retention.lean ====
section
/-!
DEFINITION. The retention store's host messages, the completion of a write, the power-fail input, and reset with
start-up (chapter 9, R139, R140).
-/

namespace Sys2Proof.Machine

/-! ### Host messages (R167) -/

/-- STORE_REWRITE (R167): every block that is not FAILED, and the control block, are marked dirty. -/
def doStoreRewrite (_ : Unit) (s : State) : State × HostAnswer :=
  if s.store.unusable then (s, .plain .storeUnusable)
  else if s.store.state ≠ .opened then (s, .plain .powerFail)
  else
    let store := s.store.markAll (List.range 129)
    ({ s with store }, .okay [.b1 store.dirty.length])

/-- STORE_REWRITE. -/
def execStoreRewrite (r : Request) (s : State) : Host.Outcome State Fault Refusal :=
  takeHost 0x68 decodeEmpty doStoreRewrite r s

/-- The store status as fields (R167). -/
def storeFields (t : Store) : List Field :=
  [Field.b1 t.state.code, Field.flag t.unusable, Field.b1 t.dirty.length]
    ++ Field.optional (fun f => [Field.b1 f.block]) t.inFlight
    ++ Field.list (fun b => [Field.b1 b]) t.failedList
    ++ [Field.flag t.orderly, Field.b2 t.boot.toNat]

/-- READ_STORE_STATUS (R167). In the first event after start-up, in which the writer starts on a person block, it reads the
store as it stands before that start (DESIGN CHOICE, log entry 29). -/
def execReadStoreStatus (r : Request) (s : State) : Host.Outcome State Fault Refusal :=
  takeHost 0x69 decodeEmpty (fun _ s => (s, .okay (storeFields s.store))) r s

/-! ### The power-fail input (R160 to R162) -/

/-- An assertion (R160): POWER_FAIL with the size of the dirty set, CLOSING, and every permit cancelled (R58). Where the
assertion is the first event after start-up, the size counts the person block whose write starts in that event, as it stands
before that start (DESIGN CHOICE, log entry 29). -/
def State.assertPowerFail (s : State) : State :=
  ({ s with store := { s.store with state := .closing, assertedAt := s.clock.mono } }).cancelAllPermits.raise
    MemberId.powerFail s.store.dirty.length

/-- The assertion due in the event after the STARTED frame is queued (R166): an event of its own, the first after
start-up, so that the writer's first turn on a person block comes with it (R157). Where none is due nothing happens. -/
def State.takeDueAssertion (s : State) : State :=
  match s.phase with
  | .assertionDue => ({ s with phase := .running }).assertPowerFail.writerTurn
  | .starting _ => s
  | .running => s

/-- The input goes to the warning level while it is not there (R160). During start-up the level alone is kept. -/
def State.inputRises (s : State) : Host.Outcome State Fault Refusal :=
  if s.powerFailLevel then .next s
  else
    let raised := { s with powerFailLevel := true }
    if s.isStarting then event raised
    else match s.store.state with
      | .opened => event raised.assertPowerFail
      | .reopening => event raised.assertPowerFail
      | .closing => event raised
      | .closed => event raised

/-- POWER_FAIL_ASSERT (R160, R166): the assertion that start-up left due, or else the input's going to the warning
level. -/
def execPowerFailAssert (s : State) : Host.Outcome State Fault Refusal :=
  match s.phase with
  | .assertionDue => .next s.takeDueAssertion
  | .starting _ => s.inputRises
  | .running => s.inputRises

/-- The store after a release (R162): the state, the live orderly flag made false, and the control block marked dirty
when that flag changes. -/
def Store.released (t : Store) (state : StoreState) : Store :=
  { t.markWhen t.orderly controlBlock with state, orderly := false }

/-- The release of an input that stands at the warning level (R162), no assertion being due. -/
def State.inputFalls (s : State) : Host.Outcome State Fault Refusal :=
  let released := { s with powerFailLevel := false }
  if s.isStarting then event released
  else match s.store.state with
    | .closing => event (({ released with store := s.store.released .opened }).raise MemberId.powerRestored 0)
    | .closed => event (({ released with store := s.store.released .reopening }).raise MemberId.powerRestored 1)
    | .opened => event released
    | .reopening => event released

/-- POWER_FAIL_RELEASE (R162): the input leaves the warning level. An assertion that start-up left due is the event before
it (R166). -/
def execPowerFailRelease (s : State) : Host.Outcome State Fault Refusal :=
  if !s.powerFailLevel then .next s else s.takeDueAssertion.inputFalls

/-! ### A write's completion (R157 to R162) -/

/-- What a write leaves in its block when its check agrees. -/
def Store.landed (t : Store) (f : Flight) (agrees : Bool) : Store :=
  match f.copy with
  | .person l =>
    { t with blocks := t.blocks.write .erased f.block (if agrees then .entries l else .failing), lastWritten := f.block }
  | .control facts => { t with control := if agrees then .written true facts else .failing }

/-- The fault count of a block (R158). -/
def Store.faultCount (t : Store) (block : Nat) : Nat := t.faults.read 0 block

/-- The store becomes UNUSABLE (R159): the live mark is set, which marks the control block dirty, and a REOPENING store
becomes OPEN. -/
def Store.spoil (t : Store) (writer : Writer) : Store :=
  let t := t.markWhen (!t.unusable) controlBlock
  { t with unusable := true, writer, state := if t.state = .reopening then .opened else t.state }

/-- A person block becomes FAILED (R158, R159): it leaves the dirty set, and is listed while the list has room. -/
def Store.fail (t : Store) (block : Nat) : Store :=
  let out := { t with dirty := t.dirty.erase block }
  if t.failedList.length < 8 then ({ out with failedList := t.failedList ++ [block] }).markWhen true controlBlock
  else ({ out with unlistedFailed := some block }).spoil .lastOwed

/-- A faulted write (R158): the fault count rises, and the block rejoins the dirty set below 3. -/
def Store.faulted (t : Store) (block : Nat) : Store :=
  let n := t.faultCount block + 1
  let counted := { t with faults := t.faults.write 0 block n }
  if n < 3 then counted.markWhen true block
  else if block = controlBlock then counted.spoil .stopped
  else counted.fail block

/-- The copy carries the orderly flag with a value. -/
def Copy.carriesOrderly (c : Copy) (v : Bool) : Bool :=
  match c with
  | .person _ => false
  | .control facts => facts.orderly == v

/-- A good closing write closes the store (R161). -/
def Store.closes (t : Store) (f : Flight) : Bool :=
  t.state == .closing && f.copy.carriesOrderly true && t.dirty.isEmpty && !t.unusable

/-- A good reopening write opens the store (R162). -/
def Store.reopens (t : Store) (f : Flight) : Bool := t.state == .reopening && f.copy.carriesOrderly false

/-- The store after a completion with agreement (R158, R161, R162). -/
def Store.agreed (t : Store) (f : Flight) : Store :=
  { t with
    faults := t.faults.write 0 f.block 0
    state := if t.closes f then .closed else if t.reopens f then .opened else t.state }

/-- The last write of an UNUSABLE store has completed (R159). -/
def Store.afterLast (t : Store) (owed : Bool) (block : Nat) : Store :=
  { t with writer := if owed && block == controlBlock then .stopped else t.writer }

/-- The store after a completion (R158 to R162). -/
def Store.completed (t : Store) (f : Flight) (agrees : Bool) : Store :=
  let landed := ({ t with inFlight := none }).landed f agrees
  (if agrees then landed.agreed f else landed.faulted f.block).afterLast (t.writer == .lastOwed) f.block

/-- The notices of a completion (R158, R161). -/
def State.completionNotices (before : Store) (f : Flight) (agrees : Bool) (s : State) : State :=
  let fails := !agrees && f.block != controlBlock && decide (3 ≤ before.faultCount f.block + 1)
  s.raiseWhen (!agrees) MemberId.storeFault f.block
    |>.raiseWhen fails MemberId.storeBlockFailed f.block
    |>.raiseWhen (agrees && before.closes f) MemberId.storeClosed (min (s.clock.mono - before.assertedAt) 65535)

/-- Step 5 of start-up (R166): the store is OPEN and the STARTED frame is queued; with the power-fail input at the warning
level an assertion is due in the event after. -/
def State.finishStartUp (report : StartedReport) (s : State) : State :=
  { s with
    phase := if s.powerFailLevel then .assertionDue else .running
    store := { s.store with state := .opened }
    host := { s.host with started := some { report with unusable := s.store.unusable } } }

/-- Step 4 of start-up ends when the control block has been written or the store has become UNUSABLE (R166). -/
def State.afterStartUpWrite (agrees : Bool) (s : State) : State :=
  match s.phase with
  | .starting report => if agrees || s.store.unusable then s.finishStartUp report else s
  | .assertionDue => s
  | .running => s

/-- The writer's turn, the person blocks waiting or not as `waits` says. -/
def State.turnAs (waits : Bool) (s : State) : State :=
  { s with store := s.store.turn waits s.persons s.muster s.clock.mono }

/-- STORE_WRITE_COMPLETE (R158): the write in flight ends `duration` milliseconds after its start. The event that ends
start-up is still part of it: the person blocks wait for the first event after it (R157). -/
def execStoreWriteComplete (duration : Nat) (agrees : Bool) (s : State) : Host.Outcome State Fault Refusal :=
  if duration = 0 ∨ 8 < duration then .fault .noSuchDuration
  else match s.store.inFlight with
    | none => .next s
    | some f =>
      let due := s.advanceTo (f.startedAt + duration)
      let done := ({ due with store := s.store.completed f agrees }).completionNotices s.store f agrees
      let after := done.afterStartUpWrite agrees
      .next (after.turnAs (!after.isRunning || s.isStarting))

/-! ### The restore (R164, R165, R139, R140) -/

/-- A reset ends a write in flight and leaves its block part-written (R157). -/
def Store.interrupted (t : Store) : Store :=
  match t.inFlight with
  | none => t
  | some f => { t.landed f false with inFlight := none }

/-- What the restore finds in the control block (R164). -/
structure Found where
  judgement : Judgement
  facts : ControlFacts
  deriving DecidableEq, Repr

/-- The facts found when the control block gives none (R164). -/
def ControlFacts.nothing : ControlFacts :=
  { boot := 0, musterActive := false, musterId := 0, orderly := false, failedList := [], unusable := false }

/-- The judgement of the control block (R164). R159 says that an UNUSABLE store stays UNUSABLE across resets; a control block
that fails its check is CONTROL_LOST, whose row of R164 has the unusable mark clear, so that a store whose last control block
write faulted or was cut short is usable again in the next run: the model follows R164 (DESIGN CHOICE, log entry 35). -/
def judgeControl : StoredControl → Found
  | .erased => { judgement := .blank, facts := ControlFacts.nothing }
  | .failing => { judgement := .controlLost, facts := ControlFacts.nothing }
  | .written formatRight facts =>
    if formatRight then { judgement := .good, facts } else { judgement := .blank, facts := ControlFacts.nothing }

/-- How the restore finds a person block (R164, R165). -/
inductive BlockFound
  | empty
  | failed
  | lost
  | entries (l : List (Nat × StoredEntry))
  deriving DecidableEq, Repr

/-- The restore's judgement of a person block (R164, R165). Whether an erased block passes its check is a free value (log
entry 6). That one which passes holds 64 unoccupied entries is a DESIGN CHOICE (log entry 25): the manual does not say what
the entries of an erased block read as. -/
def judgeBlock (found : Found) (blocks : Table StoredBlock) (b : Nat) : BlockFound :=
  if found.judgement = .blank then .empty
  else if found.facts.failedList.contains b then .failed
  else match blocks.read .erased b with
    | .entries l => .entries l
    | .failing => .lost
    | .erased => if Config.erasedBlockAgrees b then .entries [] else .lost

/-- The muster state of a restored record (R139, R140). -/
def restoredMuster (active : Bool) (e : StoredEntry) : MusterState :=
  if active ∧ e.location = .aboard then (if e.mustered then .unrecorded else .unmustered) else .none

/-- A RESTORED record (R6, R165). -/
def restoredPerson (active : Bool) (e : StoredEntry) : Person :=
  { loaded := false, cls := e.cls, generation := e.generation, location := e.location,
    muster := restoredMuster active e, gatePermit := none, cabin := none, rights := none, sweep := false,
    account := none }

/-- The restored mustered flag is cleared in the record, so that its block is marked dirty (R139, R140). -/
def clearsMustered (active : Bool) (e : StoredEntry) : Bool := e.mustered && !(active && e.location == .aboard)

/-- The records of a block, as the restore rebuilds them. -/
def recordsOf (active : Bool) : BlockFound → List (Nat × Option Person)
  | .entries l => l.map fun e => (e.1, some (restoredPerson active e.2))
  | _ => []

/-- The restore reports the block lost (R165). -/
def BlockFound.isLost : BlockFound → Bool
  | .failed | .lost => true
  | _ => false

/-- The restore marks the block dirty (R164, R165, R139, R140). -/
def dirties (found : Found) : BlockFound → Bool
  | .empty => true
  | .failed => false
  | .lost => true
  | .entries l => l.any fun e => clearsMustered found.facts.musterActive e.2

/-- What the restore rebuilds from the store. -/
structure Restored where
  found : Found
  persons : Table (Option Person)
  lost : List Nat
  dirty : List Nat
  deriving DecidableEq, Repr

/-- The restore (R164, R165). -/
def restore (t : Store) : Restored :=
  let found := judgeControl t.control
  let blocks := (List.range 128).map fun b => (b, judgeBlock found t.blocks b)
  { found
    persons := Table.ofEntries none (blocks.flatMap fun e => recordsOf found.facts.musterActive e.2)
    lost := (blocks.filter fun e => e.2.isLost).map Prod.fst
    dirty := (blocks.filter fun e => dirties found e.2).map Prod.fst }

/-- The tally counts of the records (R21, R165). -/
def tallyOf (persons : Table (Option Person)) : Table Nat :=
  persons.foldl (fun t e => countAt (· + 1) t (placeOf e.2)) []

/-- The number of records in a muster state. -/
def countMuster (m : MusterState) (persons : Table (Option Person)) : Nat :=
  (persons.filter fun e => e.2.isSome && musterOf e.2 == m).length

/-- The muster unit after the restore (R139, R140). -/
def restoredMusterUnit (r : Restored) : Muster :=
  if r.found.facts.musterActive then
    { active := true, id := r.found.facts.musterId, points := [], unrecorded := countMuster .unrecorded r.persons,
      unmustered := countMuster .unmustered r.persons, unswept := 0 }
  else Muster.reset

/-- The live store after the restore (R155 to R159, R164 to R166). A store found UNUSABLE has no writer. The dirty set holds the
person blocks that the restore marks (R165), and never the control block: in a usable store step 4 writes it (R166), and in one
found UNUSABLE, where step 4 writes nothing and R156 could be read to mark it for the advanced boot number, it stays unmarked
(DESIGN CHOICE, log entry 39). -/
def restoredStore (t : Store) (r : Restored) : Store :=
  { Store.reset with
    blocks := t.blocks
    control := t.control
    boot := r.found.facts.boot + 1
    failedList := r.found.facts.failedList
    unusable := r.found.facts.unusable
    dirty := r.dirty
    inFlight := none
    writer := if r.found.facts.unusable then .stopped else .normal }

/-- The report that start-up prepares (R166). -/
def reportOf (cause : ResetCause) (pins : BitVec 4) (r : Restored) : StartedReport :=
  let m := restoredMusterUnit r
  { cause, unitAddress := pins, boot := r.found.facts.boot + 1, judgement := r.found.judgement,
    orderly := r.found.facts.orderly, restored := r.persons.length,
    muster := if m.active then some (m.id, m.unmustered, m.unrecorded) else none, lost := r.lost,
    unusable := r.found.facts.unusable }

/-! ### Reset (R163) -/

/-- A beam after a reset: its input level is the pin's, and a beam read BROKEN begins a filter run (R43). -/
def BeamState.afterReset (b : BeamState) : BeamState :=
  { BeamState.reset with high := b.high }.refilter (readsBroken .brokenLow b.high) 0 20

/-- A lane after a reset (R38, R43). -/
def Lane.afterReset (l : Lane) : Lane := { Lane.reset with outer := l.outer.afterReset, inner := l.inner.afterReset }

/-- Steps 1 to 3 of start-up (R163): the pins are sampled, volatile state takes its reset value, and the store is
restored. The input levels, the queue of commands and the free index are not the part's volatile state. -/
def State.restarted (cause : ResetCause) (pins : BitVec 4) (s : State) : State :=
  let kept := s.store.interrupted
  let r := restore kept
  { State.reset with
    pending := s.pending
    freeIndex := s.freeIndex
    powerFailLevel := s.powerFailLevel
    unitAddressPins := pins
    unitAddress := pins
    phase := .starting (reportOf cause pins r)
    persons := r.persons
    tally := tallyOf r.persons
    muster := restoredMusterUnit r
    lanes := Table.ofEntries Lane.reset ((List.range 4).map fun l => (l, (s.lane l).afterReset))
    store := restoredStore kept r }

/-- Step 4 of start-up begins (R166): the control block's write; with the store found UNUSABLE nothing is written and
step 5 follows at once. -/
def State.beginStep4 (s : State) : State :=
  match s.phase with
  | .running => s
  | .assertionDue => s
  | .starting report =>
    if s.store.unusable then s.finishStartUp report
    else { s with store := s.store.startWrite s.persons s.muster s.clock.mono controlBlock }

/-- A reset (R163). A resumed muster with nobody UNMUSTERED raises ALL_MUSTERED (R139). -/
def State.resetPart (cause : ResetCause) (pins : BitVec 4) (s : State) : State :=
  let r := s.restarted cause pins
  (r.raiseWhen (r.muster.active && r.muster.unmustered == 0) MemberId.allMustered r.muster.id).beginStep4

/-- PART_RESET (R163), from any of the four causes, in any phase. -/
def execPartReset (cause : ResetCause) (pins : BitVec 4) (s : State) : Host.Outcome State Fault Refusal :=
  event (s.resetPart cause pins)

end Sys2Proof.Machine
end

