-- ==== Sys2Proof/Machine/Links.lean ====
section
/-!
DEFINITION. The link controllers: receivers and arrivals, requests of unknown kinds, the starts and ends of frames, and
the link messages (chapter 10).
-/

namespace Sys2Proof.Machine

/-! ### The two links alike -/

/-- The port of a link. -/
def State.port (s : State) : Link → Port
  | .host => s.host.port
  | .station => s.station.port

/-- Replaces the port of a link. -/
def State.putPort (link : Link) (p : Port) (s : State) : State :=
  match link with
  | .host => { s with host := { s.host with port := p } }
  | .station => { s with station := { s.station with port := p } }

/-- The detail of LINK_ERROR (R170). -/
def linkDetail : Link → Nat
  | .host => 0 | .station => 1

/-- A dropped frame, or an arrival discarded for want of room for its reply (R170): the error counter rises and
LINK_ERROR is raised. -/
def State.linkError (link : Link) (s : State) : State :=
  (s.putPort link { s.port link with errors := min ((s.port link).errors + 1) 65535 }).raise MemberId.linkError
    (linkDetail link)

/-- A link's receiver takes a state (R169). -/
def State.setReceiver (link : Link) (r : Receiver) (s : State) : State :=
  s.putPort link { s.port link with receiver := r }

/-! ### Arrival (R154, R172) -/

/-- The capacity of a link's request queue (R171). -/
def requestCapacity : Link → Nat
  | .host => 8 | .station => 16

/-- A link's reply queue has room (R171). -/
def State.replyRoom (s : State) : Link → Bool
  | .host => decide (s.host.replies.length < 16)
  | .station => decide (s.station.replies.length < 32)

/-- A BUSY reply joins a link's reply queue (R172, R180). -/
def State.replyBusy (link : Link) (f : Frame) (s : State) : State :=
  match link with
  | .host => s.hostReply ⟨f.kind, f.tag, .busy, []⟩
  | .station => s.stationReply ⟨f.kind, f.tag, .busy, StationGroups.empty⟩

/-- A host frame's arrival ends the host's sleep (R154). -/
def State.wakeOn (link : Link) (s : State) : State :=
  match link with
  | .host => { s with host := { s.host with asleep := false, wake := false } }
  | .station => s

/-- The request queue of a link takes a frame at its tail. -/
def State.enqueue (link : Link) (f : Frame) (s : State) : State :=
  s.putPort link { s.port link with requests := (s.port link).requests ++ [f] }

/-- The arrival of a frame (R172). -/
def State.arrive (link : Link) (f : Frame) (s : State) : State :=
  let awake := s.wakeOn link
  if !s.isStarting && decide ((s.port link).requests.length < requestCapacity link) then awake.enqueue link f
  else if s.replyRoom link then awake.replyBusy link f
  else awake.linkError link

/-! ### Receiving (R169) -/

/-- The length that the first two bytes after the start byte give. -/
def lengthOf (bs : List Byte) : Nat := ((takeNat 2 bs).map Prod.fst).getD 0

/-- A complete frame (R169): it arrives when its check agrees, and is dropped otherwise. -/
def State.judgeFrame (link : Link) (bs : List Byte) (s : State) : State :=
  let core := bs.take (bs.length - 2)
  match core with
  | _ :: _ :: kind :: tag :: body =>
    if bs.drop (bs.length - 2) = natBytes 2 (frameCheck core).toNat then s.arrive link ⟨kind, tag, body⟩
    else s.linkError link
  | _ => s.linkError link

/-- A byte taken while IN_FRAME, the bytes of the frame including it (R169). -/
def State.takeInFrame (link : Link) (bs : List Byte) (s : State) : State :=
  if bs.length < 2 then s.setReceiver link (.inFrame bs s.clock.mono)
  else if 1024 < lengthOf bs then (s.setReceiver link .hunting).linkError link
  else if bs.length = lengthOf bs + 6 then (s.setReceiver link .hunting).judgeFrame link bs
  else s.setReceiver link (.inFrame bs s.clock.mono)

/-- A frame in progress whose last byte is more than 50 milliseconds old is dropped before a further byte is taken
(R169). -/
def State.dropStale (link : Link) (s : State) : State :=
  match (s.port link).receiver with
  | .hunting => s
  | .inFrame _ t => if t + 50 < s.clock.mono then (s.setReceiver link .hunting).linkError link else s

/-- A byte is taken by a link's receiver (R169). -/
def State.takeByte (link : Link) (s : State) (b : Byte) : State :=
  let s := s.dropStale link
  match (s.port link).receiver with
  | .hunting => if b = 0xA5 then s.setReceiver link (.inFrame [] s.clock.mono) else s
  | .inFrame bs _ => s.takeInFrame link (bs ++ [b])

/-- FRAME_START_BYTE (R169): a byte of 0xA5 is taken. That its taking is an event is a DESIGN CHOICE (log entry 37). -/
def execFrameStartByte (link : Link) (s : State) : Host.Outcome State Fault Refusal := event (s.takeByte link 0xA5)

/-- FRAME_RECEIVED (R169): the bytes are taken in order, the last completing a frame. Their taking is one event of the part,
which ends with the writer's turn, even where the receiver discards them all while HUNTING (DESIGN CHOICE, log entry 37). -/
def execFrameReceived (link : Link) (bytes : List Byte) (s : State) : Host.Outcome State Fault Refusal :=
  if bytes = [] then .next s else event (bytes.foldl (State.takeByte link) s)

/-- FRAME_TIMEOUT (R169): 50 milliseconds have passed after the last byte of a frame in progress. -/
def execFrameTimeout (link : Link) (s : State) : Host.Outcome State Fault Refusal :=
  match (s.port link).receiver with
  | .hunting => .next s
  | .inFrame _ t => event (((s.advanceTo (t + 50)).setReceiver link .hunting).linkError link)

/-! ### Taking a request of an unknown kind (R173) -/

/-- UNKNOWN_KIND_TAKEN (R173 test 1). -/
def execUnknownKindTaken (link : Link) (kind : Byte) (r : Request) (s : State) : Host.Outcome State Fault Refusal :=
  if isRequestKind link kind then .next s
  else match link with
    | .host =>
      if s.hostTakes ⟨kind, r.tag, r.body⟩ then event (s.dropHostRequest.hostReply ⟨kind, r.tag, .unknownKind, []⟩)
      else .next s
    | .station =>
      if s.stationTakes ⟨kind, r.tag, r.body⟩ then
        event (s.dropStationRequest.stationReply ⟨kind, r.tag, .unknownKind, StationGroups.empty⟩)
      else .next s

/-! ### Sending (R174, R175, R177) -/

/-- STARTED_FRAME_START (R175). -/
def execStartedFrameStart (s : State) : Host.Outcome State Fault Refusal :=
  match s.host.started with
  | none => .next s
  | some report =>
    if !s.isStarting && s.host.sending.isNone then
      event (({ s with host := { s.host with started := none } }).sendHost report.frame)
    else .next s

/-- HOST_REPLY_START (R175): the reply at the head of the queue is preferred to every other frame but STARTED. -/
def execHostReplyStart (s : State) : Host.Outcome State Fault Refusal :=
  match s.host.replies with
  | [] => .next s
  | r :: rest =>
    if s.hostFree then event (({ s with host := { s.host with replies := rest } }).sendHost r.frame) else .next s

/-- STATION_REPLY_START (R174). -/
def execStationReplyStart (s : State) : Host.Outcome State Fault Refusal :=
  match s.station.replies with
  | [] => .next s
  | r :: rest =>
    if s.station.sending.isNone then
      event { s with station := { s.station with replies := rest, sending := some r.frame } }
    else .next s

/-- FRAME_SENT (R174, R175): the transmitter falls free. When the frame is the OK reply to RESET, the part resets with
cause RESET_MESSAGE in the same event (R177). -/
def execFrameSent (link : Link) (s : State) : Host.Outcome State Fault Refusal :=
  match link with
  | .host => match s.host.sending with
    | none => .next s
    | some f =>
      if f.resets then event (s.resetPart .resetMessage s.unitAddressPins)
      else event { s with host := { s.host with sending := none } }
  | .station => match s.station.sending with
    | none => .next s
    | some _ => event { s with station := { s.station with sending := none } }

/-! ### Link messages (R176, R177) -/

/-- The part name: Eronza 6180, a text of 11 bytes (R176). The manual names no character code: ASCII is PRESUMED (log entry
34). -/
def partName : List Byte := [0x45, 0x72, 0x6F, 0x6E, 0x7A, 0x61, 0x20, 0x36, 0x31, 0x38, 0x30]

/-- IDENTIFY (R176). That the revision number takes one byte is a DESIGN CHOICE (log entry 27). -/
def execIdentify (r : Request) (s : State) : Host.Outcome State Fault Refusal :=
  takeHost 0x70 decodeEmpty
    (fun _ s => (s, .okay [.text partName, .b1 2, .b1 s.unitAddress.toNat, .b2 s.store.boot.toNat])) r s

/-- RESET (R177): no further host request is taken; the reset follows the OK frame. -/
def doReset (_ : Unit) (s : State) : State × HostAnswer :=
  ({ s with host := { s.host with takingStopped := true } }, .plain .ok)

/-- RESET. -/
def execReset (r : Request) (s : State) : Host.Outcome State Fault Refusal :=
  takeHost 0x71 decodeEmpty doReset r s

/-- READ_LINK_COUNTERS (R176). -/
def doReadLinkCounters (clear : Bool) (s : State) : State × HostAnswer :=
  ({ s with
      host := { s.host with port := { s.host.port with errors := if clear then 0 else s.host.port.errors } }
      station := { s.station with
        port := { s.station.port with errors := if clear then 0 else s.station.port.errors } } },
    .okay [.b2 s.host.port.errors, .b2 s.station.port.errors])

/-- READ_LINK_COUNTERS. -/
def execReadLinkCounters (r : Request) (s : State) : Host.Outcome State Fault Refusal :=
  takeHost 0x72 decodeClearFlag doReadLinkCounters r s

end Sys2Proof.Machine
end

