-- ==== Sys2Proof/Machine/NoticeUnit.lean ====
section
/-!
DEFINITION. The notice unit's host messages, HOST_SLEEP and the NOTICE frame's start (chapter 8).
-/

namespace Sys2Proof.Machine

/-! ### Delivery (R148) -/

/-- The members of a group in member-number order. -/
def Notices.membersOf (n : Notices) (group : Nat) : List Member :=
  (List.range (membersOfGroup group)).map fun k => n.member ⟨group, k⟩

/-- The notice unit after the delivery of a group (R148). -/
def Notices.deliver (n : Notices) (group : Nat) : Notices :=
  { n.putPending group false with stack := n.serviceLevel :: n.stack, serviceLevel := n.level group }

/-- NOTICE_FRAME_START (R148, R175): the transmitter is free, no reply waits and a group is deliverable. -/
def execNoticeFrameStart (s : State) : Host.Outcome State Fault Refusal :=
  if s.hostFree ∧ s.host.replies = [] then
    match s.chosenGroup with
    | none => .next s
    | some g =>
      event (({ s with notices := s.notices.deliver g }).sendHost
        (noticeFrame g (s.notices.level g) (s.notices.membersOf g)))
  else .next s

/-! ### Host messages (R145, R149 to R153) -/

/-- SET_GROUP_LEVEL (R151). -/
def doSetGroupLevel (q : Nat × Nat) (s : State) : State × HostAnswer :=
  if q.1 = 0 then (s, .plain .fixedLevel)
  else
    ({ s with notices := { s.notices with levels := s.notices.levels.write 0 q.1 q.2 } },
      .okay [.b1 q.2, .flag (s.notices.isPending q.1)])

/-- SET_GROUP_LEVEL. -/
def execSetGroupLevel (r : Request) (s : State) : Host.Outcome State Fault Refusal :=
  takeHost 0x60 decodeSetGroupLevel doSetGroupLevel r s

/-- The notice unit after a member's enable is set (R145). -/
def Notices.setEnable (n : Notices) (m : MemberId) (enable : Bool) : Notices :=
  let old := n.member m
  (n.putMember m { old with enable }).putPending m.group (n.isPending m.group || (enable && old.flag))

/-- SET_MEMBER_ENABLE (R145). -/
def doSetMemberEnable (q : Nat × Nat × Bool) (s : State) : State × HostAnswer :=
  ({ s with notices := s.notices.setEnable ⟨q.1, q.2.1⟩ q.2.2 },
    .okay [.flag q.2.2, .flag (s.notices.member ⟨q.1, q.2.1⟩).flag])

/-- SET_MEMBER_ENABLE. -/
def execSetMemberEnable (r : Request) (s : State) : Host.Outcome State Fault Refusal :=
  takeHost 0x61 decodeSetMemberEnable doSetMemberEnable r s

/-- SET_SERVICE_LEVEL (R150). -/
def doSetServiceLevel (level : Nat) (s : State) : State × HostAnswer :=
  ({ s with notices := { s.notices with serviceLevel := level } }, .okay [.b1 level, .b1 s.notices.stack.length])

/-- SET_SERVICE_LEVEL. -/
def execSetServiceLevel (r : Request) (s : State) : Host.Outcome State Fault Refusal :=
  takeHost 0x62 decodeServiceLevel doSetServiceLevel r s

/-- NOTICE_DONE (R149). -/
def doNoticeDone (_ : Unit) (s : State) : State × HostAnswer :=
  match s.notices.stack with
  | [] => (s, .plain .notInService)
  | level :: rest =>
    ({ s with notices := { s.notices with serviceLevel := level, stack := rest } },
      .okay [.b1 level, .b1 rest.length])

/-- NOTICE_DONE. -/
def execNoticeDone (r : Request) (s : State) : Host.Outcome State Fault Refusal :=
  takeHost 0x63 decodeEmpty doNoticeDone r s

/-- A member acknowledged (R152). -/
def Member.acknowledged (m : Member) : Member := { m with flag := false, count := 0, detail := 0 }

/-- ACK_NOTICE (R152). -/
def doAckNotice (q : Nat × Nat) (s : State) : State × HostAnswer :=
  let m := s.notices.member ⟨q.1, q.2⟩
  ({ s with notices := s.notices.putMember ⟨q.1, q.2⟩ m.acknowledged },
    .okay [.flag m.flag, .b1 m.count, .b2 m.detail, .flag (s.notices.isPending q.1)])

/-- ACK_NOTICE. -/
def execAckNotice (r : Request) (s : State) : Host.Outcome State Fault Refusal :=
  takeHost 0x64 decodeAckNotice doAckNotice r s

/-- HOST_SLEEP (R153). -/
def doHostSleep (_ : Unit) (s : State) : State × HostAnswer :=
  ({ s with host := { s.host with asleep := true } }, .plain .ok)

/-- HOST_SLEEP. -/
def execHostSleep (r : Request) (s : State) : Host.Outcome State Fault Refusal :=
  takeHost 0x65 decodeEmpty doHostSleep r s

end Sys2Proof.Machine
end

