-- ==== Sys2Proof/Machine/Persons.lean ====
section
/-!
DEFINITION. The host messages on person records and the tally (sections 1.3, 1.4), the decoders (R1) and the station
table (R24).
-/

namespace Sys2Proof.Machine

/-! ### LOAD_PERSON (R11 to R14) -/

/-- An account created by LOAD_PERSON (R8). -/
def Account.fresh (terms : AccountTerms) (posted : Option Int) : Account :=
  { creditLimit := terms.creditLimit, dailyLimit := terms.dailyLimit, posted := posted.getD 0, spentToday := 0,
    spentDay := 0, held := 0, unposted := 0, noAlcohol := terms.noAlcohol, suspended := terms.suspended }

/-- An account whose limits and flags are replaced (R13, R18). -/
def Account.withTerms (a : Account) (terms : AccountTerms) : Account :=
  { a with creditLimit := terms.creditLimit, dailyLimit := terms.dailyLimit, noAlcohol := terms.noAlcohol,
           suspended := terms.suspended }

/-- The account after a load (R12, R13): created, replaced in its limits and flags, or removed. -/
def loadedAccount (old : Option Account) (terms : Option AccountTerms) (posted : Option Int) : Option Account :=
  match terms with
  | none => none
  | some t => match old with
    | none => some (Account.fresh t posted)
    | some a => some { a.withTerms t with posted := posted.getD a.posted }

/-- The muster state of a person whom the host places at a location while the muster is ACTIVE (R15, R135). -/
def placedMuster (loc : Location) : MusterState := if loc = .aboard then .unmustered else .none

/-- The record that a load leaves (R12, R13). -/
def loadedPerson (active : Bool) (old : Option Person) (q : LoadPerson) : Person :=
  let location := q.location.getD ((old.map Person.location).getD .expected)
  let muster := match old with
    | none => if active then placedMuster location else .none
    | some p => if active ∧ location ≠ p.location then placedMuster location else p.muster
  { loaded := true, cls := q.cls, generation := q.generation, location, muster,
    gatePermit := old.bind Person.gatePermit, cabin := q.cabin, rights := q.rights, sweep := q.sweep,
    account := loadedAccount (old.bind Person.account) q.account q.posted }

/-- LOAD_PERSON's refusals in order (R10, R11). -/
def loadRefusal (s : State) (q : LoadPerson) : Option Result :=
  let old := s.person q.index
  let account := old.bind Person.account
  if s.store.state ≠ .opened then some .powerFail
  else if q.account.isNone ∧ (account.map Account.held).getD 0 > 0 then some .hasHolds
  else if q.account.isNone ∧ (account.map Account.unposted).getD 0 > 0 then some .hasUnposted
  else match q.cabin with
    | none => none
    | some c => if 8 ≤ (s.cabin c).occupants ∧ cabinOf old ≠ some c then some .cabinFull else none

/-- LOAD_PERSON (R11 to R13). -/
def doLoadPerson (q : LoadPerson) (s : State) : State × HostAnswer :=
  match loadRefusal s q with
  | some r => (s, .plain r)
  | none =>
    (s.changePerson q.index (some (loadedPerson s.muster.active (s.person q.index) q)), .plain .ok)

/-- LOAD_PERSON. -/
def execLoadPerson (r : Request) (s : State) : Host.Outcome State Fault Refusal :=
  takeHost 0x20 decodeLoadPerson doLoadPerson r s

/-! ### READ_PERSON (R20) -/

/-- The account as fields, in the order of R8. -/
def Account.fields (a : Account) : List Field :=
  [Field.b4 a.creditLimit] ++ Field.optional (fun d => [Field.b4 d]) a.dailyLimit
    ++ [Field.s4 a.posted, Field.b4 a.spentToday, Field.b2 a.spentDay, Field.b4 a.held, Field.b8 a.unposted,
        Field.flag a.noAlcohol,
        Field.flag a.suspended]

/-- The muster state as fields: its code, and behind MUSTERED alone the point byte (section 11.8). That the other two states
carry no point byte, and MUSTERED no presence byte, is a DESIGN CHOICE (log entry 26). -/
def MusterState.fields : MusterState → List Field
  | .none => [.b1 0]
  | .unmustered => [.b1 1]
  | .mustered p => [.b1 2, .b1 p]
  | .unrecorded => [.b1 2, .b1 0xFF]

/-- A record as fields, in the order of R6: an EMPTY record gives its condition alone. -/
def personFields : Option Person → List Field
  | none => [Field.b1 0]
  | some p =>
    [Field.b1 (if p.loaded then 2 else 1), Field.b1 p.cls.code, Field.b1 p.generation.toNat, Field.b1 p.location.code]
      ++ p.muster.fields
      ++ Field.optional (fun l => [Field.b1 l]) p.gatePermit
      ++ Field.optional (fun c => [Field.b2 c]) p.cabin
      ++ Field.optional (fun r => [Field.b2 r.1, Field.b2 r.2]) p.rights
      ++ [Field.flag p.sweep]
      ++ Field.optional Account.fields p.account

/-- READ_PERSON (R20). -/
def execReadPerson (r : Request) (s : State) : Host.Outcome State Fault Refusal :=
  takeHost 0x21 decodeIndex (fun i s => (s, .okay (personFields (s.person i)))) r s

/-! ### SET_LOCATION, REISSUE_CARD (R15, R16) -/

/-- SET_LOCATION (R15). -/
def doSetLocation (q : Nat × Location) (s : State) : State × HostAnswer :=
  if s.store.state ≠ .opened then (s, .plain .powerFail)
  else match s.person q.1 with
    | none => (s, .plain .noRecord)
    | some p =>
      let muster := if s.muster.active then placedMuster q.2 else p.muster
      (s.changePerson q.1 (some { p with location := q.2, muster }), .okay [.b1 q.2.code])

/-- SET_LOCATION. -/
def execSetLocation (r : Request) (s : State) : Host.Outcome State Fault Refusal :=
  takeHost 0x22 decodeSetLocation doSetLocation r s

/-- REISSUE_CARD (R16): the generation advances modulo 16. -/
def doReissueCard (i : Nat) (s : State) : State × HostAnswer :=
  if s.store.state ≠ .opened then (s, .plain .powerFail)
  else match s.person i with
    | none => (s, .plain .noRecord)
    | some p =>
      (s.changePerson i (some { p with generation := p.generation + 1 }), .okay [.b1 (p.generation + 1).toNat])

/-- REISSUE_CARD. -/
def execReissueCard (r : Request) (s : State) : Host.Outcome State Fault Refusal :=
  takeHost 0x23 decodeIndex doReissueCard r s

/-! ### ADJUST_BALANCE, UPDATE_ACCOUNT (R17, R18) -/

/-- The account that a host message on accounts works on, or its refusal: NO_RECORD, RECORD_INCOMPLETE, NO_ACCOUNT, in
that order (R17, R18). -/
def accountFor (s : State) (i : Nat) : Except Result (Person × Account) :=
  match s.person i with
  | none => .error .noRecord
  | some p =>
    if !p.loaded then .error .recordIncomplete
    else match p.account with
      | none => .error .noAccount
      | some a => .ok (p, a)

/-- ADJUST_BALANCE (R17). -/
def doAdjustBalance (q : Nat × Int) (s : State) : State × HostAnswer :=
  match accountFor s q.1 with
  | .error r => (s, .plain r)
  | .ok (p, a) =>
    let sum := a.posted + q.2
    if balanceInRange sum then
      (s.changePerson q.1 (some { p with account := some { a with posted := sum } }), .okay [.s4 sum])
    else (s, .plain .outOfRange)

/-- ADJUST_BALANCE. -/
def execAdjustBalance (r : Request) (s : State) : Host.Outcome State Fault Refusal :=
  takeHost 0x24 decodeAdjustBalance doAdjustBalance r s

/-- UPDATE_ACCOUNT (R18). -/
def doUpdateAccount (q : Nat × AccountTerms) (s : State) : State × HostAnswer :=
  match accountFor s q.1 with
  | .error r => (s, .plain r)
  | .ok (p, a) => (s.changePerson q.1 (some { p with account := some (a.withTerms q.2) }), .plain .ok)

/-- UPDATE_ACCOUNT. -/
def execUpdateAccount (r : Request) (s : State) : Host.Outcome State Fault Refusal :=
  takeHost 0x25 decodeUpdateAccount doUpdateAccount r s

/-! ### CLEAR_PERSON (R19), READ_TALLY (R23) -/

/-- CLEAR_PERSON's refusals in order (R10, R19). -/
def clearRefusal (s : State) (i : Nat) : Option Result :=
  if s.store.state ≠ .opened then some .powerFail
  else match s.person i with
    | none => some .noRecord
    | some p =>
      if p.location = .aboard then some .aboard
      else if p.gatePermit.isSome then some .hasPermit
      else if (p.account.map Account.held).getD 0 > 0 then some .hasHolds
      else if (p.account.map Account.unposted).getD 0 > 0 then some .hasUnposted
      else none

/-- CLEAR_PERSON (R19). -/
def doClearPerson (i : Nat) (s : State) : State × HostAnswer :=
  match clearRefusal s i with
  | some r => (s, .plain r)
  | none => (s.changePerson i none, .plain .ok)

/-- CLEAR_PERSON. -/
def execClearPerson (r : Request) (s : State) : Host.Outcome State Fault Refusal :=
  takeHost 0x26 decodeIndex doClearPerson r s

/-- The twelve tally counts (R21) as READ_TALLY sends them: class by class, GUEST, CREW, VISITOR, and within a class EXPECTED,
ABOARD, ASHORE, DEPARTED. No rule states the order of the twelve (DESIGN CHOICE, log entry 31). -/
def State.tallyFields (s : State) : List Field := (List.range 12).map fun k => .b2 (s.tally.read 0 k)

/-- READ_TALLY (R23). -/
def execReadTally (r : Request) (s : State) : Host.Outcome State Fault Refusal :=
  takeHost 0x27 decodeEmpty
    (fun _ s => (s, .okay (s.tallyFields ++ [Field.b4 s.tallySequence.toNat, Field.b4 s.clock.shipTime]))) r s

/-! ### Decoders (R1) -/

/-- SET_DECODER (R1). -/
def doSetDecoder (q : Nat × Decoder) (s : State) : State × HostAnswer :=
  ({ s with decoders := s.decoders.write Decoder.reset q.1 q.2 }, .plain .ok)

/-- SET_DECODER. -/
def execSetDecoder (r : Request) (s : State) : Host.Outcome State Fault Refusal :=
  takeHost 0x28 decodeSetDecoder doSetDecoder r s

/-- A decoder as fields. -/
def decoderFields (d : Decoder) : List Field :=
  [.flag d.enabled, .b4 d.compare.toNat, .b4 d.mask.toNat, .b1 d.cls.code, .b4 d.offset.toNat]

/-- READ_DECODER (R1). -/
def execReadDecoder (r : Request) (s : State) : Host.Outcome State Fault Refusal :=
  takeHost 0x29 decodeReadDecoder (fun k s => (s, .okay (decoderFields (s.decoder k)))) r s

/-! ### Stations (R24) -/

/-- Another address's entry holds the lane with kind LANE, enabled or not (R24). -/
def State.laneHeldElsewhere (s : State) (address : Nat) (e : Station) : Bool :=
  decide (e.kind = .lane) &&
    s.stations.any fun x => decide (x.1 ≠ address ∧ x.2.kind = .lane ∧ x.2.binding = e.binding)

/-- CONFIGURE_STATION (R24). -/
def doConfigureStation (q : Nat × Station) (s : State) : State × HostAnswer :=
  if s.laneHeldElsewhere q.1 q.2 then (s, .plain .laneBound)
  else ({ s with stations := s.stations.write Station.reset q.1 q.2 }, .plain .ok)

/-- CONFIGURE_STATION. -/
def execConfigureStation (r : Request) (s : State) : Host.Outcome State Fault Refusal :=
  takeHost 0x2A decodeConfigureStation doConfigureStation r s

/-- A station entry as fields. -/
def stationFields (e : Station) : List Field :=
  [Field.b1 e.kind.code, Field.flag e.enabled] ++ Field.optional (fun b => [Field.b1 b]) e.binding

/-- READ_STATION (R24). -/
def execReadStation (r : Request) (s : State) : Host.Outcome State Fault Refusal :=
  takeHost 0x2B decodeReadStation (fun a s => (s, .okay (stationFields (s.stationEntry a)))) r s

end Sys2Proof.Machine
end

