-- ==== Sys2Proof/Machine/Dispatch.lean ====
section
/-!
DEFINITION. The meaning of every command: one arm per constructor, each one call.
-/

namespace Sys2Proof.Machine

/-- The effect of a command on everything but the queue. -/
def exec (i : Instr) (s : State) : Host.Outcome State Fault Refusal :=
  match i with
  | .partReset cause unitPins => Sys2Proof.Machine.execPartReset cause unitPins s
  | .startedFrameStart => Sys2Proof.Machine.execStartedFrameStart s
  | .frameReceived link bytes => Sys2Proof.Machine.execFrameReceived link bytes s
  | .frameTimeout link => Sys2Proof.Machine.execFrameTimeout link s
  | .unknownKindTaken link kind r => Sys2Proof.Machine.execUnknownKindTaken link kind r s
  | .hostReplyStart => Sys2Proof.Machine.execHostReplyStart s
  | .noticeFrameStart => Sys2Proof.Machine.execNoticeFrameStart s
  | .chargePostStart => Sys2Proof.Machine.execChargePostStart s
  | .stationReplyStart => Sys2Proof.Machine.execStationReplyStart s
  | .frameSent link => Sys2Proof.Machine.execFrameSent link s
  | .loadPerson r => Sys2Proof.Machine.execLoadPerson r s
  | .readPerson r => Sys2Proof.Machine.execReadPerson r s
  | .setLocation r => Sys2Proof.Machine.execSetLocation r s
  | .reissueCard r => Sys2Proof.Machine.execReissueCard r s
  | .adjustBalance r => Sys2Proof.Machine.execAdjustBalance r s
  | .updateAccount r => Sys2Proof.Machine.execUpdateAccount r s
  | .clearPerson r => Sys2Proof.Machine.execClearPerson r s
  | .readTally r => Sys2Proof.Machine.execReadTally r s
  | .setDecoder r => Sys2Proof.Machine.execSetDecoder r s
  | .readDecoder r => Sys2Proof.Machine.execReadDecoder r s
  | .configureStation r => Sys2Proof.Machine.execConfigureStation r s
  | .readStation r => Sys2Proof.Machine.execReadStation r s
  | .setClock r => Sys2Proof.Machine.execSetClock r s
  | .setDayOffset r => Sys2Proof.Machine.execSetDayOffset r s
  | .readClock r => Sys2Proof.Machine.execReadClock r s
  | .shipTimeAdvance => Sys2Proof.Machine.execShipTimeAdvance s
  | .configureLane r => Sys2Proof.Machine.execConfigureLane r s
  | .setLaneMode r => Sys2Proof.Machine.execSetLaneMode r s
  | .readLane r => Sys2Proof.Machine.execReadLane r s
  | .resetLaneCounters r => Sys2Proof.Machine.execResetLaneCounters r s
  | .setAllAboard r => Sys2Proof.Machine.execSetAllAboard r s
  | .readMovements r => Sys2Proof.Machine.execReadMovements r s
  | .beamRawChange lane beam high => Sys2Proof.Machine.execBeamRawChange lane beam high s
  | .beamEvent lane beam => Sys2Proof.Machine.execBeamEvent lane beam s
  | .blockTimingExpiry lane beam => Sys2Proof.Machine.execBlockTimingExpiry lane beam s
  | .laneTap r => Sys2Proof.Machine.execLaneTap r s
  | .permitExpiry lane person => Sys2Proof.Machine.execPermitExpiry lane person s
  | .allAboardDeadlinePassed => Sys2Proof.Machine.execAllAboardDeadlinePassed s
  | .configureCabin r => Sys2Proof.Machine.execConfigureCabin r s
  | .readCabin r => Sys2Proof.Machine.execReadCabin r s
  | .clearLockout r => Sys2Proof.Machine.execClearLockout r s
  | .setDoorSettings r => Sys2Proof.Machine.execSetDoorSettings r s
  | .doorTap r => Sys2Proof.Machine.execDoorTap r s
  | .strikeWindowEnd cabin => Sys2Proof.Machine.execStrikeWindowEnd cabin s
  | .lockoutEnd cabin => Sys2Proof.Machine.execLockoutEnd cabin s
  | .doorReport r => Sys2Proof.Machine.execDoorReport r s
  | .ajarTimingEnd cabin => Sys2Proof.Machine.execAjarTimingEnd cabin s
  | .configureOutlet r => Sys2Proof.Machine.execConfigureOutlet r s
  | .readOutlet r => Sys2Proof.Machine.execReadOutlet r s
  | .barSale r => Sys2Proof.Machine.execBarSale r s
  | .barOpenTab r => Sys2Proof.Machine.execBarOpenTab r s
  | .barCloseTab r => Sys2Proof.Machine.execBarCloseTab r s
  | .barVoid r => Sys2Proof.Machine.execBarVoid r s
  | .holdExpiry slot => Sys2Proof.Machine.execHoldExpiry slot s
  | .grantPosting r => Sys2Proof.Machine.execGrantPosting r s
  | .readHolds r => Sys2Proof.Machine.execReadHolds r s
  | .releaseHold r => Sys2Proof.Machine.execReleaseHold r s
  | .readJournalStatus r => Sys2Proof.Machine.execReadJournalStatus r s
  | .startMuster r => Sys2Proof.Machine.execStartMuster r s
  | .endMuster r => Sys2Proof.Machine.execEndMuster r s
  | .musterTap r => Sys2Proof.Machine.execMusterTap r s
  | .musterPerson r => Sys2Proof.Machine.execMusterPerson r s
  | .readMuster r => Sys2Proof.Machine.execReadMuster r s
  | .setGroupLevel r => Sys2Proof.Machine.execSetGroupLevel r s
  | .setMemberEnable r => Sys2Proof.Machine.execSetMemberEnable r s
  | .setServiceLevel r => Sys2Proof.Machine.execSetServiceLevel r s
  | .noticeDone r => Sys2Proof.Machine.execNoticeDone r s
  | .ackNotice r => Sys2Proof.Machine.execAckNotice r s
  | .hostSleep r => Sys2Proof.Machine.execHostSleep r s
  | .storeRewrite r => Sys2Proof.Machine.execStoreRewrite r s
  | .readStoreStatus r => Sys2Proof.Machine.execReadStoreStatus r s
  | .storeWriteComplete duration agrees => Sys2Proof.Machine.execStoreWriteComplete duration agrees s
  | .powerFailAssert => Sys2Proof.Machine.execPowerFailAssert s
  | .powerFailRelease => Sys2Proof.Machine.execPowerFailRelease s
  | .identify r => Sys2Proof.Machine.execIdentify r s
  | .reset r => Sys2Proof.Machine.execReset r s
  | .readLinkCounters r => Sys2Proof.Machine.execReadLinkCounters r s
  | .frameStartByte link => Sys2Proof.Machine.execFrameStartByte link s

end Sys2Proof.Machine
end

