-- ==== Sys2Proof/Machine/Step.lean ====
section
/-!
DEFINITION. The step: the command at the front of the queue is taken; with no command waiting, a millisecond passes.
-/

namespace Sys2Proof.Machine

/-- A millisecond of monotonic time passes (R27; DESIGN CHOICE, log entry 7). It is no event at the part, so the writer
takes no turn in it (R157). -/
def State.tick (s : State) : Host.Outcome State Fault Refusal := .next (s.advanceTo (s.clock.mono + 1))

/-- One step: `exec` on the front command, with the rest of the queue left waiting; a tick when the queue is empty. -/
def step (s : State) : Host.Outcome State Fault Refusal :=
  match s.pending with
  | [] => s.tick
  | c :: rest => exec c { s with pending := rest }

/-- The state with the command that a word spells at the front of its queue; unchanged where the word spells none, which
is every word, since the opcode table gives its rows no bits. -/
def State.withFetchWord (s : State) (nbits w : Nat) : State :=
  match decodeTableWord nbits w with
  | none => s
  | some c => { s with pending := c :: s.pending }

end Sys2Proof.Machine
end

