-- ==== Sys2Proof/WellFormed.lean ====
section
/-!
DEFINITION. The checks on a command: a request has a tag of 1 to 255 and a body well formed for its kind (R168, R173), and
an event names a lane, cabin, slot or person that the part has.
-/

namespace Sys2Proof

/-- A request of a kind is well formed: its tag is 1 to 255 and its body decodes (R168, R173). -/
def Request.wf {α : Type} (decode : List Byte → Option α) (r : Request) : Bool :=
  decide (r.tag ≠ 0) && (decode r.body).isSome

/-- The checks on a command. -/
def Instr.wellFormed : Instr → Bool
  | .partReset _ _ => true
  | .startedFrameStart => true
  | .frameReceived _ bytes => !bytes.isEmpty
  | .frameTimeout _ => true
  | .unknownKindTaken link kind _ => !isRequestKind link kind
  | .hostReplyStart => true
  | .noticeFrameStart => true
  | .chargePostStart => true
  | .stationReplyStart => true
  | .frameSent _ => true
  | .loadPerson r => r.wf decodeLoadPerson
  | .readPerson r => r.wf decodeIndex
  | .setLocation r => r.wf decodeSetLocation
  | .reissueCard r => r.wf decodeIndex
  | .adjustBalance r => r.wf decodeAdjustBalance
  | .updateAccount r => r.wf decodeUpdateAccount
  | .clearPerson r => r.wf decodeIndex
  | .readTally r => r.wf decodeEmpty
  | .setDecoder r => r.wf decodeSetDecoder
  | .readDecoder r => r.wf decodeReadDecoder
  | .configureStation r => r.wf decodeConfigureStation
  | .readStation r => r.wf decodeReadStation
  | .setClock r => r.wf decodeTime
  | .setDayOffset r => r.wf decodeTime
  | .readClock r => r.wf decodeEmpty
  | .shipTimeAdvance => true
  | .configureLane r => r.wf decodeConfigureLane
  | .setLaneMode r => r.wf decodeSetLaneMode
  | .readLane r => r.wf decodeLane
  | .resetLaneCounters r => r.wf decodeLane
  | .setAllAboard r => r.wf decodeSetAllAboard
  | .readMovements r => r.wf decodeReadMovements
  | .beamRawChange lane _ _ => decide (lane < 4)
  | .beamEvent lane _ => decide (lane < 4)
  | .blockTimingExpiry lane _ => decide (lane < 4)
  | .laneTap r => r.wf decodeStationTap
  | .permitExpiry lane person => decide (lane < 4) && decide (person < 8192)
  | .allAboardDeadlinePassed => true
  | .configureCabin r => r.wf decodeConfigureCabin
  | .readCabin r => r.wf decodeCabin
  | .clearLockout r => r.wf decodeCabin
  | .setDoorSettings r => r.wf decodeDoorSettings
  | .doorTap r => r.wf decodeDoorTap
  | .strikeWindowEnd cabin => decide (cabin < 4096)
  | .lockoutEnd cabin => decide (cabin < 4096)
  | .doorReport r => r.wf decodeDoorReport
  | .ajarTimingEnd cabin => decide (cabin < 4096)
  | .configureOutlet r => r.wf decodeConfigureOutlet
  | .readOutlet r => r.wf decodeReadOutlet
  | .barSale r => r.wf decodeSale
  | .barOpenTab r => r.wf decodeOpenTab
  | .barCloseTab r => r.wf decodeCloseTab
  | .barVoid r => r.wf decodeVoid
  | .holdExpiry slot => decide (slot < 512)
  | .grantPosting r => r.wf decodeGrantPosting
  | .readHolds r => r.wf decodeIndex
  | .releaseHold r => r.wf decodeReleaseHold
  | .readJournalStatus r => r.wf decodeEmpty
  | .startMuster r => r.wf decodeMusterId
  | .endMuster r => r.wf decodeEmpty
  | .musterTap r => r.wf decodeStationTap
  | .musterPerson r => r.wf decodeMusterPerson
  | .readMuster r => r.wf decodeIndex
  | .setGroupLevel r => r.wf decodeSetGroupLevel
  | .setMemberEnable r => r.wf decodeSetMemberEnable
  | .setServiceLevel r => r.wf decodeServiceLevel
  | .noticeDone r => r.wf decodeEmpty
  | .ackNotice r => r.wf decodeAckNotice
  | .hostSleep r => r.wf decodeEmpty
  | .storeRewrite r => r.wf decodeEmpty
  | .readStoreStatus r => r.wf decodeEmpty
  | .storeWriteComplete duration _ => decide (1 ≤ duration) && decide (duration ≤ 8)
  | .powerFailAssert => true
  | .powerFailRelease => true
  | .identify r => r.wf decodeEmpty
  | .reset r => r.wf decodeEmpty
  | .readLinkCounters r => r.wf decodeClearFlag
  | .frameStartByte _ => true

end Sys2Proof
end

