-- ==== Sys2Proof/Safety.lean ====
section
/-!
DEFINITION. The terms that claims use: what a change leaves alone, how a request is answered, and the agreements between the
part's tables that hold in every state of a safe run.
-/

namespace Sys2Proof.Machine

/-! ### What a change leaves alone -/

/-- The units of the state. -/
inductive Part
  | queue | phase | pins | clock | decoders | persons | tally | stations | lanes | deadline | movements | cabins
  | doorSettings | outlets | holds | journal | muster | notices | wake | host | station | store | freeIndex
  deriving DecidableEq, Repr

/-- A unit is as it was. The wake output is a unit of its own, apart from the rest of the host link. The store is as the
writer's turn, with which every event ends, leaves it (R157): `Obligations.WritesLandOrFault` says what a turn does. -/
def Part.kept (s t : State) : Part → Prop
  | .queue => t.pending = s.pending
  | .phase => t.phase = s.phase
  | .pins => t.unitAddressPins = s.unitAddressPins ∧ t.unitAddress = s.unitAddress ∧ t.powerFailLevel = s.powerFailLevel
  | .clock => t.clock = s.clock
  | .decoders => t.decoders = s.decoders
  | .persons => t.persons = s.persons
  | .tally => t.tally = s.tally ∧ t.tallySequence = s.tallySequence
  | .stations => t.stations = s.stations
  | .lanes => t.lanes = s.lanes
  | .deadline => t.deadline = s.deadline ∧ t.deadlineArrived = s.deadlineArrived ∧ t.guestsReported = s.guestsReported
  | .movements => t.movementLog = s.movementLog ∧ t.discardCount = s.discardCount
  | .cabins => t.cabins = s.cabins
  | .doorSettings => t.doorSettings = s.doorSettings
  | .outlets => t.outlets = s.outlets
  | .holds => t.slots = s.slots
  | .journal => t.journal = s.journal ∧ t.allowance = s.allowance ∧ t.nextCharge = s.nextCharge
      ∧ t.journalFullReported = s.journalFullReported
  | .muster => t.muster = s.muster
  | .notices => t.notices = s.notices
  | .wake => t.host.wake = s.host.wake
  | .host => { t.host with wake := s.host.wake } = s.host
  | .station => t.station = s.station
  | .store => t.store = s.store.turn (!t.isRunning) t.persons t.muster t.clock.mono
  | .freeIndex => t.freeIndex = s.freeIndex

/-- Every unit outside a list is as it was. -/
def Keeps (changed : List Part) (s t : State) : Prop := ∀ p : Part, p ∉ changed → p.kept s t

/-- A host request waits at the head of its queue and may be taken; it carries a tag, and its body is well formed
(R168, R173). -/
structure HostOffer {α : Type} (s : State) (kind : Byte) (decode : List Byte → Option α) (r : Request) (q : α) : Prop where
  takes : s.hostTakes ⟨kind, r.tag, r.body⟩ = true
  tagged : r.tag ≠ 0
  body : decode r.body = some q

/-- A station request waits at the head of its queue and may be taken; it carries a tag, and its body is well formed
(R168, R173). -/
structure StationOffer {α : Type} (s : State) (kind : Byte) (decode : List Byte → Option α) (r : Request) (q : α) :
    Prop where
  takes : s.stationTakes ⟨kind, r.tag, r.body⟩ = true
  tagged : r.tag ≠ 0
  body : decode r.body = some q

/-- A host request has been taken from the head of its queue and the reply has joined the tail of the reply queue; the
rest of the host link, the wake output apart, is as it was (R173). -/
def HostAnswered (s t : State) (r : HostReply) : Prop :=
  { t.host with wake := s.host.wake }
    = { s.host with port := { s.host.port with requests := s.host.port.requests.tail }
                    replies := s.host.replies ++ [r] }

/-- A station request has been taken and answered; the rest of the station link is as it was (R173). -/
def StationAnswered (s t : State) (r : StationReply) : Prop :=
  t.station
    = { s.station with port := { s.station.port with requests := s.station.port.requests.tail }
                       replies := s.station.replies ++ [r] }

/-- No notice has been raised. -/
def Silent (s t : State) : Prop := t.notices = s.notices ∧ t.host.wake = s.host.wake

/-- Exactly one member's event has been raised, and the wake output follows it (R143, R144, R153). -/
def Raised (s t : State) (m : MemberId) (detail : Nat) : Prop :=
  t.notices = s.notices.raise m detail
    ∧ t.host.wake = (s.host.wake || (s.host.asleep && !(s.notices.member m).flag))

/-- An event of a member, with its detail, that is raised when a condition holds. -/
def eventIf (c : Prop) [Decidable c] (m : MemberId) (detail : Nat) : List (MemberId × Nat) := if c then [(m, detail)] else []

/-- These members' events have been raised and no others: each acts on its member and its group's pending flag, and a flag
that rises while the host is asleep asserts the wake output (R143, R144, R153). -/
def RaisedAll (s t : State) (events : List (MemberId × Nat)) : Prop :=
  t.notices = events.foldl (fun n e => n.raise e.1 e.2) s.notices
    ∧ t.host.wake = (s.host.wake || (s.host.asleep && events.any fun e => !(s.notices.member e.1).flag))

/-- Monotonic time has come to a moment, or stands where it was when it was already past it; the rest of the time unit is
as it was. -/
def AtTime (s t : State) (due : Nat) : Prop := t.clock = { s.clock with mono := max s.clock.mono (min due maxMono) }

/-! ### Links -/

/-- The unit of a link. -/
def Part.ofLink : Link → Part
  | .host => .host
  | .station => .station

/-- A link controller may take a frame from the head of its request queue (R173). -/
def State.takes (s : State) : Link → Frame → Bool
  | .host => s.hostTakes
  | .station => s.stationTakes

/-- Of a link, nothing but its port, and the wake output, has changed. -/
def PortOnly (link : Link) (s t : State) : Prop :=
  match link with
  | .host => { t.host with port := s.host.port, wake := s.host.wake } = s.host
  | .station => { t.station with port := s.station.port } = s.station

/-- A request of a link has been taken and answered with a result that carries nothing more (R173, R180). -/
def Answered (link : Link) (s t : State) (f : Frame) (result : Result) : Prop :=
  match link with
  | .host => HostAnswered s t ⟨f.kind, f.tag, result, []⟩
  | .station => StationAnswered s t ⟨f.kind, f.tag, result, StationGroups.empty⟩

/-- A host message that reads: it answers OK with fields of the state as it stands, and changes nothing. -/
def Reads {α : Type} (command : Request → Instr) (kind : Byte) (decode : List Byte → Option α)
    (fields : α → State → List Field) : Prop :=
  ∀ (s : State) (r : Request) (q : α), HostOffer s kind decode r q →
    ∃ t, exec (command r) s = .next t ∧ HostAnswered s t ⟨kind, r.tag, .ok, fields q s⟩ ∧ Keeps [.host] s t

/-- A station request from a source that the tables do not serve: it answers NOT_CONFIGURED, raises UNCONFIGURED_SOURCE
with the source, and changes nothing else. -/
def RefusesUnserved {α : Type} (command : Request → Instr) (kind : Byte) (decode : List Byte → Option α) (source : α → Nat)
    (unserved : State → α → Prop) : Prop :=
  ∀ (s : State) (r : Request) (q : α), StationOffer s kind decode r q → unserved s q →
    ∃ t, exec (command r) s = .next t ∧ StationAnswered s t ⟨kind, r.tag, .notConfigured, StationGroups.empty⟩
      ∧ Raised s t MemberId.unconfiguredSource (source q) ∧ Keeps [.station, .notices, .wake] s t

/-- A station entry does not serve a kind of request: it is of another kind or not enabled (R25). -/
def State.doesNotServe (s : State) (kind : StationKind) (address : Nat) : Prop :=
  (s.stationEntry address).kind ≠ kind ∨ (s.stationEntry address).enabled = false

/-! ### The change of one person record -/

/-- ALL_GUESTS_ABOARD is due to a change: it moved a record in the tally while the deadline was PASSED and the
guests-aboard-reported flag clear, and has left the GUEST-ASHORE count at 0 (R66). -/
abbrev GuestsCome (s t : State) (moved : Prop) : Prop :=
  moved ∧ s.deadline = .passed ∧ s.guestsReported = false ∧ t.tallyCount .guest .ashore = 0

/-- The deadline stands, and the guests-aboard-reported flag is set where ALL_GUESTS_ABOARD is due to a change (R66). -/
structure DeadlineHeard (s t : State) (moved : Prop) : Prop where
  deadline : t.deadline = s.deadline ∧ t.deadlineArrived = s.deadlineArrived
  reported : t.guestsReported = true ↔ s.guestsReported = true ∨ GuestsCome s t moved

/-- ALL_MUSTERED is due to a change: it has left the unmustered count at 0, which stood above 0 before (R132). -/
abbrev LastMustered (s t : State) : Prop := 0 < s.muster.unmustered ∧ t.muster.unmustered = 0

/-- What else a change of the record at an index may bring about, and what it leaves alone: no other record; of a cabin
only its occupant count; of the muster only its person counts, the unmustered count following the record's muster state; of
the notices ALL_MUSTERED and ALL_GUESTS_ABOARD, where they are due, and no others; and of the store the marking of the block
when a retained field changes (R9, R10, R14, R22, R66, R127, R132). -/
structure OnePersonChanged (s t : State) (i : Nat) : Prop where
  others : ∀ j, j ≠ i → t.person j = s.person j
  sequence : t.tallySequence
    = if placeOf (s.person i) = placeOf (t.person i) then s.tallySequence else s.tallySequence + 1
  cabins : ∀ c, { t.cabin c with occupants := (s.cabin c).occupants } = s.cabin c
  muster : t.muster.active = s.muster.active ∧ t.muster.id = s.muster.id ∧ t.muster.unswept = s.muster.unswept
  unmustered : t.muster.unmustered = if musterOf (s.person i) = musterOf (t.person i) then s.muster.unmustered
    else if musterOf (s.person i) = .unmustered then s.muster.unmustered - 1
    else if musterOf (t.person i) = .unmustered then s.muster.unmustered + 1 else s.muster.unmustered
  deadline : DeadlineHeard s t (placeOf (s.person i) ≠ placeOf (t.person i))
  notices : RaisedAll s t (eventIf (LastMustered s t) MemberId.allMustered s.muster.id
    ++ eventIf (GuestsCome s t (placeOf (s.person i) ≠ placeOf (t.person i))) MemberId.allGuestsAboard 0)
  store : t.store = (s.store.markWhen (decide (retained (s.person i) ≠ retained (t.person i))) (blockOf i)).turn
    (!t.isRunning) t.persons t.muster t.clock.mono

/-- The units that a change of one person record may reach. -/
def personUnits : List Part := [.persons, .tally, .cabins, .muster, .deadline, .notices, .wake, .store]

/-! ### Tests in order -/

/-- A list of tests, each with the reason its failing gives, is judged in order: the first that fails gives the reason, and
when none fails there is no reason (R95, R104, R106, R116). -/
def FirstFailing : List (Prop × Result) → Option Result → Prop
  | [], outcome => outcome = none
  | (fails, reason) :: rest, outcome => (fails ∧ outcome = some reason) ∨ (¬ fails ∧ FirstFailing rest outcome)

/-- The four tests with which a sale and both tab requests begin (R95, R104, R106). -/
def State.barTests (s : State) (outlet : Nat) : List (Prop × Result) :=
  [(s.muster.active = true, .muster), (s.clock.running = false, .clockUnset), (s.store.state ≠ .opened, .powerFail),
   ((s.outlet outlet).enabled = false, .outletClosed)]

/-- The exposure of an account: posted balance, held total and unposted total (R99). -/
def Account.owes (a : Account) : Int := a.posted + a.held + a.unposted

/-- The spending that counts on a day (R100). -/
def Account.spentOn (a : Account) (day : Nat) : Nat := if a.spentDay = day then a.spentToday else 0

/-- The tests of a purchase against an account that is there: suspension, alcohol, ceiling, credit and the day's limit
(R96 to R100). -/
def Account.tests (a : Account) (o : Outlet) (day : Nat) (lines : List Line) (total increase : Nat) : List (Prop × Result) :=
  [(a.suspended = true, .suspended),
   ((∃ l ∈ lines, l.alcohol = true) ∧ (a.noAlcohol = true ∨ o.alcoholAllowed = false), .alcohol),
   (10000000 < total, .overCeiling),
   (0 < increase ∧ (a.creditLimit : Int) < a.owes + increase, .credit),
   (0 < increase ∧ ∃ limit, a.dailyLimit = some limit ∧ limit < a.spentOn day + increase, .daily)]

/-- The available amount of an account (R99). -/
def Account.left (a : Account) : Nat := ((a.creditLimit : Int) - a.owes).toNat

/-- A refusal that comes at the credit test or later carries the available amount (R99, R102). -/
def carriesAvailable (reason : Result) : Prop :=
  reason = .credit ∨ reason = .daily ∨ reason = .journalFull ∨ reason = .holdLimit ∨ reason = .holdsFull

/-- The account of the record at an index has changed; every other record, and the rest of this one, stands. -/
def AccountChanged (s t : State) (i : Nat) (f : Account → Account) : Prop :=
  ∀ j, t.person j = if j = i then (s.person j).map fun p => { p with account := p.account.map f } else s.person j

/-- A sale or a tab's closing has been captured: the account bears the total, with the freed amount no longer held; the
entry stands at the tail of the journal; the next charge number follows; and CHARGE_WAITING is raised when the journal was
empty with no allowance, by a close too, where R123 is followed over a sentence of R107 (log entry 32) (R101, R107, R114, R115,
R123). -/
structure Captured (s t : State) (e : Entry) (freed : Nat) : Prop where
  account : AccountChanged s t e.person fun a => { a with
    held := a.held - freed, unposted := a.unposted + e.amounts.total
    spentToday := min (a.spentOn e.day + e.amounts.total) 99999999, spentDay := e.day }
  journal : t.journal = s.journal ++ [e]
  number : t.nextCharge = if s.nextCharge = 4294967295 then 1 else s.nextCharge + 1
  allowance : t.allowance = s.allowance
  reported : t.journalFullReported = s.journalFullReported
  waiting : s.journal = [] ∧ s.allowance = 0 → Raised s t MemberId.chargeWaiting e.person
  quiet : ¬ (s.journal = [] ∧ s.allowance = 0) → Silent s t

/-- A capture was refused with JOURNAL_FULL: the first such refusal since the journal filled is reported (R115). -/
structure JournalFullRefused (s t : State) (outlet : Nat) : Prop where
  journal : t.journal = s.journal ∧ t.allowance = s.allowance ∧ t.nextCharge = s.nextCharge
  reported : t.journalFullReported = true
  first : s.journalFullReported = false → Raised s t MemberId.journalFull outlet
  later : s.journalFullReported = true → Silent s t

/-! ### Credits at a muster point -/

/-- A person has been credited at a point: the record is ABOARD and MUSTERED there, the counts have moved from the former
muster state, and of the notices those that are due have been raised and no others: ALL_MUSTERED at the fall of the unmustered
count to 0, ALL_GUESTS_ABOARD at a correction that leaves no guest ashore, POINT_MOVE for a move and TALLY_CORRECTED for a
corrected location (R66, R127, R130, R131, R132). -/
structure Credited (s t : State) (i point : Nat) (p : Person) : Prop where
  record : t.person i = some { p with location := .aboard, muster := .mustered point }
  others : ∀ j, j ≠ i → t.person j = s.person j
  unit : t.muster.active = s.muster.active ∧ t.muster.id = s.muster.id ∧ t.muster.unswept = s.muster.unswept
  unmustered : t.muster.unmustered = if p.muster = .unmustered then s.muster.unmustered - 1 else s.muster.unmustered
  unrecorded : t.muster.unrecorded = if p.muster = .unrecorded then s.muster.unrecorded - 1 else s.muster.unrecorded
  points : ∀ k, t.muster.points.read 0 k = if k = point then s.muster.points.read 0 k + 1
    else if p.muster = .mustered k then s.muster.points.read 0 k - 1 else s.muster.points.read 0 k
  sequence : t.tallySequence = if p.location = .aboard then s.tallySequence else s.tallySequence + 1
  cabins : t.cabins = s.cabins
  notices : RaisedAll s t (eventIf (LastMustered s t) MemberId.allMustered s.muster.id
    ++ eventIf (GuestsCome s t (p.location ≠ .aboard)) MemberId.allGuestsAboard 0
    ++ eventIf (p.muster.isMustered = true) MemberId.pointMove i
    ++ eventIf (p.location ≠ .aboard) MemberId.tallyCorrected i)
  deadline : DeadlineHeard s t (p.location ≠ .aboard)
  store : t.store = (s.store.markWhen (decide (p.location ≠ .aboard ∨ p.muster.isMustered = false)) (blockOf i)).turn
    (!t.isRunning) t.persons t.muster t.clock.mono

/-! ### The counts of a lane -/

/-- The count of a lane that has a counter identity (R59). -/
def LaneCounts.byIdentity (c : LaneCounts) : Nat → Nat
  | 0 => c.inbound
  | 1 => c.outbound
  | 2 => c.balks
  | 3 => c.late
  | 4 => c.contrary
  | 5 => c.forced
  | 6 => c.noShows
  | _ => c.occupancy

/-- The count of an identity has come to its maximum between two readings of a lane's counts: 65,535 for the seven
counters, 4,294,967,295 for the occupancy accumulator (R44, R59). -/
def Saturates (before after : LaneCounts) (identity : Nat) : Prop :=
  let top := if identity = 7 then 4294967295 else 65535
  identity < 8 ∧ before.byIdentity identity < top ∧ after.byIdentity identity = top

/-- What an event at a lane does with the saturation-reported flag and with the notices: the first count to come to its
maximum while the flag is clear sets the flag and raises COUNTER_SATURATED with its identity, one of theirs where several come
to it at once; before that the events in the list `others` have been raised, and no more (R59, log entry 6). -/
structure SaturationNoted (s t : State) (lane : Nat) (others : List (MemberId × Nat)) : Prop where
  flag : (t.lane lane).saturationReported = true ↔ (s.lane lane).saturationReported = true
    ∨ ∃ k, Saturates (s.lane lane).counts (t.lane lane).counts k
  raised : (s.lane lane).saturationReported = false → (∃ k, Saturates (s.lane lane).counts (t.lane lane).counts k) →
    ∃ k, Saturates (s.lane lane).counts (t.lane lane).counts k
      ∧ RaisedAll s t (others ++ [(MemberId.counterSaturated lane, k)])
  silent : (s.lane lane).saturationReported = true ∨ (∀ k, ¬ Saturates (s.lane lane).counts (t.lane lane).counts k) →
    RaisedAll s t others

/-! ### Permits cancelled together -/

/-- Every permit in the four lanes has been cancelled, with the gate permit fields of their persons, and every flap follows
(R51, R52, R58). -/
structure PermitsCancelled (s t : State) : Prop where
  lanes : ∀ l < 4, t.lane l = { s.lane l with
    permits := [], flapOpen := (s.lane l).flapOpen && !((s.lane l).recognizer == .clear && !(s.lane l).blocked) }
  gatePermits : ∀ i p, s.person i = some p → ∃ v, t.person i = some v
    ∧ v.gatePermit = if (List.range 4).any fun l => (s.lane l).permits.any fun q => q.person == i then none
      else p.gatePermit

/-- A group is deliverable: pending, at a level above 0 and above the service level unless it is ALARM, with room on the
service stack and the host not asleep (R147). -/
def State.mayDeliver (s : State) (g : Nat) : Prop :=
  s.notices.isPending g = true ∧ 0 < s.notices.level g ∧ (s.notices.serviceLevel < s.notices.level g ∨ g = 0)
    ∧ s.notices.stack.length < 4 ∧ s.host.asleep = false

/-! ### Canonical tables -/

/-- Every table of the state is in canonical form. -/
structure State.Tidy (s : State) : Prop where
  decoders : s.decoders.wf Decoder.reset
  persons : s.persons.wf none
  tally : s.tally.wf 0
  stations : s.stations.wf Station.reset
  lanes : s.lanes.wf Lane.reset
  cabins : s.cabins.wf Cabin.reset
  outlets : s.outlets.wf Outlet.reset
  slots : s.slots.wf Slot.reset
  points : s.muster.points.wf 0
  levels : s.notices.levels.wf 0
  groupsPending : s.notices.pending.wf false
  members : s.notices.members.wf Member.reset
  blocks : s.store.blocks.wf .erased
  faults : s.store.faults.wf 0

/-! ### Agreements with the person table -/

/-- The number of records that a test picks. -/
def State.countPersons (s : State) (f : Person → Bool) : Nat := (s.persons.filter fun e => e.2.any f).length

/-- Each tally count is the number of records of its class and location (R21). -/
structure State.TallyAgrees (s : State) : Prop where
  persons : s.persons.wf none
  tally : s.tally.wf 0
  counts : ∀ cls loc, s.tallyCount cls loc = s.countPersons fun p => p.cls == cls && p.location == loc

/-- The fields of a record agree with its condition and class (R6), and its account's amounts lie in their ranges (R8). -/
structure Person.WellFormed (p : Person) : Prop where
  restored : p.loaded = false → p.cabin = none ∧ p.rights = none ∧ p.sweep = false ∧ p.account = none
  visitor : p.cls = .visitor → p.cabin = none
  crewRights : p.rights.isSome → p.cls = .crew
  crewSweep : p.sweep = true → p.cls = .crew
  rights : ∀ r, p.rights = some r → r.1 ≤ r.2
  limits : ∀ a, p.account = some a → a.creditLimit ≤ maxLimit ∧ ∀ d, a.dailyLimit = some d → d ≤ maxLimit
  amounts : ∀ a, p.account = some a → balanceInRange a.posted = true ∧ a.spentToday ≤ maxBalance

/-- Every record is well formed (R6, R8). -/
structure State.RecordsWellFormed (s : State) : Prop where
  persons : s.persons.wf none
  records : ∀ i p, s.person i = some p → p.WellFormed

/-- Each occupant count is the number of records naming the cabin, at most 8 (R14). -/
structure State.OccupantsAgree (s : State) : Prop where
  persons : s.persons.wf none
  cabins : s.cabins.wf Cabin.reset
  counts : ∀ c, (s.cabin c).occupants = s.countPersons fun p => p.cabin == some c
  atMost : ∀ c, (s.cabin c).occupants ≤ 8

/-! ### Permits (R51, R58) -/

/-- A lane's queue holds a permit for a person. -/
def Lane.holdsPermitFor (l : Lane) (i : Nat) : Prop := ∃ p ∈ l.permits, p.person = i

/-- A gate permit field names a lane exactly when that lane's queue holds a permit for the person, and no queue holds more
than two permits or two for one person (R51). -/
structure State.PermitsAgree (s : State) : Prop where
  persons : s.persons.wf none
  lanes : s.lanes.wf Lane.reset
  agree : ∀ i l, (s.person i).bind Person.gatePermit = some l ↔ (s.lane l).holdsPermitFor i
  atMost : ∀ l, (s.lane l).permits.length ≤ 2
  once : ∀ l, ((s.lane l).permits.map Permit.person).Nodup

/-- The lanes are the four the part has, and no permit exists while a muster is ACTIVE or the store is not OPEN
(R54, R55, R58). -/
structure State.PermitsHeldBack (s : State) : Prop where
  lanes : s.lanes.wf Lane.reset
  stations : s.stations.wf Station.reset
  numbered : ∀ e ∈ s.lanes, e.1 < 4
  bound : ∀ a l, (s.stationEntry a).kind = .lane → (s.stationEntry a).binding = some l → l < 4
  none : s.muster.active = true ∨ s.store.state ≠ .opened → ∀ l, (s.lane l).permits = []

/-! ### The muster (R127) -/

/-- The muster counts summarize the muster states and the sweep states, and these agree with the muster state (R127). -/
structure State.MusterAgrees (s : State) : Prop where
  heldBack : s.PermitsHeldBack
  persons : s.persons.wf none
  cabins : s.cabins.wf Cabin.reset
  points : s.muster.points.wf 0
  unmustered : s.muster.unmustered = s.countPersons fun p => p.muster == .unmustered
  unrecorded : s.muster.unrecorded = s.countPersons fun p => p.muster == .unrecorded
  point : ∀ q, s.muster.points.read 0 q = s.countPersons fun p => p.muster == .mustered q
  unswept : s.muster.unswept = (s.cabins.filter fun e => e.2.sweep == .unswept).length
  idle : s.muster.active = false → ∀ i p, s.person i = some p → p.muster = .none
  active : s.muster.active = true → ∀ i p, s.person i = some p → (p.location = .aboard ↔ p.muster ≠ .none)
  idleSweeps : s.muster.active = false → ∀ c, (s.cabin c).sweep = .none
  activeSweeps : s.muster.active = true → ∀ c, (s.cabin c).configured = true ↔ (s.cabin c).sweep ≠ .none

/-! ### Accounts (R103, R113) -/

/-- The amounts of a person's OPEN holds. -/
def State.heldAmounts (s : State) (i : Nat) : Nat :=
  (s.slots.map fun e => match e.2.hold with
    | some h => if h.person = i then h.amount else 0
    | none => 0).sum

/-- The totals of a person's journal entries. -/
def State.unpostedAmounts (s : State) (i : Nat) : Nat :=
  (s.journal.map fun e => if e.person = i then e.amounts.total else 0).sum

/-- The held and unposted totals of every account are the sums of its holds and of its journal entries (R103, R113). -/
structure State.AccountsAgree (s : State) : Prop where
  persons : s.persons.wf none
  slots : s.slots.wf Slot.reset
  held : ∀ i a, s.accountOf i = some a → a.held = s.heldAmounts i
  unposted : ∀ i a, s.accountOf i = some a → a.unposted = s.unpostedAmounts i
  holdOwner : ∀ k h, (s.slot k).hold = some h → 0 < h.amount ∧ (s.accountOf h.person).isSome
  entryOwner : ∀ e ∈ s.journal, 0 < e.amounts.total → (s.accountOf e.person).isSome

/-! ### Capacities -/

/-- The queues and counts with a stated capacity are within it (R62, R113, R119, R146, R170, R171). -/
structure State.WithinCapacity (s : State) : Prop where
  hostRequests : s.host.port.requests.length ≤ 8
  stationRequests : s.station.port.requests.length ≤ 16
  hostReplies : s.host.replies.length ≤ 16
  stationReplies : s.station.replies.length ≤ 32
  hostErrors : s.host.port.errors ≤ 65535
  stationErrors : s.station.port.errors ≤ 65535
  movements : s.movementLog.length ≤ 256
  discards : s.discardCount ≤ 255
  journal : s.journal.length ≤ 1024
  allowance : s.allowance ≤ 1024
  stack : s.notices.stack.length ≤ 4

/-- Levels are 0 to 7, the ALARM level is 7, and a member's count is at most 255 (R141, R142, R146, R151). -/
structure State.LevelsInRange (s : State) : Prop where
  table : s.notices.levels.wf 0
  members : s.notices.members.wf Member.reset
  levels : ∀ g, s.notices.level g ≤ 7
  alarm : s.notices.level 0 = 7
  service : s.notices.serviceLevel ≤ 7
  stack : ∀ l ∈ s.notices.stack, l ≤ 7
  counts : ∀ m, (s.notices.member m).count ≤ 255

/-! ### The retention store (R155 to R161) -/

/-- A list of stored entries may stand in a person block: its indices rise strictly and belong to the block (R155). -/
def EntriesOf (b : Nat) (l : List (Nat × StoredEntry)) : Prop :=
  l.Pairwise (fun x y => x.1 < y.1) ∧ ∀ e ∈ l, blockOf e.1 = b

/-- A stored block holds exactly the occupied entries of a list. An erased block holds none. -/
def StoredBlock.holds : StoredBlock → List (Nat × StoredEntry) → Prop
  | .erased, l => l = []
  | .failing, _ => False
  | .entries k, l => k = l

/-- A write in flight carries its block's kind of contents. -/
def Flight.WellFormed (f : Flight) : Prop :=
  match f.copy with
  | .person l => f.block < 128 ∧ EntriesOf f.block l
  | .control _ => f.block = 128

/-- What will stand in a person block when the write in flight, if it is of that block, has been done. -/
def Store.coming (t : Store) (b : Nat) : StoredBlock :=
  match t.inFlight with
  | some ⟨block, _, .person l⟩ => if block = b then .entries l else t.blocks.read .erased b
  | _ => t.blocks.read .erased b

/-- Every person block that is neither dirty nor FAILED holds, or is being written with, the retained fields of its
records; the records have indices 0 to 8,191; the dirty set holds block numbers 0 to 128, ascending and without repeats; and a
CLOSED store is drained (R6, R156, R157, R161). -/
structure State.StoreFaithful (s : State) : Prop where
  heldBack : s.PermitsHeldBack
  persons : s.persons.wf none
  records : ∀ e ∈ s.persons, e.1 < 8192
  dirty : s.store.dirty.Pairwise (· < ·) ∧ ∀ b ∈ s.store.dirty, b ≤ 128
  blocks : s.store.blocks.wf .erased
  idle : s.muster.active = false → ∀ i p, s.person i = some p → p.muster = .none
  stored : ∀ b l, s.store.blocks.read .erased b = .entries l → EntriesOf b l
  flight : ∀ f, s.store.inFlight = some f → f.WellFormed
  faithful : ∀ b, b < 128 → b ∉ s.store.dirty → s.store.isFailed b = false →
    (s.store.coming b).holds (personCopy s.persons b)
  drained : s.store.state = .closed → s.store.dirty = [] ∧ s.store.inFlight = none
  unlisted : s.store.unlistedFailed ≠ none → s.store.writer ≠ .normal
  lastWrites : s.store.writer ≠ .normal → ∀ f, s.store.inFlight = some f → f.block = controlBlock

/-! ### Resets -/

/-- The control block as a reset's restore finds it: a write in flight is ended by the reset and leaves its block
part-written, failing its check (R157, R164). -/
def Store.controlFound (t : Store) : StoredControl :=
  match t.inFlight with
  | some ⟨_, _, .control _⟩ => .failing
  | _ => t.control

/-- A person block as a reset's restore finds it: a write in flight is ended by the reset and leaves its block part-written,
failing its check (R157, R165). -/
def Store.blockFound (t : Store) (b : Nat) : StoredBlock :=
  match t.inFlight with
  | some ⟨block, _, .person _⟩ => if block = b then .failing else t.blocks.read .erased b
  | _ => t.blocks.read .erased b

/-- The command restarts the part: PART_RESET, or FRAME_SENT of the OK reply to RESET (R163, R177). -/
def restarts (c : Instr) (s : State) : Bool :=
  match c with
  | .partReset _ _ => true
  | .frameSent .host => s.host.sending.any fun f => f.resets
  | _ => false

end Sys2Proof.Machine
end

