-- ==== Sys2Proof/Certificates/Slice0/Obligations.lean ====
section
/-!
DEFINITION. The statements for the provers. Each cites the rules of the manual that it rests on; a statement that rests on
a choice of the model names the log entry.
-/

open Sys2Proof Sys2Proof.Machine

/-! ### The step -/

/-- A step takes the command at the front of the queue and is `exec` of it with the rest left waiting. On an empty queue a
millisecond passes and nothing else changes, the writer not starting either: the model's choice, log entry 7. -/
def Obligations.StepRunsTheFrontCommand : Prop :=
  (∀ (s : State) (c : Instr) (rest : List Instr), s.pending = c :: rest → step s = exec c { s with pending := rest })
  ∧ ∀ s : State, s.pending = [] →
      ∃ t, step s = .next t ∧ AtTime s t (s.clock.mono + 1) ∧ t.store = s.store ∧ Keeps [.clock, .store] s t

/-- No command touches the queue of the commands that wait (the queue is the model's own). -/
def Obligations.NoCommandTouchesTheQueue : Prop :=
  ∀ (c : Instr) (s t : State), exec c s = .next t → t.pending = s.pending

/-- Every well-formed command runs in every state; an event that names a lane, cabin, slot, person or duration that the part
does not have faults by name (R38, R67, R103, R6, R157; stopping there is the model's choice, log entry 12). -/
def Obligations.WellFormedCommandsRun : Prop :=
  (∀ (c : Instr) (s : State), c.wellFormed = true → ∃ t, exec c s = .next t)
  ∧ (∀ (lane : Nat) (b : Beam) (high : Bool) (person : Nat) (s : State), 4 ≤ lane →
      exec (.beamRawChange lane b high) s = .fault .noSuchLane ∧ exec (.beamEvent lane b) s = .fault .noSuchLane
      ∧ exec (.blockTimingExpiry lane b) s = .fault .noSuchLane ∧ exec (.permitExpiry lane person) s = .fault .noSuchLane)
  ∧ (∀ (lane person : Nat) (s : State), lane < 4 → 8192 ≤ person →
      exec (.permitExpiry lane person) s = .fault .noSuchPerson)
  ∧ (∀ (cabin : Nat) (s : State), 4096 ≤ cabin →
      exec (.strikeWindowEnd cabin) s = .fault .noSuchCabin ∧ exec (.lockoutEnd cabin) s = .fault .noSuchCabin
      ∧ exec (.ajarTimingEnd cabin) s = .fault .noSuchCabin)
  ∧ (∀ (slot : Nat) (s : State), 512 ≤ slot → exec (.holdExpiry slot) s = .fault .noSuchSlot)
  ∧ ∀ (duration : Nat) (agrees : Bool) (s : State), duration = 0 ∨ 8 < duration →
      exec (.storeWriteComplete duration agrees) s = .fault .noSuchDuration

/-! ### Reset -/

/-- The state right after a reset has canonical tables and meets every invariant stated below. The contents of the
non-volatile memory and the levels of the pins in it are the model's choice, log entries 2 and 3. -/
def Obligations.ResetMeetsEveryInvariant : Prop :=
  State.reset.Tidy ∧ State.reset.TallyAgrees ∧ State.reset.RecordsWellFormed ∧ State.reset.OccupantsAgree
  ∧ State.reset.PermitsAgree ∧ State.reset.PermitsHeldBack ∧ State.reset.MusterAgrees ∧ State.reset.AccountsAgree
  ∧ State.reset.WithinCapacity ∧ State.reset.LevelsInRange ∧ State.reset.StoreFaithful

/-- PART_RESET samples the unit-address pins and leaves volatile state at its reset values: every member's flag, count and
pending flag clear, but for ALL_MUSTERED where a muster resumes with nobody unmustered; every beam's filtered state CLEAR, with
a filter run of 20 milliseconds where its input reads BROKEN. What the report of the reset says, beyond the cause, the unit
address and the boot number, RestoreRebuildsTheRecords says. Start-up then writes the control block, or, with the store found
UNUSABLE, ends at once, the STARTED frame queued. That the command carries the levels of the pins is the model's choice, log
entry 8, and that start-up to the start of its step 4 is part of it, log entry 21 (R1, R24, R27, R38, R43, R64, R67, R68, R86,
R125, R139, R142, R146, R157, R158, R163, R166, R178). -/
def Obligations.PartResetLeavesResetValues : Prop :=
  ∀ (cause : ResetCause) (pins : BitVec 4) (s : State),
    ∃ t report, exec (.partReset cause pins) s = .next t
      ∧ report.cause = cause ∧ report.unitAddress = pins ∧ report.boot = t.store.boot
      ∧ (t.store.unusable = false → t.phase = .starting report ∧ t.host.started = none
          ∧ t.store.inFlight = some ⟨128, 0, .control (t.store.liveFacts t.muster)⟩)
      ∧ (t.store.unusable = true → t.phase = (if s.powerFailLevel then .assertionDue else .running)
          ∧ t.host.started = some report ∧ t.store.inFlight = none)
      ∧ t.store.faults = [] ∧ t.store.orderly = false ∧ t.store.lastWritten = 127
      ∧ t.unitAddress = pins ∧ t.unitAddressPins = pins ∧ t.powerFailLevel = s.powerFailLevel
      ∧ t.clock = Clock.reset ∧ t.decoders = [] ∧ t.stations = [] ∧ t.outlets = [] ∧ t.tallySequence = 0
      ∧ t.deadline = .none ∧ t.deadlineArrived = false ∧ t.guestsReported = false
      ∧ t.movementLog = [] ∧ t.discardCount = 0
      ∧ t.cabins = [] ∧ t.doorSettings = DoorSettings.reset
      ∧ t.slots = [] ∧ t.journal = [] ∧ t.allowance = 0 ∧ t.nextCharge = 1 ∧ t.journalFullReported = false
      ∧ t.notices.levels = defaultLevels ∧ t.notices.serviceLevel = 0 ∧ t.notices.stack = []
      ∧ (∀ m : MemberId, t.notices.member m =
          if m.key = MemberId.allMustered.key ∧ t.muster.active = true ∧ t.muster.unmustered = 0 then
            { flag := true, count := 1, detail := t.muster.id, enable := true }
          else { flag := false, count := 0, detail := 0, enable := true })
      ∧ (∀ g, t.notices.isPending g = true ↔ g = 8 ∧ t.muster.active = true ∧ t.muster.unmustered = 0)
      ∧ t.host.port = Port.reset ∧ t.host.replies = [] ∧ t.host.sending = none ∧ t.host.asleep = false
      ∧ t.host.wake = false ∧ t.host.takingStopped = false ∧ t.station = StationLink.reset
      ∧ ∀ l < 4, (t.lane l).mode = .closed ∧ (t.lane l).permits = [] ∧ (t.lane l).flapOpen = false
          ∧ (t.lane l).recognizer = .clear ∧ (t.lane l).openAtStart = none ∧ (t.lane l).blocked = false
          ∧ (t.lane l).counts = LaneCounts.zero ∧ (t.lane l).occupiedSince = none
          ∧ (t.lane l).saturationReported = false ∧ (t.lane l).setup = Lane.reset.setup
          ∧ ∀ b : Beam, (t.lane l).beam b =
              { high := ((s.lane l).beam b).high, broken := false, blockEnd := none
                filterEnd := if ((s.lane l).beam b).high then none else some 20 }

/-- A reset judges the control block BLANK, CONTROL_LOST or GOOD, a write in flight leaving its block part-written. Unless it is
judged BLANK, every stored entry of a block that passes its check and is not listed FAILED is a RESTORED record with its class,
generation and location, its muster state as the muster found active or not sets it; all other records are EMPTY, and a block
that fails its check or is listed is reported lost. The restore marks dirty every block of a blank store, each unlisted block
that fails its check, and each block with a mustered flag to be cleared, and the last block written counts as 127. The muster
resumes as found, the boot number advances, and the report that STARTED carries says the judgement, the orderly flag as found,
the restored records, the muster resumed and the lost blocks. Whether an erased block of a store that is not blank passes its
check is a free value, log entry 6, and that one which passes holds no occupied entry is the model's choice, log entry 25, and
so is that a control block which fails its check leaves the run not UNUSABLE, log entry 35, and that the restore leaves the
control block out of the dirty set in a store found UNUSABLE too, log entry 39 (R6, R21, R139, R140, R157, R164, R165, R166). -/
def Obligations.RestoreRebuildsTheRecords : Prop :=
  ∀ (cause : ResetCause) (pins : BitVec 4) (s : State), s.store.blocks.wf .erased →
    (∀ b l, b < 128 → s.store.blockFound b = .entries l → EntriesOf b l) →
    let control := s.store.controlFound
    let block := s.store.blockFound
    let facts : ControlFacts := match control with
      | .written true found => found
      | _ => { boot := 0, musterActive := false, musterId := 0, orderly := false, failedList := [], unusable := false }
    let judgement : Judgement := match control with
      | .erased => .blank
      | .failing => .controlLost
      | .written formatRight _ => if formatRight then .good else .blank
    let fails := fun b => block b = .failing ∨ (block b = .erased ∧ Config.erasedBlockAgrees b = false)
    let lost := fun b => judgement ≠ .blank ∧ (b ∈ facts.failedList ∨ fails b)
    let unmarks := fun e : StoredEntry => e.mustered = true ∧ ¬ (facts.musterActive = true ∧ e.location = .aboard)
    ∃ t report, exec (.partReset cause pins) s = .next t
      ∧ (t.store.unusable = false → t.phase = .starting report)
      ∧ (t.store.unusable = true → t.host.started = some report)
      ∧ t.store.boot = facts.boot + 1 ∧ t.store.failedList = facts.failedList ∧ t.store.unusable = facts.unusable
      ∧ t.store.lastWritten = 127
      ∧ (∀ i < 8192, ∀ l e, judgement ≠ .blank → blockOf i ∉ facts.failedList → block (blockOf i) = .entries l →
          (i, e) ∈ l → t.person i = some
            { loaded := false, cls := e.cls, generation := e.generation, location := e.location,
              muster := if facts.musterActive ∧ e.location = .aboard then
                  (if e.mustered then .unrecorded else .unmustered) else .none
              gatePermit := none, cabin := none, rights := none, sweep := false, account := none })
      ∧ (∀ i < 8192, judgement = .blank ∨ lost (blockOf i) ∨ block (blockOf i) = .erased → t.person i = none)
      ∧ (∀ i < 8192, ∀ l, block (blockOf i) = .entries l → (∀ e, (i, e) ∉ l) → t.person i = none)
      ∧ t.store.dirty.Pairwise (· < ·)
      ∧ (∀ b, b ∈ t.store.dirty ↔ b < 128 ∧ (judgement = .blank ∨ (b ∉ facts.failedList
          ∧ (fails b ∨ ∃ l i e, block b = .entries l ∧ (i, e) ∈ l ∧ unmarks e))))
      ∧ t.muster.active = facts.musterActive ∧ t.muster.id = (if facts.musterActive then facts.musterId else 0)
      ∧ t.muster.points = [] ∧ t.muster.unswept = 0
      ∧ t.muster.unmustered = t.countPersons (fun p => p.muster == .unmustered)
      ∧ t.muster.unrecorded = t.countPersons (fun p => p.muster == .unrecorded)
      ∧ (∀ cls loc, t.tallyCount cls loc = t.countPersons fun p => p.cls == cls && p.location == loc)
      ∧ report.judgement = judgement ∧ report.orderly = facts.orderly
      ∧ report.restored = t.countPersons (fun _ => true)
      ∧ report.muster = (if facts.musterActive then
          some (facts.musterId, t.muster.unmustered, t.muster.unrecorded) else none)
      ∧ report.lost.Pairwise (· < ·) ∧ (∀ b, b ∈ report.lost ↔ b < 128 ∧ lost b)

/-! ### Encoding -/

/-- Every host request body decodes to the values it was encoded from, at every value that its layout admits (R11, R179,
R180, section 11.5). -/
def Obligations.HostBodiesDecodeAsEncoded : Prop :=
  (∀ q : LoadPerson, q.valid = true → decodeLoadPerson q.encode = some q)
  ∧ (∀ i < 8192, decodeIndex (encodeIndex i) = some i)
  ∧ (∀ i < 8192, ∀ l, decodeSetLocation (encodeSetLocation i l) = some (i, l))
  ∧ (∀ i < 8192, ∀ z, balanceInRange z = true → decodeAdjustBalance (encodeAdjustBalance i z) = some (i, z))
  ∧ (∀ i < 8192, ∀ a : AccountTerms, a.valid = true → decodeUpdateAccount (encodeUpdateAccount i a) = some (i, a))
  ∧ (∀ k < 8, ∀ d, decodeSetDecoder (encodeSetDecoder k d) = some (k, d))
  ∧ (∀ a < 128, ∀ e : Station, e.valid = true → decodeConfigureStation (encodeConfigureStation a e) = some (a, e))
  ∧ (∀ t < 4294967296, decodeTime (encodeTime t) = some t)
  ∧ (∀ l < 4, ∀ u : LaneSetup, u.filterTime < 256 → u.permitWindow < 256 → u.blockTime < 65536 →
      decodeConfigureLane (encodeConfigureLane l u) = some (l, u))
  ∧ (∀ l < 4, ∀ m, decodeSetLaneMode (encodeSetLaneMode l m) = some (l, m))
  ∧ (∀ l < 4, decodeLane (encodeLane l) = some l)
  ∧ (decodeSetAllAboard (encodeSetAllAboard none) = some none)
  ∧ (∀ t < 4294967296, decodeSetAllAboard (encodeSetAllAboard (some t)) = some (some t))
  ∧ (∀ c < 4096, ∀ v, decodeConfigureCabin (encodeConfigureCabin c v) = some (c, v))
  ∧ (∀ c < 4096, decodeCabin (encodeCabin c) = some c)
  ∧ (∀ d : DoorSettings, d.strikeTime < 256 → d.ajarTime < 65536 → d.lockoutThreshold < 256 → d.lockoutTime < 65536 →
      decodeDoorSettings d.encode = some d)
  ∧ (∀ k < 32, ∀ o : Outlet, o.serviceRate < 256 → o.taxRate0 < 65536 → o.taxRate1 < 65536 → o.taxRate2 < 65536 →
      o.taxRate3 < 65536 → o.holdLife < 4294967296 → o.voidWindow < 65536 →
      decodeConfigureOutlet (encodeConfigureOutlet k o) = some (k, o))
  ∧ (∀ k < 512, ∀ g, decodeReleaseHold (encodeReleaseHold k g) = some (k, g))
  ∧ (∀ i < 8192, ∀ p < 32, decodeMusterPerson (encodeMusterPerson i p) = some (i, p))
  ∧ (∀ k < 8, decodeReadDecoder (encodeReadDecoder k) = some k)
  ∧ (∀ a < 128, decodeReadStation (encodeReadStation a) = some a)
  ∧ (∀ k < 32, decodeReadOutlet (encodeReadOutlet k) = some k)
  ∧ (∀ n, 1 ≤ n → n ≤ 16 → decodeReadMovements (encodeReadMovements n) = some n)
  ∧ (∀ n, 1 ≤ n → n ≤ 1024 → decodeGrantPosting (encodeGrantPosting n) = some n)
  ∧ (∀ m < 65536, decodeMusterId (encodeMusterId m) = some m)
  ∧ (∀ g ≤ 9, ∀ m < membersOfGroup g, ∀ e, decodeSetMemberEnable (encodeSetMemberEnable g m e) = some (g, m, e))
  ∧ (∀ v ≤ 7, decodeServiceLevel (encodeServiceLevel v) = some v)
  ∧ (∀ clear, decodeClearFlag (encodeClearFlag clear) = some clear)
  ∧ decodeEmpty encodeEmpty = some ()
  ∧ (∀ g ≤ 9, ∀ v ≤ 7, decodeSetGroupLevel (encodePair g v) = some (g, v))
  ∧ ∀ g ≤ 9, ∀ m < membersOfGroup g, decodeAckNotice (encodePair g m) = some (g, m)

/-- Every station request body decodes to the values it was encoded from, at every value that its layout admits (R89, R104,
R106, R179, R180, section 11.3). -/
def Obligations.StationBodiesDecodeAsEncoded : Prop :=
  (∀ q : DoorTap, q.cabin < 4096 → decodeDoorTap q.encode = some q)
  ∧ (∀ q : DoorReport, q.cabin < 4096 → decodeDoorReport q.encode = some q)
  ∧ (∀ q : StationTap, q.station < 128 → decodeStationTap q.encode = some q)
  ∧ (∀ q : Sale, q.station < 128 → purchaseValid q.lines q.tip = true → decodeSale q.encode = some q)
  ∧ (∀ q : OpenTab, q.station < 128 → 100 ≤ q.amount → q.amount ≤ 1000000 → decodeOpenTab q.encode = some q)
  ∧ (∀ q : CloseTab, q.station < 128 → q.slot < 512 → purchaseValid q.lines q.tip = true →
      decodeCloseTab q.encode = some q)
  ∧ ∀ q : VoidCharge, q.station < 128 → q.charge < 4294967296 → decodeVoid q.encode = some q

/-! ### The links -/

/-- The bytes of a frame, formed as the part forms frames, are received as that frame: it joins the request queue, and a host
frame ends the host's sleep. That all its bytes are taken at the present moment, and in one event, are the model's choices, log
entries 16 and 37 (R154, R168, R169, R172). -/
def Obligations.FramesAreReceivedAsSent : Prop :=
  ∀ (link : Link) (kind tag : Byte) (body : List Byte) (s : State),
    body.length ≤ 1024 → s.isStarting = false → (s.port link).receiver = .hunting →
    (s.port link).requests.length < requestCapacity link →
    ∃ t, exec (.frameReceived link (frameBytes kind tag body)) s = .next t
      ∧ t.port link = { s.port link with requests := (s.port link).requests ++ [⟨kind, tag, body⟩] }
      ∧ (link = .host → t.host = { s.host with port := t.host.port, asleep := false, wake := false })
      ∧ (link = .station → PortOnly .station s t)
      ∧ Keeps (if link = .host then [.host, .wake] else [.station]) s t

/-- A frame that arrives during start-up, or finds its request queue full, is answered BUSY when its reply queue has room, and
is otherwise discarded and counted as a link error; either way a host frame ends the host's sleep and releases the wake output,
and nothing else of the link changes. A frame whose check does not agree, or whose length field gives more than 1,024, is
dropped and counted, and does not arrive, the second as soon as its length field has been taken, so that what follows is hunted
for a start byte; it ends no sleep. That all the bytes are taken at the present moment, and that their taking is one event, the
discarding of a byte included, are the model's choices, log entries 16 and 37 (R154, R169, R170, R172). -/
def Obligations.FramesWithoutRoomOrCheck : Prop :=
  (∀ (link : Link) (kind tag : Byte) (body : List Byte) (s : State),
    body.length ≤ 1024 → (s.port link).receiver = .hunting →
    (s.isStarting = true ∨ requestCapacity link ≤ (s.port link).requests.length) →
    ∃ t, exec (.frameReceived link (frameBytes kind tag body)) s = .next t
      ∧ (s.replyRoom link = true → t.notices = s.notices
          ∧ (link = .host → t.station = s.station ∧ t.host = { s.host with
              replies := s.host.replies ++ [⟨kind, tag, .busy, []⟩], asleep := false, wake := false })
          ∧ (link = .station → t.host = s.host ∧ t.station = { s.station with
              replies := s.station.replies ++ [⟨kind, tag, .busy, StationGroups.empty⟩] }))
      ∧ (s.replyRoom link = false → t.port link = { s.port link with errors := min ((s.port link).errors + 1) 65535 }
          ∧ t.notices = s.notices.raise MemberId.linkError (linkDetail link)
          ∧ (link = .host → t.station = s.station
              ∧ t.host = { s.host with port := t.host.port, asleep := false, wake := false })
          ∧ (link = .station → { t.host with wake := s.host.wake } = s.host ∧ Raised s t MemberId.linkError 1
              ∧ t.station = { s.station with port := t.station.port }))
      ∧ Keeps [.host, .station, .wake, .notices] s t)
  ∧ (∀ (link : Link) (kind tag : Byte) (body : List Byte) (check : Nat) (s : State),
    body.length ≤ 1024 → check < 65536 → check ≠ (frameCheck (frameCore kind tag body)).toNat →
    (s.port link).receiver = .hunting →
    ∃ t, exec (.frameReceived link (0xA5#8 :: (frameCore kind tag body ++ natBytes 2 check))) s = .next t
      ∧ t.port link = { s.port link with errors := min ((s.port link).errors + 1) 65535 } ∧ PortOnly link s t
      ∧ Raised s t MemberId.linkError (linkDetail link)
      ∧ Keeps [Part.ofLink link, .wake, .notices] s t)
  ∧ ∀ (link : Link) (length : Nat) (rest : List Byte) (s : State),
    1024 < length → length < 65536 → (s.port link).receiver = .hunting → 0xA5#8 ∉ rest →
    ∃ t, exec (.frameReceived link (0xA5#8 :: (natBytes 2 length ++ rest))) s = .next t
      ∧ t.port link = { s.port link with errors := min ((s.port link).errors + 1) 65535 } ∧ PortOnly link s t
      ∧ Raised s t MemberId.linkError (linkDetail link)
      ∧ Keeps [Part.ofLink link, .wake, .notices] s t

/-- FRAME_START_BYTE begins a frame while HUNTING, and is a byte like any other inside a frame that it does not complete;
FRAME_TIMEOUT drops the frame in progress 50 milliseconds after its last byte. That a byte is taken at the present moment, that
its taking is an event, and that the timeout brings monotonic time to its own moment, are the model's choices, log entries 16,
37 and 7 (R169, R170). -/
def Obligations.ReceiversStartAndTimeOut : Prop :=
  (∀ (link : Link) (s : State), (s.port link).receiver = .hunting →
    ∃ t, exec (.frameStartByte link) s = .next t
      ∧ t.port link = { s.port link with receiver := .inFrame [] s.clock.mono } ∧ PortOnly link s t
      ∧ Keeps [Part.ofLink link] s t)
  ∧ (∀ (link : Link) (s : State) (bs : List Byte) (last : Nat), (s.port link).receiver = .inFrame bs last →
    s.clock.mono ≤ last + 50 →
    (bs = [] ∨ (lengthOf (bs ++ [0xA5]) ≤ 1024 ∧ bs.length + 1 ≠ lengthOf (bs ++ [0xA5]) + 6)) →
    ∃ t, exec (.frameStartByte link) s = .next t
      ∧ t.port link = { s.port link with receiver := .inFrame (bs ++ [0xA5]) s.clock.mono } ∧ PortOnly link s t
      ∧ Keeps [Part.ofLink link] s t)
  ∧ ∀ (link : Link) (s : State) (bs : List Byte) (last : Nat), (s.port link).receiver = .inFrame bs last →
    ∃ t, exec (.frameTimeout link) s = .next t
      ∧ t.port link = { s.port link with receiver := .hunting, errors := min ((s.port link).errors + 1) 65535 }
      ∧ PortOnly link s t ∧ Raised s t MemberId.linkError (linkDetail link) ∧ AtTime s t (last + 50)
      ∧ Keeps [Part.ofLink link, .wake, .notices, .clock] s t

/-- A request that is taken leaves its queue and is answered with exactly one reply, on its own link, carrying its kind and
its tag (R168, R173). -/
def Obligations.RequestsAreAnsweredOnce : Prop :=
  ∀ (link : Link) (f : Frame) (s : State), s.takes link f = true →
    ∃ t, exec (commandFor link f) s = .next t
      ∧ (t.port link).requests = (s.port link).requests.tail
      ∧ match link with
        | .host => t.station.replies = s.station.replies ∧ t.station.port.requests = s.station.port.requests
            ∧ ∃ r, t.host.replies = s.host.replies ++ [r] ∧ r.kind = f.kind ∧ r.tag = f.tag
        | .station => t.host.replies = s.host.replies ∧ t.host.port.requests = s.host.port.requests
            ∧ ∃ r, t.station.replies = s.station.replies ++ [r] ∧ r.kind = f.kind ∧ r.tag = f.tag

/-- A request of a kind that its link does not have is answered UNKNOWN_KIND; one with tag 0 or with a body that is not well
formed is answered MALFORMED; neither changes anything else. Which field values that the manual leaves open make a body not
well formed is the model's choice, log entry 10 (R173, R180). -/
def Obligations.UnfitRequestsChangeNothing : Prop :=
  ∀ (link : Link) (f : Frame) (s : State), s.takes link f = true →
    (isRequestKind link f.kind = false →
      ∃ t, exec (.unknownKindTaken link f.kind ⟨f.tag, f.body⟩) s = .next t ∧ Answered link s t f .unknownKind
        ∧ Keeps [Part.ofLink link] s t)
    ∧ (isRequestKind link f.kind = true → (commandFor link f).wellFormed = false →
      ∃ t, exec (commandFor link f) s = .next t ∧ Answered link s t f .malformed ∧ Keeps [Part.ofLink link] s t)

/-- The thirteen messages that read answer with the state as it stands, and change nothing; the fields of each reply, in their
order and widths, stand behind its presence bytes and counts, with the codes of section 11.8. The model's choices are the order
of the fields, where the manual lists several in one item, log entry 11; the order of the twelve tally counts, log entry 31; the
place of the point byte of a muster state, log entry 26; the width of the revision number, log entry 27; the result OK, log
entry 28; that READ_STORE_STATUS reads the store before the write that starts in its own event, log entry 29; the one presence
byte of the two charge numbers of READ_JOURNAL_STATUS, log entry 33; the character code of the part name, log entry 34; the
order of the 32 point counts of READ_MUSTER, and that no list count stands before them, log entry 36; and the order of the two
beams and the mode's place in READ_LANE, log entry 38 (R1, R20, R23, R24, R33, R60, R70, R87, R112, R118, R137, R167, R176). -/
def Obligations.ReadingsAnswerTheState : Prop :=
  Reads .readPerson 0x21 decodeIndex (fun i s => personFields (s.person i))
  ∧ Reads .readTally 0x27 decodeEmpty
      (fun _ s => s.tallyFields ++ [Field.b4 s.tallySequence.toNat, Field.b4 s.clock.shipTime])
  ∧ Reads .readDecoder 0x29 decodeReadDecoder (fun k s => decoderFields (s.decoder k))
  ∧ Reads .readStation 0x2B decodeReadStation (fun a s => stationFields (s.stationEntry a))
  ∧ Reads .readClock 0x32 decodeEmpty
      (fun _ s => [.b1 (if s.clock.running then 1 else 0), .b4 s.clock.shipTime, .b4 s.clock.dayOffset,
        .b2 s.clock.currentDay])
  ∧ Reads .readLane 0x3A decodeLane (fun l s => laneFields (s.lane l) s.clock.mono)
  ∧ Reads .readCabin 0x41 decodeCabin (fun c s => cabinFields (s.cabin c) s.doorSettings s.clock.mono)
  ∧ Reads .readOutlet 0x49 decodeReadOutlet (fun o s => outletFields (s.outlet o))
  ∧ Reads .readHolds 0x51 decodeIndex
      (fun i s => Field.list holdFields (s.holdsOf i) ++ [Field.b4 s.clock.shipTime])
  ∧ Reads .readJournalStatus 0x53 decodeEmpty (fun _ s => s.journalFields)
  ∧ Reads .readMuster 0x5B decodeIndex (fun start s => s.musterFields start)
  ∧ Reads .readStoreStatus 0x69 decodeEmpty (fun _ s => storeFields s.store)
  ∧ Reads .identify 0x70 decodeEmpty
      (fun _ s => [.text partName, .b1 2, .b1 s.unitAddress.toNat, .b2 s.store.boot.toNat])
  ∧ let flag := fun b : Bool => Field.b1 (if b then 1 else 0)
    let given := fun fields : Option (List Field) => match fields with
      | none => [Field.b1 0]
      | some fs => Field.b1 1 :: fs
    let listed := fun items : List (List Field) => Field.b1 items.length :: items.flatten
    let classes := [PersonClass.guest, .crew, .visitor]
    let locations := [Location.expected, .aboard, .ashore, .departed]
    let account := fun a : Account => Field.b4 a.creditLimit :: given (a.dailyLimit.map fun d => [Field.b4 d])
      ++ [Field.s4 a.posted, Field.b4 a.spentToday, Field.b2 a.spentDay, Field.b4 a.held, Field.b8 a.unposted,
        flag a.noAlcohol, flag a.suspended]
    let muster := fun m : MusterState => match m with
      | .none => [Field.b1 0]
      | .unmustered => [Field.b1 1]
      | .mustered point => [Field.b1 2, Field.b1 point]
      | .unrecorded => [Field.b1 2, Field.b1 0xFF]
    let setup := fun u : LaneSetup =>
      [Field.b1 u.polarity.code, Field.b1 u.filterTime, Field.b1 u.permitWindow, Field.b2 u.blockTime]
    let permit := fun p : Permit =>
      [Field.b2 p.person, Field.b1 (directionCode p.direction), Field.b8 p.issued, Field.b8 p.expiry]
    let counters := fun n : LaneCounts =>
      [Field.b2 n.inbound, Field.b2 n.outbound, Field.b2 n.balks, Field.b2 n.late, Field.b2 n.contrary,
        Field.b2 n.forced, Field.b2 n.noShows]
    let settings := fun d : DoorSettings =>
      [Field.b1 d.strikeTime, Field.b2 d.ajarTime, Field.b1 d.lockoutThreshold, Field.b2 d.lockoutTime]
    partName = ("Eronza 6180".toList.map fun c => BitVec.ofNat 8 c.toNat)
    ∧ classes.map PersonClass.code = [0, 1, 2] ∧ locations.map Location.code = [0, 1, 2, 3]
    ∧ [Direction.inward, .outward].map directionCode = [0, 1]
    ∧ [StationKind.unused, .bar, .lane, .muster].map StationKind.code = [0, 1, 2, 3]
    ∧ [LaneMode.closed, .inbound, .outbound, .both, .finalOut].map LaneMode.code = [0, 1, 2, 3, 4]
    ∧ [Polarity.brokenLow, .brokenHigh].map Polarity.code = [0, 1]
    ∧ [Recognizer.clear, .outer, .inner, .crossingIn, .crossingOut, .leavingIn, .leavingOut].map Recognizer.code
      = [0, 1, 2, 3, 4, 5, 6]
    ∧ [Sweep.none, .unswept, .swept].map Sweep.code = [0, 1, 2]
    ∧ [StoreState.opened, .closing, .closed, .reopening].map StoreState.code = [0, 1, 2, 3]
    ∧ personFields none = [Field.b1 0]
    ∧ (∀ p : Person, personFields (some p) =
        [Field.b1 (if p.loaded then 2 else 1), Field.b1 p.cls.code, Field.b1 p.generation.toNat, Field.b1 p.location.code]
          ++ muster p.muster ++ given (p.gatePermit.map fun l => [Field.b1 l]) ++ given (p.cabin.map fun c => [Field.b2 c])
          ++ given (p.rights.map fun r => [Field.b2 r.1, Field.b2 r.2]) ++ [flag p.sweep] ++ given (p.account.map account))
    ∧ (∀ d : Decoder, decoderFields d =
        [flag d.enabled, Field.b4 d.compare.toNat, Field.b4 d.mask.toNat, Field.b1 d.cls.code, Field.b4 d.offset.toNat])
    ∧ (∀ e : Station, stationFields e =
        [Field.b1 e.kind.code, flag e.enabled] ++ given (e.binding.map fun b => [Field.b1 b]))
    ∧ (∀ (l : Lane) (now : Nat), laneFields l now =
        setup l.setup ++ [Field.b1 l.mode.code, flag l.outer.broken, flag l.inner.broken, Field.b1 l.recognizer.code]
          ++ given (l.openAtStart.map fun o => [flag o]) ++ [flag l.blocked, flag l.flapOpen]
          ++ listed (l.permits.map permit) ++ counters l.counts
          ++ [Field.b4 (match l.occupiedSince with
              | none => l.counts.occupancy
              | some since => min (l.counts.occupancy + (now - since)) 4294967295),
            flag l.saturationReported, Field.b8 now])
    ∧ (∀ (c : Cabin) (d : DoorSettings) (now : Nat), cabinFields c d now =
        [flag c.configured, flag c.releasedUntil.isSome, flag c.sensedOpen, flag c.ajarEnd.isSome, flag c.ajarGiven,
          flag c.privacy, Field.b1 c.failures, flag c.lockoutUntil.isSome, Field.b1 c.sweep.code, Field.b1 c.occupants]
          ++ given (c.releasedUntil.map fun e => [Field.b8 e]) ++ given (c.ajarEnd.map fun e => [Field.b8 e])
          ++ given (c.lockoutUntil.map fun e => [Field.b8 e]) ++ settings d ++ [Field.b8 now])
    ∧ (∀ o : Outlet, outletFields o =
        [flag o.enabled, Field.b1 o.serviceRate, Field.b2 o.taxRate0, Field.b2 o.taxRate1, Field.b2 o.taxRate2,
          Field.b2 o.taxRate3, flag o.alcoholAllowed, flag o.tipsAllowed, Field.b4 o.holdLife, Field.b2 o.voidWindow])
    ∧ (∀ t : Store, storeFields t =
        [Field.b1 t.state.code, flag t.unusable, Field.b1 t.dirty.length] ++ given (t.inFlight.map fun f => [Field.b1 f.block])
          ++ listed (t.failedList.map fun b => [Field.b1 b]) ++ [flag t.orderly, Field.b2 t.boot.toNat])
    ∧ ∀ s : State, s.Tidy →
      s.tallyFields = (classes.flatMap fun c => locations.map fun l => Field.b2 (s.tallyCount c l))
      ∧ (∃ opened : List Nat, opened.Pairwise (· < ·) ∧ (∀ k, k ∈ opened ↔ (s.slot k).hold ≠ none)
        ∧ s.journalFields =
          Field.b2 s.journal.length
            :: given (if h : s.journal = [] then none else
                some [Field.b4 (s.journal.head h).charge, Field.b4 (s.journal.getLast h).charge])
            ++ [Field.b4 s.nextCharge, Field.b2 s.allowance, flag s.journalFullReported, Field.b2 opened.length,
              Field.b2 s.store.boot.toNat])
      ∧ (∀ i, ∃ held : List (Nat × Hold), (held.map Prod.fst).Pairwise (· < ·)
          ∧ (∀ k h, (k, h) ∈ held ↔ (s.slot k).hold = some h ∧ h.person = i)
          ∧ Field.list holdFields (s.holdsOf i) = listed (held.map fun e =>
              [Field.b2 e.1, Field.b1 (s.slot e.1).tag.toNat, Field.b1 e.2.outlet, Field.b1 e.2.station, Field.b4 e.2.amount,
                Field.b4 e.2.opened, Field.b4 e.2.expiry]))
      ∧ ∀ start, ∃ missing : List Nat, missing.Pairwise (· < ·)
          ∧ (∀ i, i ∈ missing ↔ start ≤ i ∧ ∃ p, s.person i = some p ∧ p.muster = .unmustered)
          ∧ s.musterFields start = [flag s.muster.active, Field.b2 s.muster.id]
              ++ ((List.range 32).map fun point => Field.b2 (s.muster.points.read 0 point))
              ++ [Field.b2 s.muster.unrecorded, Field.b2 s.muster.unmustered, Field.b2 s.muster.unswept]
              ++ listed ((missing.take 32).map fun i => [Field.b2 i]) ++ [flag (decide (32 < missing.length))]

/-- READ_LINK_COUNTERS returns both error counters and sets them to 0 when it carries clear; READ_MOVEMENTS takes the oldest
records, each in the layout of section 11.6, and the discard count; HOST_SLEEP makes the host ASLEEP; RESET stops the taking of
host requests: from then on no host request may be taken, and the command of one changes nothing (R63, R153, R176, R177). That
the first two answer OK is the model's choice, log entry 28, and so is that a request which may not be taken is no event, log
entry 1. -/
def Obligations.LinkMessagesAndMovements : Prop :=
  (∀ (s : State) (r : Request) (clear : Bool), HostOffer s 0x72 decodeClearFlag r clear →
    ∃ t, exec (.readLinkCounters r) s = .next t
      ∧ t.host = { s.host with
          port := { s.host.port with requests := s.host.port.requests.tail
                                     errors := if clear then 0 else s.host.port.errors }
          replies := s.host.replies ++
            [⟨0x72, r.tag, .ok, [.b2 s.host.port.errors, .b2 s.station.port.errors]⟩] }
      ∧ t.station = { s.station with
          port := { s.station.port with errors := if clear then 0 else s.station.port.errors } }
      ∧ Keeps [.host, .station] s t)
  ∧ (∀ (s : State) (r : Request) (count : Nat), HostOffer s 0x3D decodeReadMovements r count →
    ∃ t, exec (.readMovements r) s = .next t
      ∧ HostAnswered s t ⟨0x3D, r.tag, .ok,
          .b1 s.discardCount :: .b1 (s.movementLog.take count).length
            :: (s.movementLog.take count).flatMap movementFields⟩
      ∧ t.movementLog = s.movementLog.drop count ∧ t.discardCount = 0 ∧ Keeps [.host, .movements] s t)
  ∧ (∀ (s : State) (r : Request), HostOffer s 0x65 decodeEmpty r () →
    ∃ t, exec (.hostSleep r) s = .next t
      ∧ t.host = { s.host with
          port := { s.host.port with requests := s.host.port.requests.tail }
          replies := s.host.replies ++ [⟨0x65, r.tag, .ok, []⟩], asleep := true }
      ∧ Keeps [.host] s t)
  ∧ (∀ (s : State) (r : Request), HostOffer s 0x71 decodeEmpty r () →
    ∃ t, exec (.reset r) s = .next t
      ∧ t.host = { s.host with
          port := { s.host.port with requests := s.host.port.requests.tail }
          replies := s.host.replies ++ [⟨0x71, r.tag, .ok, []⟩], takingStopped := true }
      ∧ Keeps [.host] s t)
  ∧ (∀ (s : State) (f : Frame), s.host.takingStopped = true →
    s.takes .host f = false ∧ exec (commandFor .host f) s = .next s)
  ∧ ∀ m : Movement, movementFields m =
    [.b4 m.sequence.toNat, .b2 m.person, .b1 m.lane, .b1 (if m.direction = .inward then 0 else 1), .b1 m.location.code,
      .b1 (if m.redundant then 1 else 0)] ++ match m.shipTime with
      | none => [.b1 0]
      | some time => [.b1 1, .b4 time]

/-- STARTED_FRAME_START, HOST_REPLY_START and STATION_REPLY_START start the frame that is first in its order while their
transmitter is free, and FRAME_SENT frees it. While the transmitter is busy, with nothing to send, before the end of start-up on
the host link, and for a reply while STARTED waits, a start is held back and changes nothing, and so does FRAME_SENT with no
frame being sent: such a command is no event, the model's choice, log entry 15. STARTED carries the report in the layout of
section 11.7, at most 8 of the lost blocks listed; a host reply carries its result byte and its fields, least significant byte
first, and a station reply its result byte and the seven groups of section 11.4, each behind its presence byte. When the frame
sent on the host link is the OK reply to RESET, the part resets with cause RESET_MESSAGE; that the unit-address pins are then
those of the state is the model's choice, log entry 8, as is that the start of a frame is a command of its own, log entry 17
(R166, R174, R175, R177). -/
def Obligations.TransmittersSendTheFirst : Prop :=
  (∀ (s : State) (report : StartedReport), s.isStarting = false → s.host.sending = none →
    s.host.started = some report →
    ∃ t, exec .startedFrameStart s = .next t
      ∧ t.host = { s.host with started := none, sending := some report.frame } ∧ Keeps [.host] s t)
  ∧ (∀ (s : State) (r : HostReply) (rest : List HostReply), s.isStarting = false → s.host.sending = none →
    s.host.started = none → s.host.replies = r :: rest →
    ∃ t, exec .hostReplyStart s = .next t
      ∧ t.host = { s.host with replies := rest, sending := some r.frame } ∧ Keeps [.host] s t)
  ∧ (∀ (s : State) (r : StationReply) (rest : List StationReply), s.station.sending = none →
    s.station.replies = r :: rest →
    ∃ t, exec .stationReplyStart s = .next t
      ∧ t.station = { s.station with replies := rest, sending := some r.frame } ∧ Keeps [.station] s t)
  ∧ (∀ (s : State) (f : OutFrame), s.host.sending = some f → f.resets = false →
    ∃ t, exec (.frameSent .host) s = .next t ∧ t.host = { s.host with sending := none } ∧ Keeps [.host] s t)
  ∧ (∀ (s : State) (f : OutFrame), s.host.sending = some f → f.resets = true →
    exec (.frameSent .host) s = exec (.partReset .resetMessage s.unitAddressPins) s)
  ∧ (∀ (s : State) (f : OutFrame), s.station.sending = some f →
    ∃ t, exec (.frameSent .station) s = .next t ∧ t.station = { s.station with sending := none }
      ∧ Keeps [.station] s t)
  ∧ (∀ r : HostReply, r.frame.resets = true ↔ r.kind = 0x71 ∧ r.result = .ok)
  ∧ (∀ s : State,
    (s.isStarting = true ∨ s.host.sending ≠ none ∨ s.host.started = none → exec .startedFrameStart s = .next s)
    ∧ (s.isStarting = true ∨ s.host.sending ≠ none ∨ s.host.started ≠ none ∨ s.host.replies = [] →
        exec .hostReplyStart s = .next s)
    ∧ (s.station.sending ≠ none ∨ s.station.replies = [] → exec .stationReplyStart s = .next s)
    ∧ (s.host.sending = none → exec (.frameSent .host) s = .next s)
    ∧ (s.station.sending = none → exec (.frameSent .station) s = .next s))
  ∧ (∀ r : HostReply,
    let bytes := fun field : Field => match field with
      | .b1 n => natBytes 1 n
      | .b2 n => natBytes 2 n
      | .b4 n => natBytes 4 n
      | .b8 n => natBytes 8 n
      | .s4 z => natBytes 4 (z % 4294967296).toNat
      | .text bs => bs
    r.frame.bytes = frameBytes r.kind r.tag (natBytes 1 r.result.code ++ r.fields.flatMap bytes))
  ∧ (∀ r : StationReply,
    let flag := fun b : Bool => natBytes 1 (if b then 1 else 0)
    let given := fun group : Option (List Byte) => match group with
      | none => natBytes 1 0
      | some bytes => natBytes 1 1 ++ bytes
    let g := r.groups
    let body := natBytes 1 r.result.code
      ++ given (g.timing.map fun t => natBytes 2 t.1 ++ flag t.2)
      ++ given (g.direction.map fun d => natBytes 1 (if d = .inward then 0 else 1))
      ++ given (g.amounts.map fun a => natBytes 4 a.1.subtotal ++ natBytes 4 a.1.service ++ natBytes 4 a.1.tax
          ++ natBytes 4 a.1.tip ++ natBytes 4 a.1.total ++ flag a.2)
      ++ given (g.available.map fun n => natBytes 4 n)
      ++ given (g.charge.map fun n => natBytes 4 n)
      ++ given (g.handle.map fun h => natBytes 2 h.1 ++ natBytes 1 h.2.toNat)
      ++ given (g.muster.map fun m => natBytes 2 m.1 ++ natBytes 1 m.2.1 ++ natBytes 1 m.2.2)
    r.frame = { bytes := frameBytes r.kind r.tag body, resets := false })
  ∧ (∀ width n i, (natBytes width n)[i]? = if i < width then some (BitVec.ofNat 8 (n / 256 ^ i)) else none)
  ∧ ∀ r : StartedReport,
    let cause := match r.cause with
      | .powerOn => 0
      | .resetPin => 1
      | .brownOut => 2
      | .resetMessage => 3
    let judgement := match r.judgement with
      | .blank => 0
      | .controlLost => 1
      | .good => 2
    let flag := fun b : Bool => natBytes 1 (if b then 1 else 0)
    let muster := match r.muster with
      | none => natBytes 1 0
      | some (id, unmustered, unrecorded) =>
        natBytes 1 1 ++ natBytes 2 id ++ natBytes 2 unmustered ++ natBytes 2 unrecorded
    let body := natBytes 1 cause ++ natBytes 1 r.unitAddress.toNat ++ natBytes 2 r.boot.toNat ++ natBytes 1 judgement
      ++ flag r.orderly ++ natBytes 2 r.restored ++ muster ++ natBytes 1 r.lost.length
      ++ natBytes 1 (min r.lost.length 8) ++ (r.lost.take 8).flatMap (natBytes 1) ++ flag r.unusable
    r.frame = { bytes := frameBytes 0x7D 0 body, resets := false }

/-! ### Persons -/

/-- LOAD_PERSON is refused for the first reason that applies, and then changes nothing. Otherwise it creates, completes or
replaces the record: LOADED, with the class, generation, cabin, door rights and SWEEP flag carried, the location carried or
kept (EXPECTED for a new record), the gate permit kept and the account created, replaced in its limits and flags, or removed.
ALL_MUSTERED and ALL_GUESTS_ABOARD are raised where the change makes them due (R8, R10, R11, R12, R13, R14, R15, R66,
R132). -/
def Obligations.LoadPersonReplacesTheRecord : Prop :=
  (∀ (s : State) (r : Request) (q : LoadPerson), HostOffer s 0x20 decodeLoadPerson r q →
    ∀ reason, FirstFailing
      [(s.store.state ≠ .opened, .powerFail),
       (q.account = none ∧ ∃ a, s.accountOf q.index = some a ∧ 0 < a.held, .hasHolds),
       (q.account = none ∧ ∃ a, s.accountOf q.index = some a ∧ 0 < a.unposted, .hasUnposted),
       (∃ c, q.cabin = some c ∧ 8 ≤ (s.cabin c).occupants ∧ cabinOf (s.person q.index) ≠ some c, .cabinFull)]
      (some reason) →
    ∃ t, exec (.loadPerson r) s = .next t ∧ HostAnswered s t ⟨0x20, r.tag, reason, []⟩ ∧ Keeps [.host] s t)
  ∧
  ∀ (s : State) (r : Request) (q : LoadPerson), s.Tidy → HostOffer s 0x20 decodeLoadPerson r q →
    s.store.state = .opened →
    (q.account = none → ∀ a, s.accountOf q.index = some a → a.held = 0 ∧ a.unposted = 0) →
    (∀ c, q.cabin = some c → (s.cabin c).occupants < 8 ∨ cabinOf (s.person q.index) = some c) →
    ∃ t, exec (.loadPerson r) s = .next t ∧ HostAnswered s t ⟨0x20, r.tag, .ok, []⟩
      ∧ (s.person q.index = none →
          t.person q.index = some
            { loaded := true, cls := q.cls, generation := q.generation, location := q.location.getD .expected,
              muster := if s.muster.active ∧ q.location = some .aboard then .unmustered else .none
              gatePermit := none, cabin := q.cabin, rights := q.rights, sweep := q.sweep
              account := q.account.map fun a =>
                { creditLimit := a.creditLimit, dailyLimit := a.dailyLimit, posted := q.posted.getD 0, spentToday := 0,
                  spentDay := 0, held := 0, unposted := 0, noAlcohol := a.noAlcohol, suspended := a.suspended } })
      ∧ (∀ p, s.person q.index = some p →
          ∃ account, t.person q.index = some
            { loaded := true, cls := q.cls, generation := q.generation, location := q.location.getD p.location,
              muster := if s.muster.active ∧ q.location.getD p.location ≠ p.location then
                  (if q.location.getD p.location = .aboard then .unmustered else .none) else p.muster
              gatePermit := p.gatePermit, cabin := q.cabin, rights := q.rights, sweep := q.sweep, account }
            ∧ (q.account = none → account = none)
            ∧ (∀ a, q.account = some a → p.account = none →
                account = some
                  { creditLimit := a.creditLimit, dailyLimit := a.dailyLimit, posted := q.posted.getD 0, spentToday := 0,
                    spentDay := 0, held := 0, unposted := 0, noAlcohol := a.noAlcohol, suspended := a.suspended })
            ∧ ∀ a b, q.account = some a → p.account = some b →
                account = some { b with
                  creditLimit := a.creditLimit, dailyLimit := a.dailyLimit, posted := q.posted.getD b.posted,
                  noAlcohol := a.noAlcohol, suspended := a.suspended })
      ∧ OnePersonChanged s t q.index ∧ Keeps (.host :: personUnits) s t

/-- SET_LOCATION moves a record, and adjusts its muster state while the muster is ACTIVE, ALL_MUSTERED and ALL_GUESTS_ABOARD
being raised where the change makes them due; REISSUE_CARD advances its generation modulo 16. Both are refused with POWER_FAIL
while the store is not OPEN, else with NO_RECORD for an EMPTY record, changing nothing (R10, R15, R16, R66, R132, R135). -/
def Obligations.LocationAndGenerationAreSet : Prop :=
  (∀ (s : State) (r : Request) (i : Nat) (loc : Location), HostOffer s 0x22 decodeSetLocation r (i, loc) →
    (s.store.state ≠ .opened → ∃ t, exec (.setLocation r) s = .next t
      ∧ HostAnswered s t ⟨0x22, r.tag, .powerFail, []⟩ ∧ Keeps [.host] s t)
    ∧ (s.store.state = .opened → s.person i = none → ∃ t, exec (.setLocation r) s = .next t
      ∧ HostAnswered s t ⟨0x22, r.tag, .noRecord, []⟩ ∧ Keeps [.host] s t)
    ∧ ∀ p, s.Tidy → s.store.state = .opened → s.person i = some p → ∃ t, exec (.setLocation r) s = .next t
      ∧ HostAnswered s t ⟨0x22, r.tag, .ok, [.b1 loc.code]⟩
      ∧ t.person i = some { p with
          location := loc
          muster := if s.muster.active then (if loc = .aboard then .unmustered else .none) else p.muster }
      ∧ OnePersonChanged s t i ∧ Keeps (.host :: personUnits) s t)
  ∧ ∀ (s : State) (r : Request) (i : Nat), HostOffer s 0x23 decodeIndex r i →
    (s.store.state ≠ .opened → ∃ t, exec (.reissueCard r) s = .next t
      ∧ HostAnswered s t ⟨0x23, r.tag, .powerFail, []⟩ ∧ Keeps [.host] s t)
    ∧ (s.store.state = .opened → s.person i = none → ∃ t, exec (.reissueCard r) s = .next t
      ∧ HostAnswered s t ⟨0x23, r.tag, .noRecord, []⟩ ∧ Keeps [.host] s t)
    ∧ ∀ p, s.Tidy → s.store.state = .opened → s.person i = some p → ∃ t, exec (.reissueCard r) s = .next t
      ∧ HostAnswered s t ⟨0x23, r.tag, .ok, [.b1 (p.generation + 1).toNat]⟩
      ∧ t.person i = some { p with generation := p.generation + 1 }
      ∧ OnePersonChanged s t i ∧ Keeps [.host, .persons, .store] s t

/-- ADJUST_BALANCE moves the posted balance of an account, and UPDATE_ACCOUNT replaces its limits and flags; without an
account, or out of range, they are refused for the first reason that applies and change nothing (R10, R17, R18). -/
def Obligations.AccountMessages : Prop :=
  (∀ (s : State) (r : Request) (i : Nat) (delta : Int), HostOffer s 0x24 decodeAdjustBalance r (i, delta) →
    let refused := fun reason => ∃ t, exec (.adjustBalance r) s = .next t
      ∧ HostAnswered s t ⟨0x24, r.tag, reason, []⟩ ∧ Keeps [.host] s t
    (s.person i = none → refused .noRecord)
    ∧ (∀ p, s.person i = some p → p.loaded = false → refused .recordIncomplete)
    ∧ (∀ p, s.person i = some p → p.loaded = true → p.account = none → refused .noAccount)
    ∧ ∀ p a, s.person i = some p → p.loaded = true → p.account = some a →
      (¬ (-99999999 ≤ a.posted + delta ∧ a.posted + delta ≤ 99999999) → refused .outOfRange)
      ∧ (s.Tidy → -99999999 ≤ a.posted + delta ∧ a.posted + delta ≤ 99999999 →
        ∃ t, exec (.adjustBalance r) s = .next t ∧ HostAnswered s t ⟨0x24, r.tag, .ok, [.s4 (a.posted + delta)]⟩
          ∧ t.person i = some { p with account := some { a with posted := a.posted + delta } }
          ∧ (∀ j, j ≠ i → t.person j = s.person j) ∧ Keeps [.host, .persons] s t))
  ∧ ∀ (s : State) (r : Request) (i : Nat) (terms : AccountTerms), HostOffer s 0x25 decodeUpdateAccount r (i, terms) →
    let refused := fun reason => ∃ t, exec (.updateAccount r) s = .next t
      ∧ HostAnswered s t ⟨0x25, r.tag, reason, []⟩ ∧ Keeps [.host] s t
    (s.person i = none → refused .noRecord)
    ∧ (∀ p, s.person i = some p → p.loaded = false → refused .recordIncomplete)
    ∧ (∀ p, s.person i = some p → p.loaded = true → p.account = none → refused .noAccount)
    ∧ ∀ p a, s.Tidy → s.person i = some p → p.loaded = true → p.account = some a →
      ∃ t, exec (.updateAccount r) s = .next t ∧ HostAnswered s t ⟨0x25, r.tag, .ok, []⟩
        ∧ t.person i = some { p with account := some { a with
            creditLimit := terms.creditLimit, dailyLimit := terms.dailyLimit, noAlcohol := terms.noAlcohol,
            suspended := terms.suspended } }
        ∧ (∀ j, j ≠ i → t.person j = s.person j) ∧ Keeps [.host, .persons] s t

/-- CLEAR_PERSON removes a record that is not ABOARD, holds no permit and has no held or unposted amount, ALL_GUESTS_ABOARD being
raised where that makes it due; otherwise it is refused for the first reason that applies, and changes nothing (R10, R19,
R66). -/
def Obligations.ClearPersonEmptiesTheRecord : Prop :=
  ∀ (s : State) (r : Request) (i : Nat), HostOffer s 0x26 decodeIndex r i →
    let refused := fun reason => ∃ t, exec (.clearPerson r) s = .next t
      ∧ HostAnswered s t ⟨0x26, r.tag, reason, []⟩ ∧ Keeps [.host] s t
    (s.store.state ≠ .opened → refused .powerFail)
    ∧ (s.store.state = .opened → s.person i = none → refused .noRecord)
    ∧ ∀ p, s.store.state = .opened → s.person i = some p →
      (p.location = .aboard → refused .aboard)
      ∧ (p.location ≠ .aboard → p.gatePermit ≠ none → refused .hasPermit)
      ∧ (∀ a, p.location ≠ .aboard → p.gatePermit = none → p.account = some a → 0 < a.held → refused .hasHolds)
      ∧ (∀ a, p.location ≠ .aboard → p.gatePermit = none → p.account = some a → a.held = 0 → 0 < a.unposted →
          refused .hasUnposted)
      ∧ (s.Tidy → p.location ≠ .aboard → p.gatePermit = none →
          (∀ a, p.account = some a → a.held = 0 ∧ a.unposted = 0) →
          ∃ t, exec (.clearPerson r) s = .next t ∧ HostAnswered s t ⟨0x26, r.tag, .ok, []⟩
            ∧ t.person i = none ∧ OnePersonChanged s t i ∧ Keeps (.host :: personUnits) s t)

/-- What SET_DECODER, CONFIGURE_STATION, CONFIGURE_OUTLET and SET_DOOR_SETTINGS carry is held from then on, clamped where the
manual clamps it, and every other record stands; a lane bound at another address refuses the binding (R1, R24, R68, R87). -/
def Obligations.SettingsHoldWhatWasSet : Prop :=
  (∀ (s : State) (r : Request) (k : Nat) (d : Decoder), s.Tidy → HostOffer s 0x28 decodeSetDecoder r (k, d) →
    ∃ t, exec (.setDecoder r) s = .next t ∧ HostAnswered s t ⟨0x28, r.tag, .ok, []⟩
      ∧ (∀ j, t.decoder j = if j = k then d else s.decoder j) ∧ Keeps [.host, .decoders] s t)
  ∧ (∀ (s : State) (r : Request) (a : Nat) (e : Station), s.Tidy → HostOffer s 0x2A decodeConfigureStation r (a, e) →
    ((e.kind = .lane ∧ ∃ b, b ≠ a ∧ (s.stationEntry b).kind = .lane ∧ (s.stationEntry b).binding = e.binding) →
      ∃ t, exec (.configureStation r) s = .next t ∧ HostAnswered s t ⟨0x2A, r.tag, .laneBound, []⟩ ∧ Keeps [.host] s t)
    ∧ (¬ (e.kind = .lane ∧ ∃ b, b ≠ a ∧ (s.stationEntry b).kind = .lane ∧ (s.stationEntry b).binding = e.binding) →
      ∃ t, exec (.configureStation r) s = .next t ∧ HostAnswered s t ⟨0x2A, r.tag, .ok, []⟩
        ∧ (∀ j, t.stationEntry j = if j = a then e else s.stationEntry j) ∧ Keeps [.host, .stations] s t))
  ∧ (∀ (s : State) (r : Request) (k : Nat) (o : Outlet), s.Tidy → HostOffer s 0x48 decodeConfigureOutlet r (k, o) →
    let taken : Outlet := { o with
      serviceRate := min o.serviceRate 250, taxRate0 := min o.taxRate0 3000, taxRate1 := min o.taxRate1 3000
      taxRate2 := min o.taxRate2 3000, taxRate3 := min o.taxRate3 3000
      holdLife := max 600 (min o.holdLife 86400), voidWindow := min o.voidWindow 3600 }
    ∃ t, exec (.configureOutlet r) s = .next t ∧ HostAnswered s t ⟨0x48, r.tag, .ok, outletFields taken⟩
      ∧ (∀ j, t.outlet j = if j = k then taken else s.outlet j) ∧ Keeps [.host, .outlets] s t)
  ∧ ∀ (s : State) (r : Request) (d : DoorSettings), HostOffer s 0x43 decodeDoorSettings r d →
    let taken : DoorSettings :=
      { strikeTime := max 1 (min d.strikeTime 30), ajarTime := max 10 (min d.ajarTime 600),
        lockoutThreshold := max 3 (min d.lockoutThreshold 15), lockoutTime := max 10 (min d.lockoutTime 3600) }
    ∃ t, exec (.setDoorSettings r) s = .next t ∧ HostAnswered s t ⟨0x43, r.tag, .ok, settingsFields taken⟩
      ∧ t.doorSettings = taken ∧ Keeps [.host, .doorSettings] s t

/-! ### Cards and stations -/

/-- The lowest-numbered enabled decoder whose mask bits agree decides, and its class and offset serve the rest of the decode:
what fails later fails with its own reason, and no other decoder is tried. Where none agrees the decode fails with
UNKNOWN_CARD (R2). -/
def Obligations.LowestMatchingDecoderDecides : Prop :=
  ∀ (s : State) (number : BitVec 32),
    let agrees := fun k => (s.decoder k).enabled = true ∧
      ∀ b < 32, (s.decoder k).mask.getLsbD b = true → number.getLsbD b = (s.decoder k).compare.getLsbD b
    (∀ k < 8, agrees k → (∀ j < k, ¬ agrees j) →
      s.decidingDecoder number = some (s.decoder k)
      ∧ ∀ generation, match s.decodeCard ⟨number, generation⟩ with
        | .passed i p => i = (number + (s.decoder k).offset).toNat ∧ p.cls = (s.decoder k).cls
        | .failed reason i => i = (number + (s.decoder k).offset).toNat ∧ reason ≠ .unknownCard)
    ∧ ((∀ k < 8, ¬ agrees k) → s.decidingDecoder number = none
        ∧ ∀ generation, s.decodeCard ⟨number, generation⟩ = .failed .unknownCard 0)

/-- The index is the card number plus the offset modulo 2^32; the tests of decoder, range, record, class and generation
follow in order, a generation ahead by 1 to 7 being FUTURE_CARD and by 8 to 15 STALE_CARD; a record passes whether RESTORED
or LOADED (R3, R4). -/
def Obligations.DecodeTestsInOrder : Prop :=
  ∀ (s : State) (c : Card),
    (s.decidingDecoder c.number = none → s.decodeCard c = .failed .unknownCard 0)
    ∧ ∀ d : Decoder, s.decidingDecoder c.number = some d →
      let index := (c.number.toNat + d.offset.toNat) % 4294967296
      (8192 ≤ index → s.decodeCard c = .failed .outOfTable index)
      ∧ (index < 8192 → s.person index = none → s.decodeCard c = .failed .noRecord index)
      ∧ ∀ p, index < 8192 → s.person index = some p →
        (p.cls ≠ d.cls → s.decodeCard c = .failed .classMismatch index)
        ∧ (p.cls = d.cls → c.generation = p.generation → s.decodeCard c = .passed index p)
        ∧ (p.cls = d.cls → 1 ≤ (c.generation.toNat + 16 - p.generation.toNat) % 16 →
            (c.generation.toNat + 16 - p.generation.toNat) % 16 ≤ 7 → s.decodeCard c = .failed .futureCard index)
        ∧ (p.cls = d.cls → 8 ≤ (c.generation.toNat + 16 - p.generation.toNat) % 16 →
            s.decodeCard c = .failed .staleCard index)

/-- A station request from an address whose entry is not enabled or not of its kind, and a door request for a cabin that is
not configured, is refused with NOT_CONFIGURED and raises UNCONFIGURED_SOURCE, and changes nothing else (R25, R71, R81). -/
def Obligations.UnconfiguredSourcesAreRefused : Prop :=
  RefusesUnserved .laneTap 0x03 decodeStationTap StationTap.station (fun s q => s.doesNotServe .lane q.station)
  ∧ RefusesUnserved .barSale 0x04 decodeSale Sale.station (fun s q => s.doesNotServe .bar q.station)
  ∧ RefusesUnserved .barOpenTab 0x05 decodeOpenTab OpenTab.station (fun s q => s.doesNotServe .bar q.station)
  ∧ RefusesUnserved .barCloseTab 0x06 decodeCloseTab CloseTab.station (fun s q => s.doesNotServe .bar q.station)
  ∧ RefusesUnserved .barVoid 0x07 decodeVoid VoidCharge.station (fun s q => s.doesNotServe .bar q.station)
  ∧ RefusesUnserved .musterTap 0x08 decodeStationTap StationTap.station (fun s q => s.doesNotServe .muster q.station)
  ∧ RefusesUnserved .doorTap 0x01 decodeDoorTap DoorTap.cabin (fun s q => (s.cabin q.cabin).configured = false)
  ∧ RefusesUnserved .doorReport 0x02 decodeDoorReport DoorReport.cabin
      (fun s q => (s.cabin q.cabin).configured = false)

/-! ### Time -/

/-- SET_CLOCK sets ship time and starts the clock, SET_DAY_OFFSET sets the day offset, and SHIP_TIME_ADVANCE adds one second;
each computes the day, which never decreases, and raises DAY_ADVANCED when it advances; a setting or an advance tells the
held ship times that are reached. The flags of those arrivals, and that an advance brings monotonic time to its own moment,
are the model's choices, log entries 14 and 7 (R28, R29, R30, R31, R34). -/
def Obligations.ClockMessagesAndAdvance : Prop :=
  let day := fun (shipTime offset : Nat) => (shipTime + 86400 - offset) / 86400
  let dated := fun (s t : State) (shipTime offset : Nat) =>
    t.clock.currentDay = max s.clock.currentDay (day shipTime offset)
    ∧ (s.clock.currentDay < day shipTime offset → Raised s t MemberId.dayAdvanced (day shipTime offset))
    ∧ (day shipTime offset ≤ s.clock.currentDay → Silent s t)
  let told := fun (s t : State) =>
    (t.deadlineArrived = true ↔ s.deadlineArrived = true ∨ ∃ d, s.deadline = .set d ∧ d ≤ t.clock.shipTime)
    ∧ t.deadline = s.deadline ∧ t.guestsReported = s.guestsReported
    ∧ (s.muster.active = true → t.slots = s.slots)
    ∧ (s.muster.active = false → ∀ k, t.slot k = { s.slot k with
        hold := (s.slot k).hold.map fun h => { h with arrived := h.arrived || decide (h.expiry ≤ t.clock.shipTime) } })
  (∀ (s : State) (r : Request) (time : Nat), s.Tidy → HostOffer s 0x30 decodeTime r time →
    ∃ t, exec (.setClock r) s = .next t
      ∧ HostAnswered s t ⟨0x30, r.tag, .ok, [.b4 time, .b2 t.clock.currentDay]⟩
      ∧ t.clock = { s.clock with running := true, shipTime := time, nextAdvance := s.clock.mono + 1000
                                 currentDay := t.clock.currentDay }
      ∧ dated s t time s.clock.dayOffset ∧ told s t
      ∧ Keeps [.host, .clock, .holds, .deadline, .notices, .wake] s t)
  ∧ (∀ (s : State) (r : Request) (offset : Nat), HostOffer s 0x31 decodeTime r offset →
    ∃ t, exec (.setDayOffset r) s = .next t
      ∧ HostAnswered s t ⟨0x31, r.tag, .ok, [.b4 (min offset 86399), .b2 t.clock.currentDay]⟩
      ∧ t.clock = { s.clock with dayOffset := min offset 86399, currentDay := t.clock.currentDay }
      ∧ (s.clock.running = true → dated s t s.clock.shipTime (min offset 86399))
      ∧ (s.clock.running = false → t.clock.currentDay = s.clock.currentDay ∧ Silent s t)
      ∧ Keeps [.host, .clock, .notices, .wake] s t)
  ∧ ∀ s : State, s.Tidy → s.clock.running = true → s.clock.shipTime < 4294967295 →
    ∃ t, exec .shipTimeAdvance s = .next t
      ∧ t.clock = { s.clock with
          mono := max s.clock.mono (min s.clock.nextAdvance 281474976710655), shipTime := s.clock.shipTime + 1
          nextAdvance := s.clock.nextAdvance + 1000, currentDay := t.clock.currentDay }
      ∧ dated s t (s.clock.shipTime + 1) s.clock.dayOffset ∧ told s t
      ∧ Keeps [.clock, .holds, .deadline, .notices, .wake] s t

/-- No command that is not a reset takes monotonic time or the current day back (R27, R31). -/
def Obligations.TimeNeverRunsBack : Prop :=
  ∀ (c : Instr) (s t : State), exec c s = .next t → restarts c s = false →
    s.clock.mono ≤ t.clock.mono ∧ s.clock.currentDay ≤ t.clock.currentDay

/-! ### Lanes -/

/-- CONFIGURE_LANE replaces the four setup values, clamped, and on a change of polarity restarts or abandons the filter runs of
both beams; SET_LANE_MODE sets the mode and cancels the permits of a direction that only the old mode admitted; nothing else of
the lane changes but its flap. A run that has already lasted its filter time ends in its beam event before CONFIGURE_LANE sets
anything, the earlier first, and a run that a change of polarity begins with a filter time of 0 is not timed: its beam event is
taken in the same moment, after the setting. That the ended runs come first, and that each such event is one of its own, are the
model's choices, log entry 13; which of two beam events that fall due together is first is a free value, log entry 6 (R38, R39,
R40, R41, R42, R52, R58). -/
def Obligations.LaneSetupMessages : Prop :=
  (∀ (s : State) (r : Request) (l : Nat) (u : LaneSetup), s.Tidy → HostOffer s 0x38 decodeConfigureLane r (l, u) →
    let taken : LaneSetup := { u with
      filterTime := min u.filterTime 250, permitWindow := max 1 (min u.permitWindow 60)
      blockTime := max 5 (min u.blockTime 600) }
    let overdue := fun (b : Beam) (e : Nat) => ((s.lane l).beam b).filterEnd = some e ∧ e ≤ s.clock.mono
    let reversed := u.polarity ≠ (s.lane l).setup.polarity
    let raw := fun high : Bool => (if u.polarity = .brokenLow then !high else high)
    let rerun := fun b : BeamState => if u.polarity = (s.lane l).setup.polarity then b else
      { b with filterEnd := if raw b.high = b.broken then none else some (s.clock.mono + taken.filterTime) }
    let atOnce := fun b : Beam => reversed ∧ taken.filterTime = 0
      ∧ raw ((s.lane l).beam b).high ≠ ((s.lane l).beam b).broken
    (∀ b e, overdue b e → (∀ c f, c ≠ b → overdue c f → e < f) →
      ∃ x, exec (.beamEvent l b) s = .next x ∧ exec (.configureLane r) s = exec (.configureLane r) x)
    ∧ (∀ e, overdue .outer e → overdue .inner e →
      ∃ b x, exec (.beamEvent l b) { s with freeIndex := s.freeIndex + 1 } = .next x
        ∧ exec (.configureLane r) s = exec (.configureLane r) x)
    ∧ ((∀ b e, ¬ overdue b e) →
      ∃ w, HostAnswered s w ⟨0x38, r.tag, .ok,
          [.b1 (if u.polarity = .brokenLow then 0 else 1), .b1 taken.filterTime, .b1 taken.permitWindow, .b2 taken.blockTime]⟩
        ∧ (∀ j, w.lane j = if j = l then
            { s.lane l with setup := taken, outer := rerun (s.lane l).outer, inner := rerun (s.lane l).inner }
            else s.lane j)
        ∧ Keeps [.host, .lanes] s w
        ∧ ((∀ b, ¬ atOnce b) → exec (.configureLane r) s = .next w)
        ∧ (∀ b c, atOnce b → c ≠ b → ¬ atOnce c → exec (.configureLane r) s = exec (.beamEvent l b) w)
        ∧ (atOnce .outer → atOnce .inner →
          ∃ b c x, c ≠ b ∧ exec (.beamEvent l b) { w with freeIndex := w.freeIndex + 1 } = .next x
            ∧ exec (.configureLane r) s = exec (.beamEvent l c) x)))
  ∧ ∀ (s : State) (r : Request) (l : Nat) (m : LaneMode), s.Tidy → HostOffer s 0x39 decodeSetLaneMode r (l, m) →
    let stays := fun p : Permit => !(admits (s.lane l).mode p.direction) || admits m p.direction
    let left := (s.lane l).permits.filter stays
    ∃ t, exec (.setLaneMode r) s = .next t
      ∧ HostAnswered s t ⟨0x39, r.tag, .ok, [.b1 m.code]⟩
      ∧ (∀ j, t.lane j = if j = l then
          { s.lane l with
            mode := m, permits := left
            flapOpen := (s.lane l).flapOpen
              && !(left.isEmpty && (s.lane l).recognizer == .clear && !(s.lane l).blocked) }
          else s.lane j)
      ∧ (∀ i, t.person i = if ∃ p ∈ (s.lane l).permits, stays p = false ∧ p.person = i then
          (s.person i).map fun v => { v with gatePermit := none } else s.person i)
      ∧ Keeps [.host, .lanes, .persons] s t

/-- RESET_LANE_COUNTERS sets the seven counters and the occupancy accumulator to 0 and clears the saturation-reported flag;
an occupied period in progress goes on, and counts from here; nothing else changes. A lane above 3 is answered with MALFORMED
(R44, R61). -/
def Obligations.LaneCountersReset : Prop :=
  (∀ (s : State) (r : Request) (l : Nat), s.Tidy → HostOffer s 0x3B decodeLane r l →
    ∃ t, exec (.resetLaneCounters r) s = .next t ∧ HostAnswered s t ⟨0x3B, r.tag, .ok, []⟩
      ∧ (∀ j, t.lane j = if j = l then
          { s.lane l with
            counts := { inbound := 0, outbound := 0, balks := 0, late := 0, contrary := 0, forced := 0, noShows := 0
                        occupancy := 0 }
            saturationReported := false
            occupiedSince := if (s.lane l).occupiedSince = none then none else some s.clock.mono }
          else s.lane j)
      ∧ Keeps [.host, .lanes] s t)
  ∧ ∀ (s : State) (r : Request) (lane : Byte), s.hostTakes ⟨0x3B, r.tag, r.body⟩ = true → r.tag ≠ 0 → r.body = [lane] →
    4 ≤ lane.toNat →
    ∃ t, exec (.resetLaneCounters r) s = .next t ∧ HostAnswered s t ⟨0x3B, r.tag, .malformed, []⟩ ∧ Keeps [.host] s t

/-- A LANE_TAP that passes every test is granted in the wanted direction: a permit joins the tail of the lane's queue, the
person's gate permit names the lane, and the flap is OPEN; nothing else changes (R49, R50, R51, R52). -/
def Obligations.LaneTapGrantsAPermit : Prop :=
  ∀ (s : State) (r : Request) (q : StationTap) (lane i : Nat) (p : Person) (d : Direction),
    s.Tidy → StationOffer s 0x03 decodeStationTap r q →
    (s.stationEntry q.station).kind = .lane → (s.stationEntry q.station).enabled = true →
    (s.stationEntry q.station).binding = some lane →
    s.muster.active = false → s.store.state = .opened → (s.lane lane).mode ≠ .closed → (s.lane lane).blocked = false →
    s.decodeCard q.card = .passed i p →
    ((p.location = .expected ∨ p.location = .ashore) ∧ d = .inward ∨ p.location = .aboard ∧ d = .outward) →
    admits (s.lane lane).mode d = true →
    (d = .outward → p.cls = .crew ∨ s.deadline ≠ .passed) →
    p.gatePermit = none → (s.lane lane).permits.length < 2 → s.movementLog.length < 256 →
    ∃ t, exec (.laneTap r) s = .next t
      ∧ StationAnswered s t ⟨0x03, r.tag, .granted, { StationGroups.empty with direction := some d }⟩
      ∧ (∀ j, t.lane j = if j = lane then
          { s.lane lane with
            permits := (s.lane lane).permits ++
              [{ person := i, direction := d, issued := s.clock.mono,
                 expiry := s.clock.mono + 1000 * (s.lane lane).setup.permitWindow }]
            flapOpen := true }
          else s.lane j)
      ∧ (∀ j, t.person j = if j = i then some { p with gatePermit := some lane } else s.person j)
      ∧ Keeps [.station, .lanes, .persons] s t

/-- A LANE_TAP that fails a test is refused for the first that fails, and changes nothing but the FUTURE_CARD notice (R4,
R49). -/
def Obligations.LaneTapRefusalsInOrder : Prop :=
  ∀ (s : State) (r : Request) (q : StationTap) (lane : Nat),
    StationOffer s 0x03 decodeStationTap r q →
    (s.stationEntry q.station).kind = .lane → (s.stationEntry q.station).enabled = true →
    (s.stationEntry q.station).binding = some lane →
    let refused := fun reason => ∃ t, exec (.laneTap r) s = .next t
      ∧ StationAnswered s t ⟨0x03, r.tag, reason, StationGroups.empty⟩ ∧ Keeps [.station] s t
    (s.muster.active = true → refused .muster)
    ∧ (s.muster.active = false → s.store.state ≠ .opened → refused .powerFail)
    ∧ (s.muster.active = false → s.store.state = .opened →
      ((s.lane lane).mode = .closed → refused .laneClosed)
      ∧ ((s.lane lane).mode ≠ .closed → (s.lane lane).blocked = true → refused .laneBlocked)
      ∧ ((s.lane lane).mode ≠ .closed → (s.lane lane).blocked = false →
        (∀ reason i, s.decodeCard q.card = .failed reason i →
          ∃ t, exec (.laneTap r) s = .next t ∧ StationAnswered s t ⟨0x03, r.tag, reason, StationGroups.empty⟩
            ∧ (reason = .futureCard → Raised s t MemberId.futureCard i) ∧ (reason ≠ .futureCard → Silent s t)
            ∧ Keeps [.station, .notices, .wake] s t)
        ∧ ∀ i p, s.decodeCard q.card = .passed i p →
          let d := if p.location = .aboard then Direction.outward else Direction.inward
          (p.location = .departed → refused .departed)
          ∧ (p.location ≠ .departed → admits (s.lane lane).mode d = false → refused .wrongDirection)
          ∧ (p.location ≠ .departed → admits (s.lane lane).mode d = true →
            (d = .outward ∧ p.cls ≠ .crew ∧ s.deadline = .passed → refused .allAboardClosed)
            ∧ (¬ (d = .outward ∧ p.cls ≠ .crew ∧ s.deadline = .passed) →
              (p.gatePermit ≠ none → refused .alreadyPermitted)
              ∧ (p.gatePermit = none → 2 ≤ (s.lane lane).permits.length → refused .permitsFull)
              ∧ (p.gatePermit = none → (s.lane lane).permits.length < 2 → 256 ≤ s.movementLog.length →
                  refused .logFull)))))

/-- BEAM_RAW_CHANGE: a level that reads as other than the filtered state begins a filter run, timed with the filter time in
force, and one that reads as the filtered state abandons the run; with a filter time of 0 the beam event is taken in the same
moment (R41, R42). That the level already held is no change, and that a run which has lasted its time ends first, the change
following its BEAM_EVENT, are the model's own, log entry 13. -/
def Obligations.BeamLevelsStartFilterRuns : Prop :=
  ∀ (s : State) (lane : Nat) (b : Beam) (high : Bool), s.Tidy → lane < 4 →
    let beam := (s.lane lane).beam b
    let setup := (s.lane lane).setup
    let raw := if setup.polarity = .brokenLow then !high else high
    (beam.high = high → exec (.beamRawChange lane b high) s = .next s)
    ∧ (∀ e, beam.high ≠ high → beam.filterEnd = some e → e ≤ s.clock.mono →
      ∃ u, exec (.beamEvent lane b) s = .next u ∧ u.clock = s.clock
        ∧ ((u.lane lane).beam b).high = beam.high ∧ ((u.lane lane).beam b).filterEnd = none
        ∧ exec (.beamRawChange lane b high) s = exec (.beamRawChange lane b high) u)
    ∧ (beam.high ≠ high → (∀ e, beam.filterEnd = some e → s.clock.mono < e) →
      (raw = beam.broken →
        ∃ t, exec (.beamRawChange lane b high) s = .next t
          ∧ (∀ j, t.lane j = if j = lane then (s.lane lane).putBeam b { beam with high, filterEnd := none } else s.lane j)
          ∧ Keeps [.lanes] s t)
      ∧ (raw ≠ beam.broken → 0 < setup.filterTime →
        ∃ t, exec (.beamRawChange lane b high) s = .next t
          ∧ (∀ j, t.lane j = if j = lane then
              (s.lane lane).putBeam b { beam with high, filterEnd := some (s.clock.mono + setup.filterTime) } else s.lane j)
          ∧ Keeps [.lanes] s t)
      ∧ (raw ≠ beam.broken → setup.filterTime = 0 → exec (.beamRawChange lane b high) s
          = exec (.beamEvent lane b)
              (s.putLane lane ((s.lane lane).putBeam b { beam with high, filterEnd := some s.clock.mono }))))

/-- BEAM_EVENT: the filtered state takes the raw state, the block timing starts or is abandoned, the recognizer takes its
transition unless the lane is blocked, and a blocked lane whose beams are both CLEAR is blocked no more, its recognizer CLEAR
(R42, R45, R47, R48). Of the other lanes nothing changes. A return to CLEAR from OUTER or INNER counts one balk (R46). An
occupied period begins when a beam breaks while the other is CLEAR, and its length joins the accumulator when the last broken
beam clears (R44). The first count of the lane to come to its maximum sets the saturation-reported flag and raises
COUNTER_SATURATED (R59), after the notices of the passage that it completes; which of several counts is named is any, log entry
6. The flap is SHUT where the event leaves the recognizer CLEAR over an empty queue, the lane not blocked, as at a return to
CLEAR or the end of a block, and stands otherwise (R52). An event that completes no passage leaves every permit and record, the
tally, the movement log and the deadline alone, and raises nothing but COUNTER_SATURATED (R46, R48). That the event brings
monotonic time to its own moment is the model's choice, log entry 7. -/
def Obligations.BeamEventsDriveTheRecognizer : Prop :=
  ∀ (s : State) (lane : Nat) (b other : Beam) (due : Nat), s.Tidy → lane < 4 → b ≠ other →
    ((s.lane lane).beam b).filterEnd = some due →
    let old := s.lane lane
    let broken := !(old.beam b).broken
    let now := max s.clock.mono (min due 281474976710655)
    let returns := old.blocked = false ∧ recognize old.recognizer b broken = .clear
    ∃ t passed, exec (.beamEvent lane b) s = .next t ∧ AtTime s t due
      ∧ (t.lane lane).beam b = { old.beam b with
          broken, filterEnd := none, blockEnd := if broken then some (now + 1000 * old.setup.blockTime) else none }
      ∧ (t.lane lane).beam other = old.beam other
      ∧ (t.lane lane).mode = old.mode ∧ (t.lane lane).setup = old.setup
      ∧ (old.blocked = false → (t.lane lane).blocked = false
          ∧ (t.lane lane).recognizer = recognize old.recognizer b broken)
      ∧ (old.blocked = true → (broken = true ∨ (old.beam other).broken = true) →
          (t.lane lane).blocked = true ∧ (t.lane lane).recognizer = old.recognizer
          ∧ (t.lane lane).openAtStart = old.openAtStart)
      ∧ (old.blocked = true → broken = false → (old.beam other).broken = false →
          (t.lane lane).blocked = false ∧ (t.lane lane).recognizer = .clear ∧ (t.lane lane).openAtStart = none)
      ∧ (returns ∧ (old.recognizer = .outer ∨ old.recognizer = .inner) →
          (t.lane lane).counts = { old.counts with
            balks := min (old.counts.balks + 1) 65535, occupancy := (t.lane lane).counts.occupancy })
      ∧ (returns ∧ (old.recognizer = .leavingIn ∨ old.recognizer = .leavingOut) →
          (t.lane lane).counts.balks = old.counts.balks ∧ (t.lane lane).counts.noShows = old.counts.noShows)
      ∧ (¬ returns ∨ old.recognizer = .clear ∨ old.recognizer = .crossingIn ∨ old.recognizer = .crossingOut →
          (t.lane lane).counts = { old.counts with occupancy := (t.lane lane).counts.occupancy })
      ∧ (broken = true ∨ (old.beam other).broken = true →
          (t.lane lane).occupiedSince = some (old.occupiedSince.getD now)
          ∧ (t.lane lane).counts.occupancy = old.counts.occupancy)
      ∧ (broken = false → (old.beam other).broken = false →
          (t.lane lane).occupiedSince = none
          ∧ (old.occupiedSince = none → (t.lane lane).counts.occupancy = old.counts.occupancy)
          ∧ ∀ since, old.occupiedSince = some since →
            (t.lane lane).counts.occupancy = min (old.counts.occupancy + (now - since)) 4294967295)
      ∧ SaturationNoted s t lane passed ∧ (∀ e ∈ passed, e.1.key ≠ (MemberId.counterSaturated lane).key)
      ∧ ((t.lane lane).permits = [] ∧ (t.lane lane).recognizer = .clear ∧ (t.lane lane).blocked = false →
          (t.lane lane).flapOpen = false)
      ∧ (¬ ((t.lane lane).permits = [] ∧ (t.lane lane).recognizer = .clear ∧ (t.lane lane).blocked = false) →
          (t.lane lane).flapOpen = old.flapOpen)
      ∧ (¬ (returns ∧ (old.recognizer = .leavingIn ∨ old.recognizer = .leavingOut)) →
          (t.lane lane).permits = old.permits ∧ passed = []
          ∧ Keeps [.clock, .lanes, .notices, .wake, .freeIndex] s t)
      ∧ (∀ j, j ≠ lane → t.lane j = s.lane j)
      ∧ Keeps [.clock, .lanes, .persons, .tally, .deadline, .movements, .notices, .wake, .store, .freeIndex] s t

/-- The recognizer's fourteen transitions are those of the table of R45, and the note of the flap is made when it leaves
CLEAR, kept until it returns (R45). -/
def Obligations.RecognizerTransitions : Prop :=
  (recognize .clear .outer true = .outer ∧ recognize .clear .inner true = .inner
    ∧ recognize .outer .inner true = .crossingIn ∧ recognize .outer .outer false = .clear
    ∧ recognize .crossingIn .outer false = .leavingIn ∧ recognize .crossingIn .inner false = .outer
    ∧ recognize .leavingIn .inner false = .clear ∧ recognize .leavingIn .outer true = .crossingIn
    ∧ recognize .inner .outer true = .crossingOut ∧ recognize .inner .inner false = .clear
    ∧ recognize .crossingOut .inner false = .leavingOut ∧ recognize .crossingOut .outer false = .inner
    ∧ recognize .leavingOut .outer false = .clear ∧ recognize .leavingOut .inner true = .crossingOut)
  ∧ ∀ (s t : State) (lane : Nat) (b : Beam) (due : Nat), s.Tidy → lane < 4 → (s.lane lane).blocked = false →
    ((s.lane lane).beam b).filterEnd = some due → exec (.beamEvent lane b) s = .next t →
    ((t.lane lane).recognizer = .clear → (t.lane lane).openAtStart = none)
    ∧ ((t.lane lane).recognizer ≠ .clear →
      (t.lane lane).openAtStart = if (s.lane lane).recognizer = .clear then some (s.lane lane).flapOpen
        else (s.lane lane).openAtStart)

/-- A passage that completes while its lane's queue holds a permit of its direction is Permitted: the oldest such permit is
consumed, its person stands at the target with no gate permit, the person's block is marked dirty where the location changes,
and no other block is, the tally sequence increments once, the movement is appended with that number (or counted as a discard
while the log is full), and its direction's passage counter rises, the other direction's and the late, contrary and forced
counters standing. ALL_GUESTS_ABOARD is raised where the move makes it due, MOVEMENT_WAITING with the person index where the log
was empty, MOVEMENT_LOG_FULL with 256 where the append fills the log or is discarded, and besides those COUNTER_SATURATED alone,
where it is due (R9, R46, R53, R54, R59, R62, R66, R156). -/
def Obligations.PermittedPassagesMoveThePerson : Prop :=
  ∀ (s : State) (lane : Nat) (b : Beam) (d : Direction) (due : Nat) (permit : Permit) (p : Person),
    s.Tidy → lane < 4 → ((s.lane lane).beam b).filterEnd = some due → (s.lane lane).blocked = false →
    ((s.lane lane).beam b).broken = true →
    ((s.lane lane).recognizer = .leavingIn ∧ b = .inner ∧ d = .inward
      ∨ (s.lane lane).recognizer = .leavingOut ∧ b = .outer ∧ d = .outward) →
    (s.lane lane).permits.find? (fun q => decide (q.direction = d)) = some permit →
    s.person permit.person = some p →
    let target := if d = .inward then Location.aboard
      else if p.cls = .visitor ∨ (p.cls = .guest ∧ (s.lane lane).mode = .finalOut) then .departed else .ashore
    let movement : Movement :=
      { sequence := s.tallySequence + 1, person := permit.person, lane, direction := d, location := target,
        redundant := decide (p.location = target),
        shipTime := if s.clock.running then some s.clock.shipTime else none }
    ∃ t, exec (.beamEvent lane b) s = .next t
      ∧ t.person permit.person = some { p with location := target, gatePermit := none }
      ∧ (∀ j, j ≠ permit.person → t.person j = s.person j)
      ∧ (t.lane lane).permits = consume d (s.lane lane).permits
      ∧ t.tallySequence = s.tallySequence + 1
      ∧ (s.movementLog.length < 256 → t.movementLog = s.movementLog ++ [movement] ∧ t.discardCount = s.discardCount)
      ∧ (256 ≤ s.movementLog.length → t.movementLog = s.movementLog ∧ t.discardCount = min (s.discardCount + 1) 255)
      ∧ DeadlineHeard s t (p.location ≠ target)
      ∧ SaturationNoted s t lane (eventIf (GuestsCome s t (p.location ≠ target)) MemberId.allGuestsAboard 0
          ++ eventIf (s.movementLog = []) MemberId.movementWaiting permit.person
          ++ eventIf (255 ≤ s.movementLog.length) MemberId.movementLogFull 256)
      ∧ t.store = (s.store.markWhen (decide (p.location ≠ target)) (blockOf permit.person)).turn
          (!t.isRunning) t.persons t.muster t.clock.mono
      ∧ (t.lane lane).counts.inbound = (if d = .inward then min ((s.lane lane).counts.inbound + 1) 65535
          else (s.lane lane).counts.inbound)
      ∧ (t.lane lane).counts.outbound = (if d = .outward then min ((s.lane lane).counts.outbound + 1) 65535
          else (s.lane lane).counts.outbound)
      ∧ (t.lane lane).counts.late = (s.lane lane).counts.late
      ∧ (t.lane lane).counts.contrary = (s.lane lane).counts.contrary
      ∧ (t.lane lane).counts.forced = (s.lane lane).counts.forced

/-- A passage that completes with no permit of its direction is Late when it began with the flap open and the queue is empty,
Contrary when it began so and the queue is not empty, else Forced: that counter rises, that member takes its event, with the
direction as detail or, for LANE_FORCED, the lane, and besides it COUNTER_SATURATED alone, where it is due, and no person,
permit, movement or deadline changes (R53, R55, R59). -/
def Obligations.OtherPassagesMoveNobody : Prop :=
  ∀ (s : State) (lane : Nat) (b : Beam) (d : Direction) (due : Nat),
    s.Tidy → lane < 4 → ((s.lane lane).beam b).filterEnd = some due → (s.lane lane).blocked = false →
    ((s.lane lane).beam b).broken = true →
    ((s.lane lane).recognizer = .leavingIn ∧ b = .inner ∧ d = .inward
      ∨ (s.lane lane).recognizer = .leavingOut ∧ b = .outer ∧ d = .outward) →
    (∀ q ∈ (s.lane lane).permits, q.direction ≠ d) →
    let detail := if d = .inward then 0 else 1
    let rises := fun n : Nat => min (n + 1) 65535
    let before := (s.lane lane).counts
    ∃ t, exec (.beamEvent lane b) s = .next t
      ∧ t.persons = s.persons ∧ t.movementLog = s.movementLog ∧ t.tally = s.tally ∧ t.tallySequence = s.tallySequence
      ∧ (t.lane lane).permits = (s.lane lane).permits
      ∧ (t.lane lane).counts.late = (if (s.lane lane).openAtStart = some true ∧ (s.lane lane).permits = [] then
          rises before.late else before.late)
      ∧ (t.lane lane).counts.contrary = (if (s.lane lane).openAtStart = some true ∧ (s.lane lane).permits ≠ [] then
          rises before.contrary else before.contrary)
      ∧ (t.lane lane).counts.forced = (if (s.lane lane).openAtStart ≠ some true then rises before.forced
          else before.forced)
      ∧ (t.lane lane).counts.inbound = (if d = .inward then rises before.inbound else before.inbound)
      ∧ (t.lane lane).counts.outbound = (if d = .outward then rises before.outbound else before.outbound)
      ∧ SaturationNoted s t lane
          (eventIf ((s.lane lane).openAtStart = some true ∧ (s.lane lane).permits = []) (MemberId.late lane) detail
            ++ eventIf ((s.lane lane).openAtStart = some true ∧ (s.lane lane).permits ≠ []) (MemberId.contrary lane) detail
            ++ eventIf ((s.lane lane).openAtStart ≠ some true) MemberId.laneForced lane)
      ∧ Keeps [.clock, .lanes, .notices, .wake, .freeIndex] s t

/-- BLOCK_TIMING_EXPIRY makes the lane blocked, raising BLOCKED if it was not; PERMIT_EXPIRY takes the person's permit from the
lane's queue and the gate permit from the record, counts a no-show, and sets the saturation-reported flag and raises
COUNTER_SATURATED, the only notice of an expiry, when that count comes to its maximum while the flag is clear. That each event
brings monotonic time to its own moment is the model's choice, log entry 7 (R47, R51, R52, R57, R59). -/
def Obligations.LaneTimingsEnd : Prop :=
  (∀ (s : State) (lane : Nat) (b : Beam) (due : Nat), s.Tidy → lane < 4 →
    ((s.lane lane).beam b).blockEnd = some due →
    ∃ t, exec (.blockTimingExpiry lane b) s = .next t ∧ AtTime s t due
      ∧ (∀ j, t.lane j = if j = lane then
          { (s.lane lane).putBeam b { (s.lane lane).beam b with blockEnd := none } with blocked := true } else s.lane j)
      ∧ ((s.lane lane).blocked = false → Raised s t (MemberId.blocked lane) (if b = .outer then 0 else 1))
      ∧ ((s.lane lane).blocked = true → Silent s t)
      ∧ Keeps [.clock, .lanes, .notices, .wake] s t)
  ∧ ∀ (s : State) (lane person : Nat) (permit : Permit), s.Tidy → lane < 4 → person < 8192 →
    (s.lane lane).permits.find? (fun q => decide (q.person = person)) = some permit →
    let left := (s.lane lane).permits.filter fun q => !decide (q.person = person)
    ∃ t, exec (.permitExpiry lane person) s = .next t ∧ AtTime s t permit.expiry
      ∧ t.lane lane = { s.lane lane with
          permits := left
          flapOpen := (s.lane lane).flapOpen
            && !(left.isEmpty && (s.lane lane).recognizer == .clear && !(s.lane lane).blocked)
          counts := { (s.lane lane).counts with noShows := min ((s.lane lane).counts.noShows + 1) 65535 }
          saturationReported := (t.lane lane).saturationReported }
      ∧ SaturationNoted s t lane []
      ∧ (∀ j, j ≠ lane → t.lane j = s.lane j)
      ∧ (∀ i, t.person i = if i = person then (s.person i).map fun v => { v with gatePermit := none } else s.person i)
      ∧ Keeps [.clock, .lanes, .persons, .notices, .wake, .freeIndex] s t

/-- SET_ALL_ABOARD sets the deadline to a later time, clears it, or makes it PASSED for a time that is not later; it is refused
with CLOCK_UNSET before the clock runs. A deadline becomes PASSED, too, when the gate unit takes its arrival: ALL_ABOARD_REACHED
takes its event with the GUEST-ASHORE count, and ALL_GUESTS_ABOARD with it when that count is 0, and no other member does. The
flag of the arrival is the model's choice, log entry 14 (R37, R64, R65, R66). -/
def Obligations.AllAboardDeadline : Prop :=
  let passes := fun (s t : State) =>
    let ashore := s.tallyCount .guest .ashore
    t.deadline = .passed ∧ t.deadlineArrived = false ∧ t.guestsReported = (ashore == 0)
    ∧ RaisedAll s t ((MemberId.allAboardReached, ashore) :: eventIf (ashore = 0) MemberId.allGuestsAboard 0)
  (∀ (s : State) (r : Request) (time : Option Nat), s.Tidy → HostOffer s 0x3C decodeSetAllAboard r time →
    (s.clock.running = false →
      ∃ t, exec (.setAllAboard r) s = .next t ∧ HostAnswered s t ⟨0x3C, r.tag, .clockUnset, []⟩ ∧ Keeps [.host] s t)
    ∧ (s.clock.running = true →
      (time = none →
        ∃ t, exec (.setAllAboard r) s = .next t ∧ HostAnswered s t ⟨0x3C, r.tag, .ok, [.b1 0, .b1 0]⟩
          ∧ t.deadline = .none ∧ t.deadlineArrived = false ∧ t.guestsReported = s.guestsReported
          ∧ Keeps [.host, .deadline] s t)
      ∧ (∀ at_, time = some at_ → s.clock.shipTime < at_ →
        ∃ t, exec (.setAllAboard r) s = .next t ∧ HostAnswered s t ⟨0x3C, r.tag, .ok, [.b1 1, .b1 1, .b4 at_]⟩
          ∧ t.deadline = .set at_ ∧ t.deadlineArrived = false ∧ t.guestsReported = s.guestsReported
          ∧ Keeps [.host, .deadline] s t)
      ∧ ∀ at_, time = some at_ → at_ ≤ s.clock.shipTime →
        ∃ t, exec (.setAllAboard r) s = .next t ∧ HostAnswered s t ⟨0x3C, r.tag, .ok, [.b1 2, .b1 0]⟩
          ∧ passes s t ∧ Keeps [.host, .deadline, .notices, .wake] s t))
  ∧ ∀ s : State, s.Tidy → s.deadlineArrived = true →
    ∃ t, exec .allAboardDeadlinePassed s = .next t ∧ passes s t ∧ Keeps [.deadline, .notices, .wake] s t

/-! ### Doors -/

/-- A DOOR_TAP that passes its tests is granted: a LOCKED door is RELEASED for the strike time, a RELEASED one keeps its end
and the reply carries the whole seconds left, and the failure count is 0. A sweeper's tap during a muster is granted whatever
else stands, and marks an UNSWEPT cabin SWEPT (R71, R72, R73, R74, R75, R133). -/
def Obligations.DoorTapsThatPassAreGranted : Prop :=
  ∀ (s : State) (r : Request) (q : DoorTap) (i : Nat) (p : Person),
    s.Tidy → StationOffer s 0x01 decodeDoorTap r q → (s.cabin q.cabin).configured = true →
    s.decodeCard q.card = .passed i p →
    let v := s.cabin q.cabin
    let sweeper := s.muster.active = true ∧ p.cls = .crew ∧ p.sweep = true
    let admitted := v.lockoutUntil = none ∧ p.loaded = true ∧
      ((p.cls ≠ .crew ∧ p.cabin = some q.cabin ∧ p.location = .aboard)
        ∨ (p.cls = .crew ∧ v.privacy = false ∧ ∃ first last, p.rights = some (first, last) ∧ first ≤ q.cabin ∧ q.cabin ≤ last))
    let granted := fun (t : State) (swept : Bool) (sweep : Sweep) =>
      (v.releasedUntil = none →
        StationAnswered s t ⟨0x01, r.tag, .granted,
          { StationGroups.empty with timing := some (s.doorSettings.strikeTime, swept) }⟩
        ∧ t.cabin q.cabin = { v with
            releasedUntil := some (s.clock.mono + 1000 * s.doorSettings.strikeTime), failures := 0, sweep })
      ∧ (∀ e, v.releasedUntil = some e →
        StationAnswered s t ⟨0x01, r.tag, .grantedAlreadyOpen,
          { StationGroups.empty with timing := some ((e - s.clock.mono + 999) / 1000, swept) }⟩
        ∧ t.cabin q.cabin = { v with failures := 0, sweep })
      ∧ ∀ c, c ≠ q.cabin → t.cabin c = s.cabin c
    (¬ sweeper → admitted →
      ∃ t, exec (.doorTap r) s = .next t ∧ granted t false v.sweep ∧ Keeps [.station, .cabins] s t)
    ∧ (sweeper → v.sweep ≠ .unswept →
      ∃ t, exec (.doorTap r) s = .next t ∧ granted t true v.sweep ∧ Keeps [.station, .cabins] s t)
    ∧ (sweeper → v.sweep = .unswept →
      ∃ t, exec (.doorTap r) s = .next t ∧ granted t true .swept
        ∧ t.muster = { s.muster with unswept := s.muster.unswept - 1 }
        ∧ (s.muster.unswept - 1 = 0 → Raised s t MemberId.allSwept s.muster.id)
        ∧ (s.muster.unswept - 1 ≠ 0 → Silent s t)
        ∧ Keeps [.station, .cabins, .muster, .notices, .wake] s t)

/-- A counted refusal of a DOOR_TAP raises the failure count while no lockout is in force, and at the threshold starts a
lockout, sets the count to 0 and raises DOOR_LOCKOUT; LOCKED_OUT and RECORD_INCOMPLETE are not counted. Besides DOOR_LOCKOUT a
refusal raises FUTURE_CARD or ASHORE_CARD for the reason of that name, and nothing else (R4, R71, R73, R74, R77, R78, R79). -/
def Obligations.DoorRefusalsAreCounted : Prop :=
  ∀ (s : State) (r : Request) (q : DoorTap),
    s.Tidy → StationOffer s 0x01 decodeDoorTap r q → (s.cabin q.cabin).configured = true →
    let v := s.cabin q.cabin
    let counted := fun (t : State) (noticed : List (MemberId × Nat)) =>
      t.cabin q.cabin = (if v.lockoutUntil ≠ none then v
        else if s.doorSettings.lockoutThreshold ≤ v.failures + 1 then
          { v with failures := 0, lockoutUntil := some (s.clock.mono + 1000 * s.doorSettings.lockoutTime) }
        else { v with failures := v.failures + 1 })
      ∧ (∀ c, c ≠ q.cabin → t.cabin c = s.cabin c)
      ∧ RaisedAll s t (noticed ++ eventIf (v.lockoutUntil = none ∧ s.doorSettings.lockoutThreshold ≤ v.failures + 1)
          MemberId.doorLockout q.cabin)
      ∧ Keeps [.station, .cabins, .notices, .wake] s t
    let refused := fun (t : State) (reason : Result) =>
      exec (.doorTap r) s = .next t ∧ StationAnswered s t ⟨0x01, r.tag, reason, StationGroups.empty⟩
    (∀ reason i, s.decodeCard q.card = .failed reason i →
      ∃ t, refused t reason ∧ counted t (eventIf (reason = .futureCard) MemberId.futureCard i))
    ∧ ∀ i p, s.decodeCard q.card = .passed i p → ¬ (s.muster.active = true ∧ p.cls = .crew ∧ p.sweep = true) →
      (∀ e, v.lockoutUntil = some e →
        ∃ t, exec (.doorTap r) s = .next t
          ∧ StationAnswered s t ⟨0x01, r.tag, .lockedOut,
              { StationGroups.empty with timing := some ((e - s.clock.mono + 999) / 1000, false) }⟩
          ∧ Keeps [.station] s t)
      ∧ (v.lockoutUntil = none → p.loaded = false → ∃ t, refused t .recordIncomplete ∧ Keeps [.station] s t)
      ∧ (v.lockoutUntil = none → p.loaded = true →
        (p.cls ≠ .crew →
          (p.cabin ≠ some q.cabin → ∃ t, refused t .notYourCabin ∧ counted t [])
          ∧ (p.cabin = some q.cabin → p.location = .expected → ∃ t, refused t .notBoarded ∧ counted t [])
          ∧ (p.cabin = some q.cabin → p.location = .ashore ∨ p.location = .departed →
              ∃ t, refused t .ashoreCard ∧ counted t [(MemberId.ashoreCard, i)]))
        ∧ (p.cls = .crew →
          ((∀ first last, p.rights = some (first, last) → q.cabin < first ∨ last < q.cabin) →
              ∃ t, refused t .notYourCabin ∧ counted t [])
          ∧ ∀ first last, p.rights = some (first, last) → first ≤ q.cabin → q.cabin ≤ last → v.privacy = true →
              ∃ t, refused t .privacy ∧ counted t []))

/-- STRIKE_WINDOW_END locks the door, LOCKOUT_END ends the lockout, and AJAR_TIMING_END of an open door raises DOOR_AJAR,
ends the timing and notes that the notice has been given. That each event brings monotonic time to its own moment is the
model's choice, log entry 7 (R76, R79, R84). -/
def Obligations.DoorTimingsEnd : Prop :=
  (∀ (s : State) (c due : Nat), s.Tidy → c < 4096 → (s.cabin c).releasedUntil = some due →
    ∃ t, exec (.strikeWindowEnd c) s = .next t ∧ AtTime s t due
      ∧ (∀ j, t.cabin j = if j = c then { s.cabin c with releasedUntil := none } else s.cabin j)
      ∧ Keeps [.clock, .cabins] s t)
  ∧ (∀ (s : State) (c due : Nat), s.Tidy → c < 4096 → (s.cabin c).lockoutUntil = some due →
    ∃ t, exec (.lockoutEnd c) s = .next t ∧ AtTime s t due
      ∧ (∀ j, t.cabin j = if j = c then { s.cabin c with lockoutUntil := none } else s.cabin j)
      ∧ Keeps [.clock, .cabins] s t)
  ∧ ∀ (s : State) (c due : Nat), s.Tidy → c < 4096 → (s.cabin c).ajarEnd = some due → (s.cabin c).sensedOpen = true →
    ∃ t, exec (.ajarTimingEnd c) s = .next t ∧ AtTime s t due
      ∧ (∀ j, t.cabin j = if j = c then { s.cabin c with ajarEnd := none, ajarGiven := true } else s.cabin j)
      ∧ Raised s t MemberId.doorAjar c ∧ Keeps [.clock, .cabins, .notices, .wake] s t

/-- A DOOR_REPORT for a configured cabin is acknowledged and sets the fields that its event names: OPENED starts the ajar
timing and raises DOOR_FORCED when it is unexplained, CLOSED ends the timing, the privacy reports set the privacy, and TAMPER
raises DOOR_TAMPER alone (R81, R82, R83, R85). -/
def Obligations.DoorReportsSetTheirFields : Prop :=
  ∀ (s : State) (r : Request) (q : DoorReport), s.Tidy → StationOffer s 0x02 decodeDoorReport r q →
    (s.cabin q.cabin).configured = true →
    let v := s.cabin q.cabin
    let now : Cabin := match q.event with
      | .opened _ => { v with
          sensedOpen := true, ajarEnd := some (s.clock.mono + 1000 * s.doorSettings.ajarTime), ajarGiven := false }
      | .closed => if v.sensedOpen then { v with sensedOpen := false, ajarEnd := none, ajarGiven := false } else v
      | .privacyOn => { v with privacy := true }
      | .privacyOff => { v with privacy := false }
      | .tamper => v
    ∃ t, exec (.doorReport r) s = .next t ∧ StationAnswered s t ⟨0x02, r.tag, .ack, StationGroups.empty⟩
      ∧ (∀ j, t.cabin j = if j = q.cabin then now else s.cabin j)
      ∧ (q.event = .opened .unexplained → Raised s t MemberId.doorForced q.cabin)
      ∧ (q.event = .tamper → Raised s t MemberId.doorTamper q.cabin)
      ∧ (q.event ≠ .opened .unexplained → q.event ≠ .tamper → Silent s t)
      ∧ Keeps [.station, .cabins, .notices, .wake] s t

/-- CONFIGURE_CABIN makes a cabin served, UNSWEPT while a muster is ACTIVE, or unserved with every field but its occupant
count at its reset value; it is refused with MUSTER_ACTIVE where it would unconfigure during a muster. CLEAR_LOCKOUT ends a
lockout and clears the failure count (R69, R80). -/
def Obligations.CabinMessages : Prop :=
  (∀ (s : State) (r : Request) (c : Nat) (v : Bool), s.Tidy → HostOffer s 0x40 decodeConfigureCabin r (c, v) →
    ((s.cabin c).configured = v →
      ∃ t, exec (.configureCabin r) s = .next t
        ∧ HostAnswered s t ⟨0x40, r.tag, .ok, [.b1 (if v then 1 else 0)]⟩ ∧ Keeps [.host] s t)
    ∧ ((s.cabin c).configured = false → v = true →
      ∃ t, exec (.configureCabin r) s = .next t ∧ HostAnswered s t ⟨0x40, r.tag, .ok, [.b1 1]⟩
        ∧ (∀ j, t.cabin j = if j = c then
            { s.cabin c with configured := true, sweep := if s.muster.active then .unswept else .none } else s.cabin j)
        ∧ t.muster = { s.muster with
            unswept := if s.muster.active then s.muster.unswept + 1 else s.muster.unswept }
        ∧ Keeps [.host, .cabins, .muster] s t)
    ∧ ((s.cabin c).configured = true → v = false →
      (s.muster.active = true →
        ∃ t, exec (.configureCabin r) s = .next t ∧ HostAnswered s t ⟨0x40, r.tag, .musterActive, []⟩
          ∧ Keeps [.host] s t)
      ∧ (s.muster.active = false →
        ∃ t, exec (.configureCabin r) s = .next t ∧ HostAnswered s t ⟨0x40, r.tag, .ok, [.b1 0]⟩
          ∧ (∀ j, t.cabin j = if j = c then { Cabin.reset with occupants := (s.cabin c).occupants } else s.cabin j)
          ∧ Keeps [.host, .cabins] s t)))
  ∧ ∀ (s : State) (r : Request) (c : Nat), s.Tidy → HostOffer s 0x42 decodeCabin r c →
    ∃ t, exec (.clearLockout r) s = .next t
      ∧ HostAnswered s t ⟨0x42, r.tag, .ok, [.b1 (if (s.cabin c).lockoutUntil = none then 0 else 1)]⟩
      ∧ (∀ j, t.cabin j = if j = c then { s.cabin c with lockoutUntil := none, failures := 0 } else s.cabin j)
      ∧ Keeps [.host, .cabins] s t

/-! ### Charging -/

/-- The arithmetic of a purchase: the subtotal is the sum of price times quantity; the service charge and the tax of each
class are rounded half up, each once; a tip is taken where tips are allowed; and the total is their sum. Each lies in its
range for a well-formed purchase at rates in range (R90, R91, R92, R93, R94). -/
def Obligations.PurchaseArithmetic : Prop :=
  ∀ (o : Outlet) (lines : List Line) (tip : Nat),
    let amount := fun l : Line => l.price * l.quantity
    let base := fun k => ((lines.filter fun l => decide (l.taxClass = k)).map amount).sum
    let price := priceOf o lines tip
    price.subtotal = (lines.map amount).sum
    ∧ price.service = (price.subtotal * o.serviceRate + 500) / 1000
    ∧ price.tax = (base 0 * o.taxRate0 + 5000) / 10000 + (base 1 * o.taxRate1 + 5000) / 10000
        + (base 2 * o.taxRate2 + 5000) / 10000 + (base 3 * o.taxRate3 + 5000) / 10000
    ∧ price.tip = (if o.tipsAllowed then tip else 0)
    ∧ price.total = price.subtotal + price.service + price.tax + price.tip
    ∧ (o.serviceRate = 0 → price.service = 0)
    ∧ (purchaseValid lines tip = true → o.serviceRate ≤ 250 → o.taxRate0 ≤ 3000 → o.taxRate1 ≤ 3000 →
        o.taxRate2 ≤ 3000 → o.taxRate3 ≤ 3000 →
        price.subtotal ≤ 79199208 ∧ price.service ≤ 19799802 ∧ price.tax ≤ 23759764 ∧ price.total ≤ 122858773)

/-- A BAR_SALE is judged by its tests in order, and refused for the first that fails; once the outlet is found enabled the
reply carries the computed amounts, and from the credit test on the available amount. A sale that passes every test is
captured. A refusal changes nothing but the FUTURE_CARD and JOURNAL_FULL notices and the report of the full journal (R88,
R95, R96, R97, R98, R99, R100, R101, R102, R114, R115, R123). -/
def Obligations.SalesAreJudgedAndCaptured : Prop :=
  ∀ (s : State) (r : Request) (q : Sale) (outlet : Nat), s.Tidy → StationOffer s 0x04 decodeSale r q →
    (s.stationEntry q.station).kind = .bar → (s.stationEntry q.station).enabled = true →
    (s.stationEntry q.station).binding = some outlet →
    let o := s.outlet outlet
    let price := priceOf o q.lines q.tip
    let priced : StationGroups :=
      { StationGroups.empty with amounts := some (price, !o.tipsAllowed && decide (0 < q.tip)) }
    let answers := fun (t : State) (reason : Result) (groups : StationGroups) =>
      exec (.barSale r) s = .next t ∧ StationAnswered s t ⟨0x04, r.tag, reason, groups⟩
    (∀ reason, FirstFailing (s.barTests outlet) (some reason) →
      ∃ t, answers t reason StationGroups.empty ∧ Keeps [.station] s t)
    ∧ (FirstFailing (s.barTests outlet) none →
      (∀ reason i, s.decodeCard q.card = .failed reason i →
        ∃ t, answers t reason priced ∧ (reason = .futureCard → Raised s t MemberId.futureCard i)
          ∧ (reason ≠ .futureCard → Silent s t) ∧ Keeps [.station, .notices, .wake] s t)
      ∧ ∀ i p, s.decodeCard q.card = .passed i p →
        (p.account = none →
          ∃ t, answers t (if p.loaded then .noAccount else .recordIncomplete) priced ∧ Keeps [.station] s t)
        ∧ ∀ a, p.account = some a →
          let tests := a.tests o s.clock.currentDay q.lines price.total price.total
            ++ [(1024 ≤ s.journal.length, .journalFull)]
          let left := { priced with available := some a.left }
          (∀ reason, FirstFailing tests (some reason) → reason ≠ .journalFull →
            ∃ t, exec (.barSale r) s = .next t ∧ Keeps [.station] s t
              ∧ (carriesAvailable reason → answers t reason left)
              ∧ (¬ carriesAvailable reason → answers t reason priced))
          ∧ (FirstFailing tests (some .journalFull) →
            ∃ t, answers t .journalFull left ∧ JournalFullRefused s t outlet
              ∧ Keeps [.station, .journal, .notices, .wake] s t)
          ∧ (FirstFailing tests none →
            ∃ t, answers t .granted { priced with
                available := some { a with unposted := a.unposted + price.total : Account }.left
                charge := some s.nextCharge }
              ∧ Captured s t
                { boot := s.store.boot, charge := s.nextCharge, unitAddress := s.unitAddress, person := i,
                  generation := q.card.generation, outlet, station := q.station, kind := .sale, amounts := price,
                  shipTime := s.clock.shipTime, day := s.clock.currentDay, lines := q.lines } 0
              ∧ Keeps [.station, .persons, .journal, .notices, .wake] s t))

/-- A BAR_OPEN_TAB is judged by its tests in order. Granted, it opens a hold in the lowest-numbered FREE slot, whose tag goes
up by one modulo 256, and raises the held total; refused, it changes nothing but the FUTURE_CARD notice (R88, R96, R97, R98,
R99, R100, R104, R105). -/
def Obligations.TabOpeningsAreJudgedAndHeld : Prop :=
  ∀ (s : State) (r : Request) (q : OpenTab) (outlet : Nat), s.Tidy → StationOffer s 0x05 decodeOpenTab r q →
    (s.stationEntry q.station).kind = .bar → (s.stationEntry q.station).enabled = true →
    (s.stationEntry q.station).binding = some outlet →
    let answers := fun (t : State) (reason : Result) (groups : StationGroups) =>
      exec (.barOpenTab r) s = .next t ∧ StationAnswered s t ⟨0x05, r.tag, reason, groups⟩
    (∀ reason, FirstFailing (s.barTests outlet) (some reason) →
      ∃ t, answers t reason StationGroups.empty ∧ Keeps [.station] s t)
    ∧ (FirstFailing (s.barTests outlet) none →
      (∀ reason i, s.decodeCard q.card = .failed reason i →
        ∃ t, answers t reason StationGroups.empty ∧ (reason = .futureCard → Raised s t MemberId.futureCard i)
          ∧ (reason ≠ .futureCard → Silent s t) ∧ Keeps [.station, .notices, .wake] s t)
      ∧ ∀ i p, s.decodeCard q.card = .passed i p →
        (p.account = none →
          ∃ t, answers t (if p.loaded then .noAccount else .recordIncomplete) StationGroups.empty
            ∧ Keeps [.station] s t)
        ∧ ∀ a, p.account = some a →
          let tests := a.tests (s.outlet outlet) s.clock.currentDay [] q.amount q.amount
            ++ [(4 ≤ (s.holdsOf i).length, .holdLimit), (∀ k < 512, (s.slot k).hold ≠ none, .holdsFull)]
          (∀ reason, FirstFailing tests (some reason) →
            ∃ t, exec (.barOpenTab r) s = .next t ∧ Keeps [.station] s t
              ∧ (carriesAvailable reason → answers t reason { StationGroups.empty with available := some a.left })
              ∧ (¬ carriesAvailable reason → answers t reason StationGroups.empty))
          ∧ ∀ k < 512, FirstFailing tests none → (s.slot k).hold = none → (∀ j < k, (s.slot j).hold ≠ none) →
            ∃ t, answers t .granted { StationGroups.empty with
                available := some { a with held := a.held + q.amount : Account }.left
                handle := some (k, (s.slot k).tag + 1) }
              ∧ (∀ j, t.slot j = if j = k then
                  { tag := (s.slot k).tag + 1
                    hold := some { person := i, outlet, station := q.station, amount := q.amount
                                   opened := s.clock.shipTime
                                   expiry := min (s.clock.shipTime + (s.outlet outlet).holdLife) 4294967295
                                   arrived := false } }
                  else s.slot j)
              ∧ AccountChanged s t i (fun a => { a with held := a.held + q.amount })
              ∧ Keeps [.station, .persons, .holds] s t)

/-- A BAR_CLOSE_TAB is judged by its tests in order against the hold that its handle names. Granted, it frees the slot, which
keeps its tag, and captures the purchase for the hold's person, the hold's amount no longer held; refused, it leaves the hold
as it stood. A close that appends to an empty journal with the allowance at 0 raises CHARGE_WAITING, as R115 and R123 have every
capture do: they are followed over the sentence of R107 by which a close raises no notice, the model's choice, log entry 32 (R88,
R96, R97, R98, R99, R100, R101, R102, R106, R107, R114, R115, R123). -/
def Obligations.TabClosesAreJudgedAndCaptured : Prop :=
  ∀ (s : State) (r : Request) (q : CloseTab) (outlet : Nat), s.Tidy → StationOffer s 0x06 decodeCloseTab r q →
    (s.stationEntry q.station).kind = .bar → (s.stationEntry q.station).enabled = true →
    (s.stationEntry q.station).binding = some outlet →
    let o := s.outlet outlet
    let price := priceOf o q.lines q.tip
    let priced : StationGroups :=
      { StationGroups.empty with amounts := some (price, !o.tipsAllowed && decide (0 < q.tip)) }
    let answers := fun (t : State) (reason : Result) (groups : StationGroups) =>
      exec (.barCloseTab r) s = .next t ∧ StationAnswered s t ⟨0x06, r.tag, reason, groups⟩
    (∀ reason, FirstFailing (s.barTests outlet) (some reason) →
      ∃ t, answers t reason StationGroups.empty ∧ Keeps [.station] s t)
    ∧ (FirstFailing (s.barTests outlet) none →
      ((s.slot q.slot).hold = none ∨ (s.slot q.slot).tag ≠ q.tag →
        ∃ t, answers t .holdGone priced ∧ Keeps [.station] s t)
      ∧ ∀ h, (s.slot q.slot).hold = some h → (s.slot q.slot).tag = q.tag →
        (h.outlet ≠ outlet → ∃ t, answers t .wrongOutlet priced ∧ Keeps [.station] s t)
        ∧ ∀ p a, h.outlet = outlet → s.person h.person = some p → p.account = some a →
          let tests := a.tests o s.clock.currentDay q.lines price.total (price.total - h.amount)
            ++ [(1024 ≤ s.journal.length, .journalFull)]
          let left := { priced with available := some a.left }
          (∀ reason, FirstFailing tests (some reason) → reason ≠ .journalFull →
            ∃ t, exec (.barCloseTab r) s = .next t ∧ Keeps [.station] s t
              ∧ (carriesAvailable reason → answers t reason left)
              ∧ (¬ carriesAvailable reason → answers t reason priced))
          ∧ (FirstFailing tests (some .journalFull) →
            ∃ t, answers t .journalFull left ∧ JournalFullRefused s t outlet
              ∧ Keeps [.station, .journal, .notices, .wake] s t)
          ∧ (FirstFailing tests none →
            ∃ t, answers t .granted { priced with
                available := some { a with
                  held := a.held - h.amount, unposted := a.unposted + price.total : Account }.left
                charge := some s.nextCharge }
              ∧ (∀ j, t.slot j = if j = q.slot then { s.slot j with hold := none } else s.slot j)
              ∧ Captured s t
                { boot := s.store.boot, charge := s.nextCharge, unitAddress := s.unitAddress, person := h.person,
                  generation := p.generation, outlet, station := q.station, kind := .tabClose, amounts := price,
                  shipTime := s.clock.shipTime, day := s.clock.currentDay, lines := q.lines } h.amount
              ∧ Keeps [.station, .persons, .holds, .journal, .notices, .wake] s t))

/-- A BAR_VOID is judged by its tests in order. Granted, it takes the entry out of the journal from wherever it stands, and
the person's unposted total, and on the same day the spending, fall by its total; refused, it changes nothing. Where the
person has no account any more the reply's available amount is any value, log entry 6, and no account changes, log entry 24
(R115, R116, R117). -/
def Obligations.VoidsWithdrawEntries : Prop :=
  ∀ (s : State) (r : Request) (q : VoidCharge) (outlet : Nat), s.Tidy → StationOffer s 0x07 decodeVoid r q →
    (s.stationEntry q.station).kind = .bar → (s.stationEntry q.station).enabled = true →
    (s.stationEntry q.station).binding = some outlet →
    let answers := fun (t : State) (reason : Result) (groups : StationGroups) =>
      exec (.barVoid r) s = .next t ∧ StationAnswered s t ⟨0x07, r.tag, reason, groups⟩
    (∀ reason, FirstFailing [(s.muster.active = true, .muster), (∀ e ∈ s.journal, e.charge ≠ q.charge, .notInJournal)]
        (some reason) →
      ∃ t, answers t reason StationGroups.empty ∧ Keeps [.station] s t)
    ∧ ∀ before e after, s.muster.active = false → s.journal = before ++ e :: after → e.charge = q.charge →
      (∀ x ∈ before, x.charge ≠ q.charge) →
      let window := (s.outlet outlet).voidWindow
      let tests := [(e.outlet ≠ outlet, Result.wrongOutlet),
        (window = 0 ∨ e.shipTime + window < s.clock.shipTime, .voidWindow)]
      (∀ reason, FirstFailing tests (some reason) →
        ∃ t, answers t reason StationGroups.empty ∧ Keeps [.station] s t)
      ∧ (FirstFailing tests none →
        let voided := fun a : Account => { a with
          unposted := a.unposted - e.amounts.total
          spentToday := if e.day = a.spentDay then a.spentToday - e.amounts.total else a.spentToday }
        ∃ t available, answers t .granted { StationGroups.empty with
            amounts := some (e.amounts, false), available := some available, charge := some q.charge }
          ∧ (∀ a, s.accountOf e.person = some a → available = (voided a).left)
          ∧ t.journal = before ++ after ∧ t.allowance = s.allowance ∧ t.nextCharge = s.nextCharge
          ∧ t.journalFullReported = (s.journalFullReported && decide (s.journal.length < 1024))
          ∧ AccountChanged s t e.person voided
          ∧ Keeps [.station, .persons, .journal, .freeIndex] s t)

/-- A hold whose expiry has arrived expires while the muster is IDLE, and RELEASE_HOLD frees the hold that its handle names:
the slot becomes FREE and keeps its tag, and the held total falls by the amount. An expiry raises HOLD_EXPIRED with the
person; a handle that names no hold is refused with HOLD_GONE, and while the muster is ACTIVE no hold expires. The flag of
the arrival, and that an event whose condition fails changes nothing, are the model's choices, log entries 14 and 15 (R108,
R109, R110, R111). -/
def Obligations.HoldsExpireAndAreReleased : Prop :=
  let freed := fun (s t : State) (k : Nat) (h : Hold) =>
    (∀ j, t.slot j = if j = k then { s.slot j with hold := none } else s.slot j)
    ∧ AccountChanged s t h.person fun a => { a with held := a.held - h.amount }
  (∀ (s : State) (k : Nat) (h : Hold), s.Tidy → k < 512 → (s.slot k).hold = some h →
    (h.arrived = true → s.muster.active = false →
      ∃ t, exec (.holdExpiry k) s = .next t ∧ freed s t k h ∧ Raised s t MemberId.holdExpired h.person
        ∧ Keeps [.persons, .holds, .notices, .wake] s t)
    ∧ (s.muster.active = true → exec (.holdExpiry k) s = .next s))
  ∧ ∀ (s : State) (r : Request) (k : Nat) (tag : BitVec 8), s.Tidy → HostOffer s 0x52 decodeReleaseHold r (k, tag) →
    ((s.slot k).hold = none ∨ (s.slot k).tag ≠ tag →
      ∃ t, exec (.releaseHold r) s = .next t ∧ HostAnswered s t ⟨0x52, r.tag, .holdGone, []⟩ ∧ Keeps [.host] s t)
    ∧ ∀ h, (s.slot k).hold = some h → (s.slot k).tag = tag →
      ∃ t, exec (.releaseHold r) s = .next t
        ∧ HostAnswered s t ⟨0x52, r.tag, .ok, [.b2 h.person, .b4 h.amount]⟩ ∧ freed s t k h
        ∧ Keeps [.host, .persons, .holds] s t

/-- GRANT_POSTING adds to the posting allowance, up to 1,024. CHARGE_POST_START, the transmitter free, no reply waiting and no
group deliverable, sends the entry at the head of the journal, moves its total from the unposted total to the posted balance,
clamped and reported at 99,999,999, and lowers the allowance, reporting its last; of the notices BALANCE_CLAMPED and
POSTING_DRAINED alone take their events, each where it is due. CHARGE_POST is a frame of kind 0x7F and tag 0 whose body lays the
entry out byte by byte as section 11.6 does. It is held back, and changes nothing, while the transmitter is busy, during
start-up, while STARTED or a reply waits or a group is deliverable, while the host is ASLEEP, with the allowance 0 and with the
journal empty. That the start of the frame is a command of its own, and no event where it is held back, are the model's choices,
log entries 17 and 15, and that a person without an account has nothing moved is its inference, log entry 24 (R115, R119, R120,
R121, R124, R153, R175). -/
def Obligations.PostingTakesTheOldest : Prop :=
  (∀ (s : State) (r : Request) (n : Nat), HostOffer s 0x50 decodeGrantPosting r n →
    ∃ t, exec (.grantPosting r) s = .next t
      ∧ HostAnswered s t ⟨0x50, r.tag, .ok, [.b2 (min (s.allowance + n) 1024)]⟩
      ∧ t.allowance = min (s.allowance + n) 1024 ∧ t.journal = s.journal ∧ t.nextCharge = s.nextCharge
      ∧ t.journalFullReported = s.journalFullReported ∧ Keeps [.host, .journal] s t)
  ∧ (∀ s : State, s.isStarting = true ∨ s.host.sending ≠ none ∨ s.host.started ≠ none ∨ s.host.replies ≠ []
      ∨ (∃ g < 10, s.mayDeliver g) ∨ s.host.asleep = true ∨ s.allowance = 0 ∨ s.journal = [] →
    exec .chargePostStart s = .next s)
  ∧ (∀ (s : State) (e : Entry) (rest : List Entry), s.Tidy → s.isStarting = false → s.host.sending = none →
    s.host.started = none → s.host.replies = [] → (∀ g < 10, ¬ s.mayDeliver g) → s.host.asleep = false →
    0 < s.allowance → s.journal = e :: rest →
    ∃ t, exec .chargePostStart s = .next t
      ∧ t.host = { s.host with sending := some e.frame }
      ∧ t.journal = rest ∧ t.allowance = s.allowance - 1 ∧ t.nextCharge = s.nextCharge
      ∧ t.journalFullReported = (s.journalFullReported && decide (s.journal.length < 1024))
      ∧ AccountChanged s t e.person (fun a => { a with
          unposted := a.unposted - e.amounts.total, posted := min (a.posted + e.amounts.total) 99999999 })
      ∧ RaisedAll s t
          (eventIf (∃ a ∈ s.accountOf e.person, 99999999 < a.posted + e.amounts.total) MemberId.balanceClamped e.person
            ++ eventIf (s.allowance = 1) MemberId.postingDrained rest.length)
      ∧ Keeps [.host, .persons, .journal, .notices] s t)
  ∧ ∀ e : Entry,
    let line := fun l : Line =>
      natBytes 4 l.price ++ natBytes 1 l.quantity ++ natBytes 1 l.taxClass ++ natBytes 1 (if l.alcohol then 1 else 0)
    let kind := match e.kind with
      | .sale => 0
      | .tabClose => 1
    let body := natBytes 2 e.boot.toNat ++ natBytes 4 e.charge ++ natBytes 1 e.unitAddress.toNat ++ natBytes 2 e.person
      ++ natBytes 1 e.generation.toNat ++ natBytes 1 e.outlet ++ natBytes 1 e.station ++ natBytes 1 kind
      ++ natBytes 4 e.amounts.subtotal ++ natBytes 4 e.amounts.service ++ natBytes 4 e.amounts.tax
      ++ natBytes 4 e.amounts.tip ++ natBytes 4 e.amounts.total ++ natBytes 4 e.shipTime ++ natBytes 2 e.day
      ++ natBytes 1 e.lines.length ++ e.lines.flatMap line
    e.frame = { bytes := frameBytes 0x7F 0 body, resets := false }

/-! ### The muster -/

/-- START_MUSTER makes every ABOARD record UNMUSTERED and every configured cabin UNSWEPT, counts them, cancels every permit and
marks the control block dirty. END_MUSTER answers the counts as they stood, makes every muster and sweep state NONE, zeroes the
counts, marks the blocks of the MUSTERED and the control block dirty, and expires the overdue holds in slot order, HOLD_EXPIRED
taking an event for each, with its person, and no other member one. Both are refused for the first reason that applies and then
change nothing (R110, R128, R132, R136). That a hold left OPEN has its expiry arrive afresh is the model's choice, log entry 14.
-/
def Obligations.MustersStartAndEnd : Prop :=
  (∀ (s : State) (r : Request) (id : Nat), s.Tidy → HostOffer s 0x58 decodeMusterId r id →
    (∀ reason, FirstFailing [(s.muster.active = true, .musterActive), (s.store.state ≠ .opened, .powerFail)] (some reason) →
      ∃ t, exec (.startMuster r) s = .next t ∧ HostAnswered s t ⟨0x58, r.tag, reason, []⟩ ∧ Keeps [.host] s t)
    ∧ (s.muster.active = false → s.store.state = .opened →
      let aboard := s.countPersons fun p => p.location == .aboard
      let served := (s.cabins.filter fun e => e.2.configured).length
      ∃ t, exec (.startMuster r) s = .next t
        ∧ HostAnswered s t ⟨0x58, r.tag, .ok, [.b2 id, .b2 aboard, .b2 served]⟩
        ∧ (∀ i, ∃ permit, t.person i = (s.person i).map fun p => { p with
            muster := if p.location = .aboard then .unmustered else p.muster, gatePermit := permit })
        ∧ PermitsCancelled s t
        ∧ (∀ c, t.cabin c = { s.cabin c with
            sweep := if (s.cabin c).configured then .unswept else (s.cabin c).sweep })
        ∧ t.muster = { active := true, id, points := [], unrecorded := 0, unmustered := aboard, unswept := served }
        ∧ (aboard = 0 → Raised s t MemberId.allMustered id) ∧ (aboard ≠ 0 → Silent s t)
        ∧ t.store = (s.store.markWhen true 128).turn (!t.isRunning) t.persons t.muster t.clock.mono
        ∧ Keeps [.host, .persons, .cabins, .lanes, .muster, .notices, .wake, .store] s t))
  ∧ ∀ (s : State) (r : Request), s.Tidy → HostOffer s 0x59 decodeEmpty r () →
    (∀ reason, FirstFailing [(s.muster.active = false, .notActive), (s.store.state ≠ .opened, .powerFail)] (some reason) →
      ∃ t, exec (.endMuster r) s = .next t ∧ HostAnswered s t ⟨0x59, r.tag, reason, []⟩ ∧ Keeps [.host] s t)
    ∧ (s.muster.active = true → s.store.state = .opened →
      let overdue := s.overdueHolds
      let owed := fun i => ((overdue.filter fun e => e.2.person == i).map fun e => e.2.amount).sum
      let expired := s.notices.member MemberId.holdExpired
      ∃ t, exec (.endMuster r) s = .next t
        ∧ HostAnswered s t ⟨0x59, r.tag, .ok,
            [.b2 s.muster.id, .b2 s.muster.unmustered, .b2 s.muster.unrecorded, .b2 s.muster.unswept]⟩
        ∧ (∀ i, t.person i = (s.person i).map fun p => { p with
            muster := .none, account := p.account.map fun a => { a with held := a.held - owed i } })
        ∧ (∀ c, t.cabin c = { s.cabin c with sweep := .none })
        ∧ t.muster = { active := false, id := s.muster.id, points := [], unrecorded := 0, unmustered := 0, unswept := 0 }
        ∧ (∀ k, t.slot k = { s.slot k with
            hold := (s.slot k).hold.bind fun h =>
              if h.expiry ≤ s.clock.shipTime then none else some { h with arrived := false } })
        ∧ RaisedAll s t (overdue.map fun e => (MemberId.holdExpired, e.2.person))
        ∧ (∀ first rest, overdue = first :: rest → t.notices.member MemberId.holdExpired = { expired with
            flag := true, count := min (expired.count + overdue.length) 255
            detail := if expired.flag then expired.detail else first.2.person })
        ∧ t.store = ((s.store.markAll s.musteredBlocks).markWhen true 128).turn
            (!t.isRunning) t.persons t.muster t.clock.mono
        ∧ Keeps [.host, .persons, .cabins, .holds, .muster, .notices, .wake, .store] s t)

/-- A MUSTER_TAP, or a MUSTER_PERSON from the host, that passes its tests credits the person at the point, answering
MUSTERED, with the point left in a move; a person MUSTERED there already is answered ALREADY_MUSTERED, and nothing changes.
Refused, neither changes anything but the FUTURE_CARD notice. That the point left stands behind a presence byte in the reply to
MUSTER_PERSON is the model's choice, log entry 30 (R66, R129, R130, R131, R132, R134). -/
def Obligations.MusterCredits : Prop :=
  let left := fun p : Person => match p.muster with
    | .mustered k => k
    | .unrecorded => 0xFF
    | _ => 0xFE
  (∀ (s : State) (r : Request) (q : StationTap) (point : Nat), s.Tidy → s.MusterAgrees →
    StationOffer s 0x08 decodeStationTap r q → (s.stationEntry q.station).kind = .muster →
    (s.stationEntry q.station).enabled = true → (s.stationEntry q.station).binding = some point →
    let answers := fun (t : State) (reason : Result) (groups : StationGroups) =>
      exec (.musterTap r) s = .next t ∧ StationAnswered s t ⟨0x08, r.tag, reason, groups⟩
    (∀ reason, FirstFailing [(s.muster.active = false, .notActive), (s.store.state ≠ .opened, .powerFail)] (some reason) →
      ∃ t, answers t reason StationGroups.empty ∧ Keeps [.station] s t)
    ∧ (s.muster.active = true → s.store.state = .opened →
      (∀ reason i, s.decodeCard q.card = .failed reason i →
        ∃ t, answers t reason StationGroups.empty ∧ (reason = .futureCard → Raised s t MemberId.futureCard i)
          ∧ (reason ≠ .futureCard → Silent s t) ∧ Keeps [.station, .notices, .wake] s t)
      ∧ ∀ i p, s.decodeCard q.card = .passed i p →
        (p.muster = .mustered point →
          ∃ t, answers t .alreadyMustered { StationGroups.empty with muster := some (i, point, 0xFE) }
            ∧ Keeps [.station] s t)
        ∧ (p.muster ≠ .mustered point →
          ∃ t, answers t .mustered { StationGroups.empty with muster := some (i, point, left p) }
            ∧ Credited s t i point p
            ∧ Keeps [.station, .persons, .tally, .muster, .deadline, .notices, .wake, .store] s t)))
  ∧ ∀ (s : State) (r : Request) (i point : Nat), s.Tidy → s.MusterAgrees → HostOffer s 0x5A decodeMusterPerson r (i, point) →
    (∀ reason, FirstFailing [(s.muster.active = false, .notActive), (s.store.state ≠ .opened, .powerFail),
        (s.person i = none, .noRecord)] (some reason) →
      ∃ t, exec (.musterPerson r) s = .next t ∧ HostAnswered s t ⟨0x5A, r.tag, reason, []⟩ ∧ Keeps [.host] s t)
    ∧ ∀ p, s.muster.active = true → s.store.state = .opened → s.person i = some p →
      (p.muster = .mustered point →
        ∃ t, exec (.musterPerson r) s = .next t
          ∧ HostAnswered s t ⟨0x5A, r.tag, .alreadyMustered, [.b2 i, .b1 point, .b1 0]⟩ ∧ Keeps [.host] s t)
      ∧ (p.muster ≠ .mustered point →
        ∃ t, exec (.musterPerson r) s = .next t
          ∧ HostAnswered s t ⟨0x5A, r.tag, .mustered,
              [.b2 i, .b1 point] ++ (if p.muster.isMustered then [.b1 1, .b1 (left p)] else [.b1 0])⟩
          ∧ Credited s t i point p
          ∧ Keeps [.host, .persons, .tally, .muster, .deadline, .notices, .wake, .store] s t)

/-! ### Notices -/

/-- The host's messages on notices set a group's level (ALARM's is fixed), a member's enable and the service level, end the
notice last delivered, and acknowledge a member. A member's event makes its count one higher, up to 255, and sets its flag;
where the flag was clear its detail is captured and, with the member enabled, its group becomes pending; its enable, every other
member and every other group's pending flag stand, and so do the levels, the service level and the stack. NOTICE_FRAME_START
delivers, of the groups deliverable, the one of the highest level and then of the lowest number. NOTICE is a frame of kind 0x7E
and tag 0 whose body is the group, its level, the number of its members and a flag byte and a count byte for each, as section
11.7 lays it out. It is held back, and changes nothing, while the transmitter is busy, during start-up, while STARTED or a reply
waits, and while no group is deliverable: none pending at a level above 0 and above the service level (but for ALARM), the
service stack full, or the host ASLEEP. That the start of the frame is a command of its own, and no event where it is held back,
are the model's choices, log entries 17 and 15, and so is the OK of ACK_NOTICE, log entry 28 (R143, R144, R145, R147, R148,
R149, R150, R151, R152, R153, R175). -/
def Obligations.NoticeMessagesAndDelivery : Prop :=
  (∀ (s : State) (r : Request) (g level : Nat), s.Tidy → HostOffer s 0x60 decodeSetGroupLevel r (g, level) →
    (g = 0 → ∃ t, exec (.setGroupLevel r) s = .next t ∧ HostAnswered s t ⟨0x60, r.tag, .fixedLevel, []⟩
      ∧ Keeps [.host] s t)
    ∧ (g ≠ 0 → ∃ t, exec (.setGroupLevel r) s = .next t
      ∧ HostAnswered s t ⟨0x60, r.tag, .ok, [.b1 level, .b1 (if s.notices.isPending g then 1 else 0)]⟩
      ∧ (∀ k, t.notices.level k = if k = g then level else s.notices.level k)
      ∧ t.notices = { s.notices with levels := t.notices.levels } ∧ Keeps [.host, .notices] s t))
  ∧ (∀ (s : State) (r : Request) (g m : Nat) (enable : Bool), s.Tidy →
    HostOffer s 0x61 decodeSetMemberEnable r (g, m, enable) →
    let id : MemberId := ⟨g, m⟩
    ∃ t, exec (.setMemberEnable r) s = .next t
      ∧ HostAnswered s t ⟨0x61, r.tag, .ok,
          [.b1 (if enable then 1 else 0), .b1 (if (s.notices.member id).flag then 1 else 0)]⟩
      ∧ (∀ k : MemberId, t.notices.member k
          = if k.key = id.key then { s.notices.member id with enable } else s.notices.member k)
      ∧ (∀ k, t.notices.isPending k
          = if k = g then s.notices.isPending g || (enable && (s.notices.member id).flag) else s.notices.isPending k)
      ∧ t.notices = { s.notices with members := t.notices.members, pending := t.notices.pending }
      ∧ Keeps [.host, .notices] s t)
  ∧ (∀ (s : State) (r : Request) (level : Nat), HostOffer s 0x62 decodeServiceLevel r level →
    ∃ t, exec (.setServiceLevel r) s = .next t
      ∧ HostAnswered s t ⟨0x62, r.tag, .ok, [.b1 level, .b1 s.notices.stack.length]⟩
      ∧ t.notices = { s.notices with serviceLevel := level } ∧ Keeps [.host, .notices] s t)
  ∧ (∀ (s : State) (r : Request), HostOffer s 0x63 decodeEmpty r () →
    (s.notices.stack = [] →
      ∃ t, exec (.noticeDone r) s = .next t ∧ HostAnswered s t ⟨0x63, r.tag, .notInService, []⟩ ∧ Keeps [.host] s t)
    ∧ ∀ level rest, s.notices.stack = level :: rest →
      ∃ t, exec (.noticeDone r) s = .next t
        ∧ HostAnswered s t ⟨0x63, r.tag, .ok, [.b1 level, .b1 rest.length]⟩
        ∧ t.notices = { s.notices with serviceLevel := level, stack := rest } ∧ Keeps [.host, .notices] s t)
  ∧ (∀ (s : State) (r : Request) (g m : Nat), s.Tidy → HostOffer s 0x64 decodeAckNotice r (g, m) →
    let old := s.notices.member ⟨g, m⟩
    ∃ t, exec (.ackNotice r) s = .next t
      ∧ HostAnswered s t ⟨0x64, r.tag, .ok, [.b1 (if old.flag then 1 else 0), .b1 old.count, .b2 old.detail,
          .b1 (if s.notices.isPending g then 1 else 0)]⟩
      ∧ (∀ k : MemberId, t.notices.member k = if k.key = 16 * g + m then
          { flag := false, count := 0, detail := 0, enable := old.enable } else s.notices.member k)
      ∧ t.notices = { s.notices with members := t.notices.members } ∧ Keeps [.host, .notices] s t)
  ∧ (∀ (n : Notices) (m : MemberId) (detail : Nat), n.members.wf Member.reset → n.pending.wf false →
    let old := n.member m
    let after := n.raise m detail
    (∀ k : MemberId, after.member k = if k.key = m.key then
        { flag := true, count := min (old.count + 1) 255, detail := if old.flag = true then old.detail else detail
          enable := old.enable }
        else n.member k)
    ∧ (∀ g, after.isPending g = true ↔
        n.isPending g = true ∨ (g = m.group ∧ old.flag = false ∧ old.enable = true))
    ∧ after = { n with members := after.members, pending := after.pending })
  ∧ (∀ s : State, s.isStarting = true ∨ s.host.sending ≠ none ∨ s.host.started ≠ none ∨ s.host.replies ≠ []
      ∨ (∀ g < 10, ¬ s.mayDeliver g) →
    exec .noticeFrameStart s = .next s)
  ∧ (∀ (s : State) (g : Nat), s.Tidy → s.isStarting = false → s.host.sending = none → s.host.started = none →
    s.host.replies = [] → g < 10 → s.mayDeliver g →
    (∀ k < 10, s.mayDeliver k → s.notices.level k < s.notices.level g ∨ (s.notices.level k = s.notices.level g ∧ g ≤ k)) →
    ∃ t, exec .noticeFrameStart s = .next t
      ∧ t.host = { s.host with
          sending := some (noticeFrame g (s.notices.level g) ((List.range (membersOfGroup g)).map fun m =>
            s.notices.member ⟨g, m⟩)) }
      ∧ (∀ k, t.notices.isPending k = if k = g then false else s.notices.isPending k)
      ∧ t.notices = { s.notices with
          pending := t.notices.pending, serviceLevel := s.notices.level g
          stack := s.notices.serviceLevel :: s.notices.stack }
      ∧ Keeps [.host, .notices] s t)
  ∧ ((List.range 10).map membersOfGroup = [3, 4, 4, 4, 4, 5, 3, 5, 3, 9])
  ∧ ∀ (g level : Nat) (members : List Member),
    let pair := fun m : Member => natBytes 1 (if m.flag then 1 else 0) ++ natBytes 1 m.count
    let body := natBytes 1 g ++ natBytes 1 level ++ natBytes 1 members.length ++ members.flatMap pair
    noticeFrame g level members = { bytes := frameBytes 0x7E 0 body, resets := false }

/-! ### The retention store -/

/-- STORE_REWRITE marks every block that is not FAILED dirty, unless the store is UNUSABLE or not OPEN. An assertion of the
power-fail input while OPEN or REOPENING, and the one that start-up left due, begins CLOSING, with POWER_FAIL and every permit
cancelled; a release while CLOSING opens the store and while CLOSED begins REOPENING, with POWER_RESTORED and the live orderly
flag false. During start-up the level alone changes (R58, R160, R162, R166, R167). Each clause on the store ends in the writer's
turn, whose meaning WritesLandOrFault states. That a release taken while an assertion is due takes the assertion first is the
model's choice, log entry 9, and that POWER_FAIL counts the dirty set before the write that starts in the assertion's own event,
log entry 29. -/
def Obligations.StoreFollowsThePower : Prop :=
  (∀ (s : State) (r : Request), HostOffer s 0x68 decodeEmpty r () →
    (∀ reason, FirstFailing [(s.store.unusable = true, .storeUnusable), (s.store.state ≠ .opened, .powerFail)]
        (some reason) →
      ∃ t, exec (.storeRewrite r) s = .next t ∧ HostAnswered s t ⟨0x68, r.tag, reason, []⟩ ∧ Keeps [.host] s t)
    ∧ (s.store.unusable = false → s.store.state = .opened →
      ∃ t dirty, exec (.storeRewrite r) s = .next t
        ∧ HostAnswered s t ⟨0x68, r.tag, .ok, [.b1 dirty.length]⟩
        ∧ (∀ b, b ∈ dirty ↔ b ∈ s.store.dirty ∨ (b ≤ 128 ∧ s.store.isFailed b = false))
        ∧ (s.store.dirty.Pairwise (· < ·) → dirty.Pairwise (· < ·))
        ∧ t.store = ({ s.store with dirty }).turn (!t.isRunning) t.persons t.muster t.clock.mono
        ∧ Keeps [.host, .store] s t))
  ∧ (∀ s : State, s.Tidy → s.powerFailLevel = false →
    (s.phase = .running → s.store.state = .opened ∨ s.store.state = .reopening →
      ∃ t, exec .powerFailAssert s = .next t ∧ t.powerFailLevel = true
        ∧ t.unitAddressPins = s.unitAddressPins ∧ t.unitAddress = s.unitAddress
        ∧ t.store = ({ s.store with state := .closing, assertedAt := s.clock.mono }).turn
            (!t.isRunning) t.persons t.muster t.clock.mono
        ∧ (∀ i, ∃ permit, t.person i = (s.person i).map fun p => { p with gatePermit := permit })
        ∧ PermitsCancelled s t ∧ Raised s t MemberId.powerFail s.store.dirty.length
        ∧ Keeps [.pins, .persons, .lanes, .notices, .wake, .store] s t)
    ∧ (s.isStarting = true →
      ∃ t, exec .powerFailAssert s = .next t ∧ t.powerFailLevel = true
        ∧ t.unitAddressPins = s.unitAddressPins ∧ t.unitAddress = s.unitAddress ∧ Keeps [.pins] s t))
  ∧ (∀ s : State, s.Tidy → s.phase = .assertionDue →
    ∃ t, exec .powerFailAssert s = .next t ∧ t.phase = .running
      ∧ t.store = ({ s.store with state := .closing, assertedAt := s.clock.mono }).turn
          false t.persons t.muster t.clock.mono
      ∧ (∀ i, ∃ permit, t.person i = (s.person i).map fun p => { p with gatePermit := permit })
      ∧ PermitsCancelled s t ∧ Raised s t MemberId.powerFail s.store.dirty.length
      ∧ Keeps [.phase, .persons, .lanes, .notices, .wake, .store] s t
      ∧ (s.powerFailLevel = true → exec .powerFailRelease s = exec .powerFailRelease t))
  ∧ ∀ s : State, s.powerFailLevel = true →
    let released := fun (t : State) (now : StoreState) =>
      t.powerFailLevel = false ∧ t.unitAddressPins = s.unitAddressPins ∧ t.unitAddress = s.unitAddress
      ∧ t.store = ({ s.store.markWhen s.store.orderly 128 with state := now, orderly := false }).turn
          (!t.isRunning) t.persons t.muster t.clock.mono
      ∧ Keeps [.pins, .notices, .wake, .store] s t
    (s.phase = .running → s.store.state = .closing →
      ∃ t, exec .powerFailRelease s = .next t ∧ released t .opened ∧ Raised s t MemberId.powerRestored 0)
    ∧ (s.phase = .running → s.store.state = .closed →
      ∃ t, exec .powerFailRelease s = .next t ∧ released t .reopening ∧ Raised s t MemberId.powerRestored 1)
    ∧ (s.isStarting = true →
      ∃ t, exec .powerFailRelease s = .next t ∧ t.powerFailLevel = false
        ∧ t.unitAddressPins = s.unitAddressPins ∧ t.unitAddress = s.unitAddress ∧ Keeps [.pins] s t)

/-- A write completes. With agreement its copy stands in the block, the fault count is 0, a closing write closes the store and a
reopening write opens it. With disagreement the block fails its check, the fault is counted and reported, and the block rejoins
the dirty set below a third fault; at the third a person block becomes FAILED, which is reported too, and is listed, or, with the list full or for the
control block, the store becomes UNUSABLE; a fault raises no other notice. During start-up a good control block write
ends start-up, the store OPEN, no notice raised (but STORE_CLOSED by a closing write, which no start-up has), the STARTED frame queued and, with the power-fail input at the warning level, an assertion due; one that disagrees is
started again in the same event, and the third fault makes the store UNUSABLE and ends start-up in the same way (R157, R158,
R159, R161, R162, R166). The operands of the command are the model's choice, log entry 22, and that the completion brings
monotonic time to its own moment, log entry 7. That a FAILED block leaves the dirty set is its inference, log entry 18, and so
is the mark of the control block, log entry 19.

Every event ends with the writer's turn, and every clause on the store ends in it (R157). While a write is in flight nothing
starts. Otherwise the control block is taken first, with the live control facts; else, of the dirty person blocks, the lowest
above the one last written, wrapping round to the lowest, with the retained fields of its records. No person block is taken
while they wait (`waits`), as they do in the events of start-up and in the one that ends it, nor by a store that is UNUSABLE,
which takes the control block once more where a person block failed with the list full, and then nothing (R157, R159). A drained
CLOSING store begins its closing write, the live orderly flag true (R155, R161). -/
def Obligations.WritesLandOrFault : Prop :=
  (∀ (s : State) (f : Flight) (d : Nat), s.Tidy → s.store.inFlight = some f → 1 ≤ d → d ≤ 8 →
    let wrote : Store := { s.store with inFlight := none }
    let ends := fun (t : State) (u : Store) =>
      t.store = u.turn (!t.isRunning || s.isStarting) t.persons t.muster t.clock.mono
    let plainly := fun (t : State) => AtTime s t (f.startedAt + d) ∧ t.phase = s.phase
      ∧ Keeps [.clock, .phase, .notices, .wake, .store] s t
    let goodFaults := s.store.faults.write 0 f.block 0
    let faults := s.store.faultCount f.block + 1
    let badFaults := s.store.faults.write 0 f.block faults
    let stops := if s.store.writer = .lastOwed ∧ f.block = 128 then Writer.stopped else s.store.writer
    (∀ l, s.isStarting = false → f.copy = .person l →
      ∃ t, exec (.storeWriteComplete d true) s = .next t ∧ plainly t ∧ Silent s t
        ∧ ends t { wrote with
            blocks := s.store.blocks.write .erased f.block (.entries l), lastWritten := f.block, faults := goodFaults
            writer := stops })
    ∧ (∀ facts, s.isStarting = false → f.copy = .control facts →
      let closes := s.store.state = .closing ∧ facts.orderly = true ∧ s.store.dirty = [] ∧ s.store.unusable = false
      let reopens := s.store.state = .reopening ∧ facts.orderly = false
      ∃ t now, exec (.storeWriteComplete d true) s = .next t ∧ plainly t
        ∧ (closes → now = .closed
            ∧ Raised s t MemberId.storeClosed (min (t.clock.mono - s.store.assertedAt) 65535))
        ∧ (reopens → now = .opened) ∧ (¬ closes → ¬ reopens → now = s.store.state) ∧ (¬ closes → Silent s t)
        ∧ ends t { wrote with control := .written true facts, faults := goodFaults, state := now, writer := stops })
    ∧ (s.isStarting = false → ∃ t landed,
        exec (.storeWriteComplete d false) s = .next t ∧ plainly t
        ∧ ((∃ l, f.copy = .person l) → landed = { wrote with
            blocks := s.store.blocks.write .erased f.block .failing, lastWritten := f.block, faults := badFaults })
        ∧ ((∃ facts, f.copy = .control facts) → landed = { wrote with control := .failing, faults := badFaults })
        ∧ (faults < 3 → Raised s t MemberId.storeFault f.block
            ∧ ends t { landed.markWhen true f.block with writer := stops })
        ∧ (3 ≤ faults → f.block ≠ 128 → s.store.failedList.length < 8 →
            ends t (({ landed with
              dirty := s.store.dirty.erase f.block, failedList := s.store.failedList ++ [f.block] }).markWhen true 128))
        ∧ (3 ≤ faults → f.block ≠ 128 → 8 ≤ s.store.failedList.length → ∃ u : Store,
            u = { landed with dirty := s.store.dirty.erase f.block, unlistedFailed := some f.block }
            ∧ ends t { u.markWhen (!s.store.unusable) 128 with
                unusable := true, writer := .lastOwed
                state := if s.store.state = .reopening then .opened else s.store.state })
        ∧ (3 ≤ faults → f.block = 128 → Raised s t MemberId.storeFault 128
            ∧ ends t { landed.markWhen (!s.store.unusable) 128 with
                unusable := true, writer := .stopped
                state := if s.store.state = .reopening then .opened else s.store.state })
        ∧ (3 ≤ faults → f.block ≠ 128 →
            RaisedAll s t [(MemberId.storeFault, f.block), (MemberId.storeBlockFailed, f.block)]))
    ∧ ∀ report facts, s.phase = .starting report → f.copy = .control facts →
      let ended := fun (t : State) (unusable : Bool) => AtTime s t (f.startedAt + d)
        ∧ t.phase = (if s.powerFailLevel then .assertionDue else .running)
        ∧ { t.host with wake := s.host.wake } = { s.host with started := some { report with unusable } }
        ∧ Keeps [.clock, .phase, .notices, .wake, .host, .store] s t
      let failing : Store := { wrote with control := .failing, faults := badFaults }
      (∃ t, exec (.storeWriteComplete d true) s = .next t ∧ ended t s.store.unusable
        ∧ RaisedAll s t (eventIf (s.store.state = .closing ∧ facts.orderly = true ∧ s.store.dirty = []
            ∧ s.store.unusable = false) MemberId.storeClosed (min (t.clock.mono - s.store.assertedAt) 65535))
        ∧ ends t { wrote with control := .written true facts, faults := goodFaults, writer := stops, state := .opened })
      ∧ (f.block = 128 → s.store.unusable = false → faults < 3 →
        ∃ t, exec (.storeWriteComplete d false) s = .next t ∧ plainly t ∧ Raised s t MemberId.storeFault 128
          ∧ ends t { failing.markWhen true 128 with writer := stops }
          ∧ (s.store.writer = .normal → s.store.isFailed 128 = false →
              t.store.inFlight = some ⟨128, t.clock.mono, .control (t.store.liveFacts t.muster)⟩))
      ∧ (f.block = 128 → 3 ≤ faults →
        ∃ t, exec (.storeWriteComplete d false) s = .next t ∧ ended t true ∧ Raised s t MemberId.storeFault 128
          ∧ ends t { failing.markWhen (!s.store.unusable) 128 with
              unusable := true, writer := .stopped, state := .opened }))
  ∧ ∀ (waits : Bool) (persons : Table (Option Person)) (m : Muster) (now : Nat) (t : Store),
    let turned := t.turn waits persons m now
    let drained := waits = false ∧ t.state = .closing ∧ t.dirty = [] ∧ t.inFlight = none ∧ t.orderly = false
      ∧ t.unusable = false
    let facts : ControlFacts :=
      { boot := t.boot, musterActive := m.active, musterId := m.id, orderly := t.orderly, failedList := t.failedList
        unusable := t.unusable }
    let starts := fun (b : Nat) (copy : Copy) =>
      turned = { t with dirty := t.dirty.erase b, inFlight := some ⟨b, now, copy⟩ }
    (t.inFlight ≠ none → turned = t)
    ∧ (t.dirty = [] → ¬ drained → turned = t)
    ∧ (t.writer = .stopped → ¬ drained → turned = t)
    ∧ (t.inFlight = none → 128 ∉ t.dirty → t.dirty ≠ [] → waits = true ∨ t.writer ≠ .normal → turned = t)
    ∧ (t.inFlight = none → 128 ∈ t.dirty → t.writer ≠ .stopped → starts 128 (.control facts))
    ∧ (t.inFlight = none → 128 ∉ t.dirty → waits = false → t.writer = .normal → t.dirty.Pairwise (· < ·) →
        ∀ b ∈ t.dirty, (t.lastWritten < b ∧ ∀ c ∈ t.dirty, t.lastWritten < c → b ≤ c)
            ∨ (∀ c ∈ t.dirty, c ≤ t.lastWritten ∧ b ≤ c) →
          starts b (.person (personCopy persons b)))
    ∧ (drained → t.writer = .normal → turned = { t with
        orderly := true, inFlight := some ⟨128, now, .control { facts with orderly := true }⟩ })
    ∧ ∀ b, persons.wf none → EntriesOf b (personCopy persons b)
      ∧ ∀ i e, (i, e) ∈ personCopy persons b ↔ blockOf i = b ∧ ∃ p, persons.read none i = some p
          ∧ e.cls = p.cls ∧ e.generation = p.generation ∧ e.location = p.location
          ∧ (e.mustered = true ↔ p.muster = .unrecorded ∨ ∃ k, p.muster = .mustered k)

/-! ### What every step keeps -/

/-- Every step keeps the tables of the state canonical, the queues and counts within their capacities, and the notice levels
in range (R62, R113, R119, R141, R142, R146, R151, R170, R171). -/
def Obligations.StepsKeepTablesAndCapacities : Prop :=
  ∀ s t : State, step s = .next t →
    (s.Tidy → t.Tidy) ∧ (s.WithinCapacity → t.WithinCapacity) ∧ (s.LevelsInRange → t.LevelsInRange)

/-- Every step keeps the tally counts equal to the numbers of records of each class and location (R21), every record well
formed (R6, R8), and every occupant count the number of records naming the cabin, at most 8 (R14). -/
def Obligations.StepsKeepThePersonTableAgreed : Prop :=
  ∀ s t : State, step s = .next t →
    (s.TallyAgrees → t.TallyAgrees) ∧ (s.RecordsWellFormed → t.RecordsWellFormed) ∧ (s.OccupantsAgree → t.OccupantsAgree)

/-- Every step keeps each gate permit field in agreement with the permit queues, and lets no permit stand while a muster is
ACTIVE or the store is not OPEN (R51, R54, R58). -/
def Obligations.StepsKeepPermitsAgreed : Prop :=
  ∀ s t : State, step s = .next t →
    (s.PermitsHeldBack → t.PermitsHeldBack) ∧ (s.PermitsHeldBack → s.PermitsAgree → t.PermitsAgree)

/-- Every step keeps the muster counts and sweep counts equal to the records and cabins they count, and those in agreement
with whether a muster is ACTIVE (R127). -/
def Obligations.StepsKeepTheMusterAgreed : Prop :=
  ∀ s t : State, s.MusterAgrees → step s = .next t → t.MusterAgrees

/-- Every step keeps each account's held total equal to the sum of its OPEN holds and its unposted total equal to the sum of
its journal entries (R103, R113). -/
def Obligations.StepsKeepAccountsAgreed : Prop :=
  ∀ s t : State, s.AccountsAgree → step s = .next t → t.AccountsAgree

/-- Every step keeps the store faithful: each person block that is neither dirty nor FAILED holds, or is being written with,
the retained fields of its records, a CLOSED store is drained, and the dirty set holds block numbers 0 to 128 without repeats, in
ascending order (the order is the model's form of the set). While the store is not OPEN no retained field changes, but
by a reset (R6, R156, R157, R160, R161). -/
def Obligations.StepsKeepTheStoreFaithful : Prop :=
  (∀ s t : State, s.StoreFaithful → step s = .next t → t.StoreFaithful)
  ∧ ∀ (c : Instr) (s t : State), s.PermitsHeldBack → s.persons.wf none → s.store.state ≠ .opened →
      restarts c s = false → exec c s = .next t → ∀ i, retained (t.person i) = retained (s.person i)
end

