-- ==== Sys2Proof/Laws/State.lean ====
section
/-!
SUPPORT. What each shared update of the state leaves in each field: one lemma per field per update, so that no later
proof unfolds a record update.
-/

namespace Sys2Proof.Machine

variable (s : State)

/-! ### State.putCabin -/

@[simp] theorem State.putCabin_pending (c : Nat) (v : Cabin) : (s.putCabin c v).pending = s.pending := rfl
@[simp] theorem State.putCabin_phase (c : Nat) (v : Cabin) : (s.putCabin c v).phase = s.phase := rfl
@[simp] theorem State.putCabin_isStarting (c : Nat) (v : Cabin) : (s.putCabin c v).isStarting = s.isStarting := rfl
@[simp] theorem State.putCabin_isRunning (c : Nat) (v : Cabin) : (s.putCabin c v).isRunning = s.isRunning := rfl
@[simp] theorem State.putCabin_unitAddressPins (c : Nat) (v : Cabin) : (s.putCabin c v).unitAddressPins = s.unitAddressPins := rfl
@[simp] theorem State.putCabin_unitAddress (c : Nat) (v : Cabin) : (s.putCabin c v).unitAddress = s.unitAddress := rfl
@[simp] theorem State.putCabin_powerFailLevel (c : Nat) (v : Cabin) : (s.putCabin c v).powerFailLevel = s.powerFailLevel := rfl
@[simp] theorem State.putCabin_clock (c : Nat) (v : Cabin) : (s.putCabin c v).clock = s.clock := rfl
@[simp] theorem State.putCabin_decoders (c : Nat) (v : Cabin) : (s.putCabin c v).decoders = s.decoders := rfl
@[simp] theorem State.putCabin_persons (c : Nat) (v : Cabin) : (s.putCabin c v).persons = s.persons := rfl
@[simp] theorem State.putCabin_tally (c : Nat) (v : Cabin) : (s.putCabin c v).tally = s.tally := rfl
@[simp] theorem State.putCabin_tallySequence (c : Nat) (v : Cabin) : (s.putCabin c v).tallySequence = s.tallySequence := rfl
@[simp] theorem State.putCabin_stations (c : Nat) (v : Cabin) : (s.putCabin c v).stations = s.stations := rfl
@[simp] theorem State.putCabin_lanes (c : Nat) (v : Cabin) : (s.putCabin c v).lanes = s.lanes := rfl
@[simp] theorem State.putCabin_deadline (c : Nat) (v : Cabin) : (s.putCabin c v).deadline = s.deadline := rfl
@[simp] theorem State.putCabin_deadlineArrived (c : Nat) (v : Cabin) : (s.putCabin c v).deadlineArrived = s.deadlineArrived := rfl
@[simp] theorem State.putCabin_guestsReported (c : Nat) (v : Cabin) : (s.putCabin c v).guestsReported = s.guestsReported := rfl
@[simp] theorem State.putCabin_movementLog (c : Nat) (v : Cabin) : (s.putCabin c v).movementLog = s.movementLog := rfl
@[simp] theorem State.putCabin_discardCount (c : Nat) (v : Cabin) : (s.putCabin c v).discardCount = s.discardCount := rfl
@[simp] theorem State.putCabin_cabins (c : Nat) (v : Cabin) : (s.putCabin c v).cabins = (s.cabins.write Cabin.reset c v) := rfl
@[simp] theorem State.putCabin_doorSettings (c : Nat) (v : Cabin) : (s.putCabin c v).doorSettings = s.doorSettings := rfl
@[simp] theorem State.putCabin_outlets (c : Nat) (v : Cabin) : (s.putCabin c v).outlets = s.outlets := rfl
@[simp] theorem State.putCabin_slots (c : Nat) (v : Cabin) : (s.putCabin c v).slots = s.slots := rfl
@[simp] theorem State.putCabin_journal (c : Nat) (v : Cabin) : (s.putCabin c v).journal = s.journal := rfl
@[simp] theorem State.putCabin_allowance (c : Nat) (v : Cabin) : (s.putCabin c v).allowance = s.allowance := rfl
@[simp] theorem State.putCabin_nextCharge (c : Nat) (v : Cabin) : (s.putCabin c v).nextCharge = s.nextCharge := rfl
@[simp] theorem State.putCabin_journalFullReported (c : Nat) (v : Cabin) : (s.putCabin c v).journalFullReported = s.journalFullReported := rfl
@[simp] theorem State.putCabin_muster (c : Nat) (v : Cabin) : (s.putCabin c v).muster = s.muster := rfl
@[simp] theorem State.putCabin_notices (c : Nat) (v : Cabin) : (s.putCabin c v).notices = s.notices := rfl
@[simp] theorem State.putCabin_host (c : Nat) (v : Cabin) : (s.putCabin c v).host = s.host := rfl
@[simp] theorem State.putCabin_station (c : Nat) (v : Cabin) : (s.putCabin c v).station = s.station := rfl
@[simp] theorem State.putCabin_store (c : Nat) (v : Cabin) : (s.putCabin c v).store = s.store := rfl
@[simp] theorem State.putCabin_freeIndex (c : Nat) (v : Cabin) : (s.putCabin c v).freeIndex = s.freeIndex := rfl

/-! ### State.putLane -/

@[simp] theorem State.putLane_pending (l : Nat) (v : Lane) : (s.putLane l v).pending = s.pending := rfl
@[simp] theorem State.putLane_phase (l : Nat) (v : Lane) : (s.putLane l v).phase = s.phase := rfl
@[simp] theorem State.putLane_isStarting (l : Nat) (v : Lane) : (s.putLane l v).isStarting = s.isStarting := rfl
@[simp] theorem State.putLane_isRunning (l : Nat) (v : Lane) : (s.putLane l v).isRunning = s.isRunning := rfl
@[simp] theorem State.putLane_unitAddressPins (l : Nat) (v : Lane) : (s.putLane l v).unitAddressPins = s.unitAddressPins := rfl
@[simp] theorem State.putLane_unitAddress (l : Nat) (v : Lane) : (s.putLane l v).unitAddress = s.unitAddress := rfl
@[simp] theorem State.putLane_powerFailLevel (l : Nat) (v : Lane) : (s.putLane l v).powerFailLevel = s.powerFailLevel := rfl
@[simp] theorem State.putLane_clock (l : Nat) (v : Lane) : (s.putLane l v).clock = s.clock := rfl
@[simp] theorem State.putLane_decoders (l : Nat) (v : Lane) : (s.putLane l v).decoders = s.decoders := rfl
@[simp] theorem State.putLane_persons (l : Nat) (v : Lane) : (s.putLane l v).persons = s.persons := rfl
@[simp] theorem State.putLane_tally (l : Nat) (v : Lane) : (s.putLane l v).tally = s.tally := rfl
@[simp] theorem State.putLane_tallySequence (l : Nat) (v : Lane) : (s.putLane l v).tallySequence = s.tallySequence := rfl
@[simp] theorem State.putLane_stations (l : Nat) (v : Lane) : (s.putLane l v).stations = s.stations := rfl
@[simp] theorem State.putLane_lanes (l : Nat) (v : Lane) : (s.putLane l v).lanes = (s.lanes.write Lane.reset l v) := rfl
@[simp] theorem State.putLane_deadline (l : Nat) (v : Lane) : (s.putLane l v).deadline = s.deadline := rfl
@[simp] theorem State.putLane_deadlineArrived (l : Nat) (v : Lane) : (s.putLane l v).deadlineArrived = s.deadlineArrived := rfl
@[simp] theorem State.putLane_guestsReported (l : Nat) (v : Lane) : (s.putLane l v).guestsReported = s.guestsReported := rfl
@[simp] theorem State.putLane_movementLog (l : Nat) (v : Lane) : (s.putLane l v).movementLog = s.movementLog := rfl
@[simp] theorem State.putLane_discardCount (l : Nat) (v : Lane) : (s.putLane l v).discardCount = s.discardCount := rfl
@[simp] theorem State.putLane_cabins (l : Nat) (v : Lane) : (s.putLane l v).cabins = s.cabins := rfl
@[simp] theorem State.putLane_doorSettings (l : Nat) (v : Lane) : (s.putLane l v).doorSettings = s.doorSettings := rfl
@[simp] theorem State.putLane_outlets (l : Nat) (v : Lane) : (s.putLane l v).outlets = s.outlets := rfl
@[simp] theorem State.putLane_slots (l : Nat) (v : Lane) : (s.putLane l v).slots = s.slots := rfl
@[simp] theorem State.putLane_journal (l : Nat) (v : Lane) : (s.putLane l v).journal = s.journal := rfl
@[simp] theorem State.putLane_allowance (l : Nat) (v : Lane) : (s.putLane l v).allowance = s.allowance := rfl
@[simp] theorem State.putLane_nextCharge (l : Nat) (v : Lane) : (s.putLane l v).nextCharge = s.nextCharge := rfl
@[simp] theorem State.putLane_journalFullReported (l : Nat) (v : Lane) : (s.putLane l v).journalFullReported = s.journalFullReported := rfl
@[simp] theorem State.putLane_muster (l : Nat) (v : Lane) : (s.putLane l v).muster = s.muster := rfl
@[simp] theorem State.putLane_notices (l : Nat) (v : Lane) : (s.putLane l v).notices = s.notices := rfl
@[simp] theorem State.putLane_host (l : Nat) (v : Lane) : (s.putLane l v).host = s.host := rfl
@[simp] theorem State.putLane_station (l : Nat) (v : Lane) : (s.putLane l v).station = s.station := rfl
@[simp] theorem State.putLane_store (l : Nat) (v : Lane) : (s.putLane l v).store = s.store := rfl
@[simp] theorem State.putLane_freeIndex (l : Nat) (v : Lane) : (s.putLane l v).freeIndex = s.freeIndex := rfl

/-! ### State.putSlot -/

@[simp] theorem State.putSlot_pending (k : Nat) (v : Slot) : (s.putSlot k v).pending = s.pending := rfl
@[simp] theorem State.putSlot_phase (k : Nat) (v : Slot) : (s.putSlot k v).phase = s.phase := rfl
@[simp] theorem State.putSlot_isStarting (k : Nat) (v : Slot) : (s.putSlot k v).isStarting = s.isStarting := rfl
@[simp] theorem State.putSlot_isRunning (k : Nat) (v : Slot) : (s.putSlot k v).isRunning = s.isRunning := rfl
@[simp] theorem State.putSlot_unitAddressPins (k : Nat) (v : Slot) : (s.putSlot k v).unitAddressPins = s.unitAddressPins := rfl
@[simp] theorem State.putSlot_unitAddress (k : Nat) (v : Slot) : (s.putSlot k v).unitAddress = s.unitAddress := rfl
@[simp] theorem State.putSlot_powerFailLevel (k : Nat) (v : Slot) : (s.putSlot k v).powerFailLevel = s.powerFailLevel := rfl
@[simp] theorem State.putSlot_clock (k : Nat) (v : Slot) : (s.putSlot k v).clock = s.clock := rfl
@[simp] theorem State.putSlot_decoders (k : Nat) (v : Slot) : (s.putSlot k v).decoders = s.decoders := rfl
@[simp] theorem State.putSlot_persons (k : Nat) (v : Slot) : (s.putSlot k v).persons = s.persons := rfl
@[simp] theorem State.putSlot_tally (k : Nat) (v : Slot) : (s.putSlot k v).tally = s.tally := rfl
@[simp] theorem State.putSlot_tallySequence (k : Nat) (v : Slot) : (s.putSlot k v).tallySequence = s.tallySequence := rfl
@[simp] theorem State.putSlot_stations (k : Nat) (v : Slot) : (s.putSlot k v).stations = s.stations := rfl
@[simp] theorem State.putSlot_lanes (k : Nat) (v : Slot) : (s.putSlot k v).lanes = s.lanes := rfl
@[simp] theorem State.putSlot_deadline (k : Nat) (v : Slot) : (s.putSlot k v).deadline = s.deadline := rfl
@[simp] theorem State.putSlot_deadlineArrived (k : Nat) (v : Slot) : (s.putSlot k v).deadlineArrived = s.deadlineArrived := rfl
@[simp] theorem State.putSlot_guestsReported (k : Nat) (v : Slot) : (s.putSlot k v).guestsReported = s.guestsReported := rfl
@[simp] theorem State.putSlot_movementLog (k : Nat) (v : Slot) : (s.putSlot k v).movementLog = s.movementLog := rfl
@[simp] theorem State.putSlot_discardCount (k : Nat) (v : Slot) : (s.putSlot k v).discardCount = s.discardCount := rfl
@[simp] theorem State.putSlot_cabins (k : Nat) (v : Slot) : (s.putSlot k v).cabins = s.cabins := rfl
@[simp] theorem State.putSlot_doorSettings (k : Nat) (v : Slot) : (s.putSlot k v).doorSettings = s.doorSettings := rfl
@[simp] theorem State.putSlot_outlets (k : Nat) (v : Slot) : (s.putSlot k v).outlets = s.outlets := rfl
@[simp] theorem State.putSlot_slots (k : Nat) (v : Slot) : (s.putSlot k v).slots = (s.slots.write Slot.reset k v) := rfl
@[simp] theorem State.putSlot_journal (k : Nat) (v : Slot) : (s.putSlot k v).journal = s.journal := rfl
@[simp] theorem State.putSlot_allowance (k : Nat) (v : Slot) : (s.putSlot k v).allowance = s.allowance := rfl
@[simp] theorem State.putSlot_nextCharge (k : Nat) (v : Slot) : (s.putSlot k v).nextCharge = s.nextCharge := rfl
@[simp] theorem State.putSlot_journalFullReported (k : Nat) (v : Slot) : (s.putSlot k v).journalFullReported = s.journalFullReported := rfl
@[simp] theorem State.putSlot_muster (k : Nat) (v : Slot) : (s.putSlot k v).muster = s.muster := rfl
@[simp] theorem State.putSlot_notices (k : Nat) (v : Slot) : (s.putSlot k v).notices = s.notices := rfl
@[simp] theorem State.putSlot_host (k : Nat) (v : Slot) : (s.putSlot k v).host = s.host := rfl
@[simp] theorem State.putSlot_station (k : Nat) (v : Slot) : (s.putSlot k v).station = s.station := rfl
@[simp] theorem State.putSlot_store (k : Nat) (v : Slot) : (s.putSlot k v).store = s.store := rfl
@[simp] theorem State.putSlot_freeIndex (k : Nat) (v : Slot) : (s.putSlot k v).freeIndex = s.freeIndex := rfl

/-! ### State.advanceTo -/

@[simp] theorem State.advanceTo_pending (t : Nat) : (s.advanceTo t).pending = s.pending := rfl
@[simp] theorem State.advanceTo_phase (t : Nat) : (s.advanceTo t).phase = s.phase := rfl
@[simp] theorem State.advanceTo_isStarting (t : Nat) : (s.advanceTo t).isStarting = s.isStarting := rfl
@[simp] theorem State.advanceTo_isRunning (t : Nat) : (s.advanceTo t).isRunning = s.isRunning := rfl
@[simp] theorem State.advanceTo_unitAddressPins (t : Nat) : (s.advanceTo t).unitAddressPins = s.unitAddressPins := rfl
@[simp] theorem State.advanceTo_unitAddress (t : Nat) : (s.advanceTo t).unitAddress = s.unitAddress := rfl
@[simp] theorem State.advanceTo_powerFailLevel (t : Nat) : (s.advanceTo t).powerFailLevel = s.powerFailLevel := rfl
@[simp] theorem State.advanceTo_clock (t : Nat) : (s.advanceTo t).clock = ({ s.clock with mono := max s.clock.mono (min t maxMono) }) := rfl
@[simp] theorem State.advanceTo_decoders (t : Nat) : (s.advanceTo t).decoders = s.decoders := rfl
@[simp] theorem State.advanceTo_persons (t : Nat) : (s.advanceTo t).persons = s.persons := rfl
@[simp] theorem State.advanceTo_tally (t : Nat) : (s.advanceTo t).tally = s.tally := rfl
@[simp] theorem State.advanceTo_tallySequence (t : Nat) : (s.advanceTo t).tallySequence = s.tallySequence := rfl
@[simp] theorem State.advanceTo_stations (t : Nat) : (s.advanceTo t).stations = s.stations := rfl
@[simp] theorem State.advanceTo_lanes (t : Nat) : (s.advanceTo t).lanes = s.lanes := rfl
@[simp] theorem State.advanceTo_deadline (t : Nat) : (s.advanceTo t).deadline = s.deadline := rfl
@[simp] theorem State.advanceTo_deadlineArrived (t : Nat) : (s.advanceTo t).deadlineArrived = s.deadlineArrived := rfl
@[simp] theorem State.advanceTo_guestsReported (t : Nat) : (s.advanceTo t).guestsReported = s.guestsReported := rfl
@[simp] theorem State.advanceTo_movementLog (t : Nat) : (s.advanceTo t).movementLog = s.movementLog := rfl
@[simp] theorem State.advanceTo_discardCount (t : Nat) : (s.advanceTo t).discardCount = s.discardCount := rfl
@[simp] theorem State.advanceTo_cabins (t : Nat) : (s.advanceTo t).cabins = s.cabins := rfl
@[simp] theorem State.advanceTo_doorSettings (t : Nat) : (s.advanceTo t).doorSettings = s.doorSettings := rfl
@[simp] theorem State.advanceTo_outlets (t : Nat) : (s.advanceTo t).outlets = s.outlets := rfl
@[simp] theorem State.advanceTo_slots (t : Nat) : (s.advanceTo t).slots = s.slots := rfl
@[simp] theorem State.advanceTo_journal (t : Nat) : (s.advanceTo t).journal = s.journal := rfl
@[simp] theorem State.advanceTo_allowance (t : Nat) : (s.advanceTo t).allowance = s.allowance := rfl
@[simp] theorem State.advanceTo_nextCharge (t : Nat) : (s.advanceTo t).nextCharge = s.nextCharge := rfl
@[simp] theorem State.advanceTo_journalFullReported (t : Nat) : (s.advanceTo t).journalFullReported = s.journalFullReported := rfl
@[simp] theorem State.advanceTo_muster (t : Nat) : (s.advanceTo t).muster = s.muster := rfl
@[simp] theorem State.advanceTo_notices (t : Nat) : (s.advanceTo t).notices = s.notices := rfl
@[simp] theorem State.advanceTo_host (t : Nat) : (s.advanceTo t).host = s.host := rfl
@[simp] theorem State.advanceTo_station (t : Nat) : (s.advanceTo t).station = s.station := rfl
@[simp] theorem State.advanceTo_store (t : Nat) : (s.advanceTo t).store = s.store := rfl
@[simp] theorem State.advanceTo_freeIndex (t : Nat) : (s.advanceTo t).freeIndex = s.freeIndex := rfl

/-! ### State.markControl -/

@[simp] theorem State.markControl_pending : (s.markControl).pending = s.pending := rfl
@[simp] theorem State.markControl_phase : (s.markControl).phase = s.phase := rfl
@[simp] theorem State.markControl_isStarting : (s.markControl).isStarting = s.isStarting := rfl
@[simp] theorem State.markControl_isRunning : (s.markControl).isRunning = s.isRunning := rfl
@[simp] theorem State.markControl_unitAddressPins : (s.markControl).unitAddressPins = s.unitAddressPins := rfl
@[simp] theorem State.markControl_unitAddress : (s.markControl).unitAddress = s.unitAddress := rfl
@[simp] theorem State.markControl_powerFailLevel : (s.markControl).powerFailLevel = s.powerFailLevel := rfl
@[simp] theorem State.markControl_clock : (s.markControl).clock = s.clock := rfl
@[simp] theorem State.markControl_decoders : (s.markControl).decoders = s.decoders := rfl
@[simp] theorem State.markControl_persons : (s.markControl).persons = s.persons := rfl
@[simp] theorem State.markControl_tally : (s.markControl).tally = s.tally := rfl
@[simp] theorem State.markControl_tallySequence : (s.markControl).tallySequence = s.tallySequence := rfl
@[simp] theorem State.markControl_stations : (s.markControl).stations = s.stations := rfl
@[simp] theorem State.markControl_lanes : (s.markControl).lanes = s.lanes := rfl
@[simp] theorem State.markControl_deadline : (s.markControl).deadline = s.deadline := rfl
@[simp] theorem State.markControl_deadlineArrived : (s.markControl).deadlineArrived = s.deadlineArrived := rfl
@[simp] theorem State.markControl_guestsReported : (s.markControl).guestsReported = s.guestsReported := rfl
@[simp] theorem State.markControl_movementLog : (s.markControl).movementLog = s.movementLog := rfl
@[simp] theorem State.markControl_discardCount : (s.markControl).discardCount = s.discardCount := rfl
@[simp] theorem State.markControl_cabins : (s.markControl).cabins = s.cabins := rfl
@[simp] theorem State.markControl_doorSettings : (s.markControl).doorSettings = s.doorSettings := rfl
@[simp] theorem State.markControl_outlets : (s.markControl).outlets = s.outlets := rfl
@[simp] theorem State.markControl_slots : (s.markControl).slots = s.slots := rfl
@[simp] theorem State.markControl_journal : (s.markControl).journal = s.journal := rfl
@[simp] theorem State.markControl_allowance : (s.markControl).allowance = s.allowance := rfl
@[simp] theorem State.markControl_nextCharge : (s.markControl).nextCharge = s.nextCharge := rfl
@[simp] theorem State.markControl_journalFullReported : (s.markControl).journalFullReported = s.journalFullReported := rfl
@[simp] theorem State.markControl_muster : (s.markControl).muster = s.muster := rfl
@[simp] theorem State.markControl_notices : (s.markControl).notices = s.notices := rfl
@[simp] theorem State.markControl_host : (s.markControl).host = s.host := rfl
@[simp] theorem State.markControl_station : (s.markControl).station = s.station := rfl
@[simp] theorem State.markControl_store : (s.markControl).store = (s.store.markWhen true controlBlock) := rfl
@[simp] theorem State.markControl_freeIndex : (s.markControl).freeIndex = s.freeIndex := rfl

/-! ### State.writerTurn -/

@[simp] theorem State.writerTurn_pending : (s.writerTurn).pending = s.pending := rfl
@[simp] theorem State.writerTurn_phase : (s.writerTurn).phase = s.phase := rfl
@[simp] theorem State.writerTurn_isStarting : (s.writerTurn).isStarting = s.isStarting := rfl
@[simp] theorem State.writerTurn_isRunning : (s.writerTurn).isRunning = s.isRunning := rfl
@[simp] theorem State.writerTurn_unitAddressPins : (s.writerTurn).unitAddressPins = s.unitAddressPins := rfl
@[simp] theorem State.writerTurn_unitAddress : (s.writerTurn).unitAddress = s.unitAddress := rfl
@[simp] theorem State.writerTurn_powerFailLevel : (s.writerTurn).powerFailLevel = s.powerFailLevel := rfl
@[simp] theorem State.writerTurn_clock : (s.writerTurn).clock = s.clock := rfl
@[simp] theorem State.writerTurn_decoders : (s.writerTurn).decoders = s.decoders := rfl
@[simp] theorem State.writerTurn_persons : (s.writerTurn).persons = s.persons := rfl
@[simp] theorem State.writerTurn_tally : (s.writerTurn).tally = s.tally := rfl
@[simp] theorem State.writerTurn_tallySequence : (s.writerTurn).tallySequence = s.tallySequence := rfl
@[simp] theorem State.writerTurn_stations : (s.writerTurn).stations = s.stations := rfl
@[simp] theorem State.writerTurn_lanes : (s.writerTurn).lanes = s.lanes := rfl
@[simp] theorem State.writerTurn_deadline : (s.writerTurn).deadline = s.deadline := rfl
@[simp] theorem State.writerTurn_deadlineArrived : (s.writerTurn).deadlineArrived = s.deadlineArrived := rfl
@[simp] theorem State.writerTurn_guestsReported : (s.writerTurn).guestsReported = s.guestsReported := rfl
@[simp] theorem State.writerTurn_movementLog : (s.writerTurn).movementLog = s.movementLog := rfl
@[simp] theorem State.writerTurn_discardCount : (s.writerTurn).discardCount = s.discardCount := rfl
@[simp] theorem State.writerTurn_cabins : (s.writerTurn).cabins = s.cabins := rfl
@[simp] theorem State.writerTurn_doorSettings : (s.writerTurn).doorSettings = s.doorSettings := rfl
@[simp] theorem State.writerTurn_outlets : (s.writerTurn).outlets = s.outlets := rfl
@[simp] theorem State.writerTurn_slots : (s.writerTurn).slots = s.slots := rfl
@[simp] theorem State.writerTurn_journal : (s.writerTurn).journal = s.journal := rfl
@[simp] theorem State.writerTurn_allowance : (s.writerTurn).allowance = s.allowance := rfl
@[simp] theorem State.writerTurn_nextCharge : (s.writerTurn).nextCharge = s.nextCharge := rfl
@[simp] theorem State.writerTurn_journalFullReported : (s.writerTurn).journalFullReported = s.journalFullReported := rfl
@[simp] theorem State.writerTurn_muster : (s.writerTurn).muster = s.muster := rfl
@[simp] theorem State.writerTurn_notices : (s.writerTurn).notices = s.notices := rfl
@[simp] theorem State.writerTurn_host : (s.writerTurn).host = s.host := rfl
@[simp] theorem State.writerTurn_station : (s.writerTurn).station = s.station := rfl
@[simp] theorem State.writerTurn_store : (s.writerTurn).store = (s.store.turn (!s.isRunning) s.persons s.muster s.clock.mono) := rfl
@[simp] theorem State.writerTurn_freeIndex : (s.writerTurn).freeIndex = s.freeIndex := rfl

/-! ### State.turnAs -/

@[simp] theorem State.turnAs_pending (b : Bool) : (s.turnAs b).pending = s.pending := rfl
@[simp] theorem State.turnAs_phase (b : Bool) : (s.turnAs b).phase = s.phase := rfl
@[simp] theorem State.turnAs_isStarting (b : Bool) : (s.turnAs b).isStarting = s.isStarting := rfl
@[simp] theorem State.turnAs_isRunning (b : Bool) : (s.turnAs b).isRunning = s.isRunning := rfl
@[simp] theorem State.turnAs_unitAddressPins (b : Bool) : (s.turnAs b).unitAddressPins = s.unitAddressPins := rfl
@[simp] theorem State.turnAs_unitAddress (b : Bool) : (s.turnAs b).unitAddress = s.unitAddress := rfl
@[simp] theorem State.turnAs_powerFailLevel (b : Bool) : (s.turnAs b).powerFailLevel = s.powerFailLevel := rfl
@[simp] theorem State.turnAs_clock (b : Bool) : (s.turnAs b).clock = s.clock := rfl
@[simp] theorem State.turnAs_decoders (b : Bool) : (s.turnAs b).decoders = s.decoders := rfl
@[simp] theorem State.turnAs_persons (b : Bool) : (s.turnAs b).persons = s.persons := rfl
@[simp] theorem State.turnAs_tally (b : Bool) : (s.turnAs b).tally = s.tally := rfl
@[simp] theorem State.turnAs_tallySequence (b : Bool) : (s.turnAs b).tallySequence = s.tallySequence := rfl
@[simp] theorem State.turnAs_stations (b : Bool) : (s.turnAs b).stations = s.stations := rfl
@[simp] theorem State.turnAs_lanes (b : Bool) : (s.turnAs b).lanes = s.lanes := rfl
@[simp] theorem State.turnAs_deadline (b : Bool) : (s.turnAs b).deadline = s.deadline := rfl
@[simp] theorem State.turnAs_deadlineArrived (b : Bool) : (s.turnAs b).deadlineArrived = s.deadlineArrived := rfl
@[simp] theorem State.turnAs_guestsReported (b : Bool) : (s.turnAs b).guestsReported = s.guestsReported := rfl
@[simp] theorem State.turnAs_movementLog (b : Bool) : (s.turnAs b).movementLog = s.movementLog := rfl
@[simp] theorem State.turnAs_discardCount (b : Bool) : (s.turnAs b).discardCount = s.discardCount := rfl
@[simp] theorem State.turnAs_cabins (b : Bool) : (s.turnAs b).cabins = s.cabins := rfl
@[simp] theorem State.turnAs_doorSettings (b : Bool) : (s.turnAs b).doorSettings = s.doorSettings := rfl
@[simp] theorem State.turnAs_outlets (b : Bool) : (s.turnAs b).outlets = s.outlets := rfl
@[simp] theorem State.turnAs_slots (b : Bool) : (s.turnAs b).slots = s.slots := rfl
@[simp] theorem State.turnAs_journal (b : Bool) : (s.turnAs b).journal = s.journal := rfl
@[simp] theorem State.turnAs_allowance (b : Bool) : (s.turnAs b).allowance = s.allowance := rfl
@[simp] theorem State.turnAs_nextCharge (b : Bool) : (s.turnAs b).nextCharge = s.nextCharge := rfl
@[simp] theorem State.turnAs_journalFullReported (b : Bool) : (s.turnAs b).journalFullReported = s.journalFullReported := rfl
@[simp] theorem State.turnAs_muster (b : Bool) : (s.turnAs b).muster = s.muster := rfl
@[simp] theorem State.turnAs_notices (b : Bool) : (s.turnAs b).notices = s.notices := rfl
@[simp] theorem State.turnAs_host (b : Bool) : (s.turnAs b).host = s.host := rfl
@[simp] theorem State.turnAs_station (b : Bool) : (s.turnAs b).station = s.station := rfl
@[simp] theorem State.turnAs_store (b : Bool) : (s.turnAs b).store = (s.store.turn b s.persons s.muster s.clock.mono) := rfl
@[simp] theorem State.turnAs_freeIndex (b : Bool) : (s.turnAs b).freeIndex = s.freeIndex := rfl

/-! ### State.raiseWhen -/

@[simp] theorem State.raiseWhen_pending (c : Bool) (m : MemberId) (d : Nat) : (s.raiseWhen c m d).pending = s.pending := rfl
@[simp] theorem State.raiseWhen_phase (c : Bool) (m : MemberId) (d : Nat) : (s.raiseWhen c m d).phase = s.phase := rfl
@[simp] theorem State.raiseWhen_isStarting (c : Bool) (m : MemberId) (d : Nat) : (s.raiseWhen c m d).isStarting = s.isStarting := rfl
@[simp] theorem State.raiseWhen_isRunning (c : Bool) (m : MemberId) (d : Nat) : (s.raiseWhen c m d).isRunning = s.isRunning := rfl
@[simp] theorem State.raiseWhen_unitAddressPins (c : Bool) (m : MemberId) (d : Nat) : (s.raiseWhen c m d).unitAddressPins = s.unitAddressPins := rfl
@[simp] theorem State.raiseWhen_unitAddress (c : Bool) (m : MemberId) (d : Nat) : (s.raiseWhen c m d).unitAddress = s.unitAddress := rfl
@[simp] theorem State.raiseWhen_powerFailLevel (c : Bool) (m : MemberId) (d : Nat) : (s.raiseWhen c m d).powerFailLevel = s.powerFailLevel := rfl
@[simp] theorem State.raiseWhen_clock (c : Bool) (m : MemberId) (d : Nat) : (s.raiseWhen c m d).clock = s.clock := rfl
@[simp] theorem State.raiseWhen_decoders (c : Bool) (m : MemberId) (d : Nat) : (s.raiseWhen c m d).decoders = s.decoders := rfl
@[simp] theorem State.raiseWhen_persons (c : Bool) (m : MemberId) (d : Nat) : (s.raiseWhen c m d).persons = s.persons := rfl
@[simp] theorem State.raiseWhen_tally (c : Bool) (m : MemberId) (d : Nat) : (s.raiseWhen c m d).tally = s.tally := rfl
@[simp] theorem State.raiseWhen_tallySequence (c : Bool) (m : MemberId) (d : Nat) : (s.raiseWhen c m d).tallySequence = s.tallySequence := rfl
@[simp] theorem State.raiseWhen_stations (c : Bool) (m : MemberId) (d : Nat) : (s.raiseWhen c m d).stations = s.stations := rfl
@[simp] theorem State.raiseWhen_lanes (c : Bool) (m : MemberId) (d : Nat) : (s.raiseWhen c m d).lanes = s.lanes := rfl
@[simp] theorem State.raiseWhen_deadline (c : Bool) (m : MemberId) (d : Nat) : (s.raiseWhen c m d).deadline = s.deadline := rfl
@[simp] theorem State.raiseWhen_deadlineArrived (c : Bool) (m : MemberId) (d : Nat) : (s.raiseWhen c m d).deadlineArrived = s.deadlineArrived := rfl
@[simp] theorem State.raiseWhen_guestsReported (c : Bool) (m : MemberId) (d : Nat) : (s.raiseWhen c m d).guestsReported = s.guestsReported := rfl
@[simp] theorem State.raiseWhen_movementLog (c : Bool) (m : MemberId) (d : Nat) : (s.raiseWhen c m d).movementLog = s.movementLog := rfl
@[simp] theorem State.raiseWhen_discardCount (c : Bool) (m : MemberId) (d : Nat) : (s.raiseWhen c m d).discardCount = s.discardCount := rfl
@[simp] theorem State.raiseWhen_cabins (c : Bool) (m : MemberId) (d : Nat) : (s.raiseWhen c m d).cabins = s.cabins := rfl
@[simp] theorem State.raiseWhen_doorSettings (c : Bool) (m : MemberId) (d : Nat) : (s.raiseWhen c m d).doorSettings = s.doorSettings := rfl
@[simp] theorem State.raiseWhen_outlets (c : Bool) (m : MemberId) (d : Nat) : (s.raiseWhen c m d).outlets = s.outlets := rfl
@[simp] theorem State.raiseWhen_slots (c : Bool) (m : MemberId) (d : Nat) : (s.raiseWhen c m d).slots = s.slots := rfl
@[simp] theorem State.raiseWhen_journal (c : Bool) (m : MemberId) (d : Nat) : (s.raiseWhen c m d).journal = s.journal := rfl
@[simp] theorem State.raiseWhen_allowance (c : Bool) (m : MemberId) (d : Nat) : (s.raiseWhen c m d).allowance = s.allowance := rfl
@[simp] theorem State.raiseWhen_nextCharge (c : Bool) (m : MemberId) (d : Nat) : (s.raiseWhen c m d).nextCharge = s.nextCharge := rfl
@[simp] theorem State.raiseWhen_journalFullReported (c : Bool) (m : MemberId) (d : Nat) : (s.raiseWhen c m d).journalFullReported = s.journalFullReported := rfl
@[simp] theorem State.raiseWhen_muster (c : Bool) (m : MemberId) (d : Nat) : (s.raiseWhen c m d).muster = s.muster := rfl
@[simp] theorem State.raiseWhen_notices (c : Bool) (m : MemberId) (d : Nat) : (s.raiseWhen c m d).notices = (if c then s.notices.raise m d else s.notices) := rfl
@[simp] theorem State.raiseWhen_host (c : Bool) (m : MemberId) (d : Nat) : (s.raiseWhen c m d).host = ({ s.host with wake := s.host.wake || (c && s.host.asleep && !(s.notices.member m).flag) }) := rfl
@[simp] theorem State.raiseWhen_station (c : Bool) (m : MemberId) (d : Nat) : (s.raiseWhen c m d).station = s.station := rfl
@[simp] theorem State.raiseWhen_store (c : Bool) (m : MemberId) (d : Nat) : (s.raiseWhen c m d).store = s.store := rfl
@[simp] theorem State.raiseWhen_freeIndex (c : Bool) (m : MemberId) (d : Nat) : (s.raiseWhen c m d).freeIndex = s.freeIndex := rfl

/-! ### State.raise -/

@[simp] theorem State.raise_pending (m : MemberId) (d : Nat) : (s.raise m d).pending = s.pending := rfl
@[simp] theorem State.raise_phase (m : MemberId) (d : Nat) : (s.raise m d).phase = s.phase := rfl
@[simp] theorem State.raise_isStarting (m : MemberId) (d : Nat) : (s.raise m d).isStarting = s.isStarting := rfl
@[simp] theorem State.raise_isRunning (m : MemberId) (d : Nat) : (s.raise m d).isRunning = s.isRunning := rfl
@[simp] theorem State.raise_unitAddressPins (m : MemberId) (d : Nat) : (s.raise m d).unitAddressPins = s.unitAddressPins := rfl
@[simp] theorem State.raise_unitAddress (m : MemberId) (d : Nat) : (s.raise m d).unitAddress = s.unitAddress := rfl
@[simp] theorem State.raise_powerFailLevel (m : MemberId) (d : Nat) : (s.raise m d).powerFailLevel = s.powerFailLevel := rfl
@[simp] theorem State.raise_clock (m : MemberId) (d : Nat) : (s.raise m d).clock = s.clock := rfl
@[simp] theorem State.raise_decoders (m : MemberId) (d : Nat) : (s.raise m d).decoders = s.decoders := rfl
@[simp] theorem State.raise_persons (m : MemberId) (d : Nat) : (s.raise m d).persons = s.persons := rfl
@[simp] theorem State.raise_tally (m : MemberId) (d : Nat) : (s.raise m d).tally = s.tally := rfl
@[simp] theorem State.raise_tallySequence (m : MemberId) (d : Nat) : (s.raise m d).tallySequence = s.tallySequence := rfl
@[simp] theorem State.raise_stations (m : MemberId) (d : Nat) : (s.raise m d).stations = s.stations := rfl
@[simp] theorem State.raise_lanes (m : MemberId) (d : Nat) : (s.raise m d).lanes = s.lanes := rfl
@[simp] theorem State.raise_deadline (m : MemberId) (d : Nat) : (s.raise m d).deadline = s.deadline := rfl
@[simp] theorem State.raise_deadlineArrived (m : MemberId) (d : Nat) : (s.raise m d).deadlineArrived = s.deadlineArrived := rfl
@[simp] theorem State.raise_guestsReported (m : MemberId) (d : Nat) : (s.raise m d).guestsReported = s.guestsReported := rfl
@[simp] theorem State.raise_movementLog (m : MemberId) (d : Nat) : (s.raise m d).movementLog = s.movementLog := rfl
@[simp] theorem State.raise_discardCount (m : MemberId) (d : Nat) : (s.raise m d).discardCount = s.discardCount := rfl
@[simp] theorem State.raise_cabins (m : MemberId) (d : Nat) : (s.raise m d).cabins = s.cabins := rfl
@[simp] theorem State.raise_doorSettings (m : MemberId) (d : Nat) : (s.raise m d).doorSettings = s.doorSettings := rfl
@[simp] theorem State.raise_outlets (m : MemberId) (d : Nat) : (s.raise m d).outlets = s.outlets := rfl
@[simp] theorem State.raise_slots (m : MemberId) (d : Nat) : (s.raise m d).slots = s.slots := rfl
@[simp] theorem State.raise_journal (m : MemberId) (d : Nat) : (s.raise m d).journal = s.journal := rfl
@[simp] theorem State.raise_allowance (m : MemberId) (d : Nat) : (s.raise m d).allowance = s.allowance := rfl
@[simp] theorem State.raise_nextCharge (m : MemberId) (d : Nat) : (s.raise m d).nextCharge = s.nextCharge := rfl
@[simp] theorem State.raise_journalFullReported (m : MemberId) (d : Nat) : (s.raise m d).journalFullReported = s.journalFullReported := rfl
@[simp] theorem State.raise_muster (m : MemberId) (d : Nat) : (s.raise m d).muster = s.muster := rfl
@[simp] theorem State.raise_notices (m : MemberId) (d : Nat) : (s.raise m d).notices = (s.notices.raise m d) := rfl
@[simp] theorem State.raise_host (m : MemberId) (d : Nat) : (s.raise m d).host = ({ s.host with wake := s.host.wake || (true && s.host.asleep && !(s.notices.member m).flag) }) := rfl
@[simp] theorem State.raise_station (m : MemberId) (d : Nat) : (s.raise m d).station = s.station := rfl
@[simp] theorem State.raise_store (m : MemberId) (d : Nat) : (s.raise m d).store = s.store := rfl
@[simp] theorem State.raise_freeIndex (m : MemberId) (d : Nat) : (s.raise m d).freeIndex = s.freeIndex := rfl

/-! ### State.hostReply -/

@[simp] theorem State.hostReply_pending (r : HostReply) : (s.hostReply r).pending = s.pending := rfl
@[simp] theorem State.hostReply_phase (r : HostReply) : (s.hostReply r).phase = s.phase := rfl
@[simp] theorem State.hostReply_isStarting (r : HostReply) : (s.hostReply r).isStarting = s.isStarting := rfl
@[simp] theorem State.hostReply_isRunning (r : HostReply) : (s.hostReply r).isRunning = s.isRunning := rfl
@[simp] theorem State.hostReply_unitAddressPins (r : HostReply) : (s.hostReply r).unitAddressPins = s.unitAddressPins := rfl
@[simp] theorem State.hostReply_unitAddress (r : HostReply) : (s.hostReply r).unitAddress = s.unitAddress := rfl
@[simp] theorem State.hostReply_powerFailLevel (r : HostReply) : (s.hostReply r).powerFailLevel = s.powerFailLevel := rfl
@[simp] theorem State.hostReply_clock (r : HostReply) : (s.hostReply r).clock = s.clock := rfl
@[simp] theorem State.hostReply_decoders (r : HostReply) : (s.hostReply r).decoders = s.decoders := rfl
@[simp] theorem State.hostReply_persons (r : HostReply) : (s.hostReply r).persons = s.persons := rfl
@[simp] theorem State.hostReply_tally (r : HostReply) : (s.hostReply r).tally = s.tally := rfl
@[simp] theorem State.hostReply_tallySequence (r : HostReply) : (s.hostReply r).tallySequence = s.tallySequence := rfl
@[simp] theorem State.hostReply_stations (r : HostReply) : (s.hostReply r).stations = s.stations := rfl
@[simp] theorem State.hostReply_lanes (r : HostReply) : (s.hostReply r).lanes = s.lanes := rfl
@[simp] theorem State.hostReply_deadline (r : HostReply) : (s.hostReply r).deadline = s.deadline := rfl
@[simp] theorem State.hostReply_deadlineArrived (r : HostReply) : (s.hostReply r).deadlineArrived = s.deadlineArrived := rfl
@[simp] theorem State.hostReply_guestsReported (r : HostReply) : (s.hostReply r).guestsReported = s.guestsReported := rfl
@[simp] theorem State.hostReply_movementLog (r : HostReply) : (s.hostReply r).movementLog = s.movementLog := rfl
@[simp] theorem State.hostReply_discardCount (r : HostReply) : (s.hostReply r).discardCount = s.discardCount := rfl
@[simp] theorem State.hostReply_cabins (r : HostReply) : (s.hostReply r).cabins = s.cabins := rfl
@[simp] theorem State.hostReply_doorSettings (r : HostReply) : (s.hostReply r).doorSettings = s.doorSettings := rfl
@[simp] theorem State.hostReply_outlets (r : HostReply) : (s.hostReply r).outlets = s.outlets := rfl
@[simp] theorem State.hostReply_slots (r : HostReply) : (s.hostReply r).slots = s.slots := rfl
@[simp] theorem State.hostReply_journal (r : HostReply) : (s.hostReply r).journal = s.journal := rfl
@[simp] theorem State.hostReply_allowance (r : HostReply) : (s.hostReply r).allowance = s.allowance := rfl
@[simp] theorem State.hostReply_nextCharge (r : HostReply) : (s.hostReply r).nextCharge = s.nextCharge := rfl
@[simp] theorem State.hostReply_journalFullReported (r : HostReply) : (s.hostReply r).journalFullReported = s.journalFullReported := rfl
@[simp] theorem State.hostReply_muster (r : HostReply) : (s.hostReply r).muster = s.muster := rfl
@[simp] theorem State.hostReply_notices (r : HostReply) : (s.hostReply r).notices = s.notices := rfl
@[simp] theorem State.hostReply_host (r : HostReply) : (s.hostReply r).host = ({ s.host with replies := s.host.replies ++ [r] }) := rfl
@[simp] theorem State.hostReply_station (r : HostReply) : (s.hostReply r).station = s.station := rfl
@[simp] theorem State.hostReply_store (r : HostReply) : (s.hostReply r).store = s.store := rfl
@[simp] theorem State.hostReply_freeIndex (r : HostReply) : (s.hostReply r).freeIndex = s.freeIndex := rfl

/-! ### State.dropHostRequest -/

@[simp] theorem State.dropHostRequest_pending : (s.dropHostRequest).pending = s.pending := rfl
@[simp] theorem State.dropHostRequest_phase : (s.dropHostRequest).phase = s.phase := rfl
@[simp] theorem State.dropHostRequest_isStarting : (s.dropHostRequest).isStarting = s.isStarting := rfl
@[simp] theorem State.dropHostRequest_isRunning : (s.dropHostRequest).isRunning = s.isRunning := rfl
@[simp] theorem State.dropHostRequest_unitAddressPins : (s.dropHostRequest).unitAddressPins = s.unitAddressPins := rfl
@[simp] theorem State.dropHostRequest_unitAddress : (s.dropHostRequest).unitAddress = s.unitAddress := rfl
@[simp] theorem State.dropHostRequest_powerFailLevel : (s.dropHostRequest).powerFailLevel = s.powerFailLevel := rfl
@[simp] theorem State.dropHostRequest_clock : (s.dropHostRequest).clock = s.clock := rfl
@[simp] theorem State.dropHostRequest_decoders : (s.dropHostRequest).decoders = s.decoders := rfl
@[simp] theorem State.dropHostRequest_persons : (s.dropHostRequest).persons = s.persons := rfl
@[simp] theorem State.dropHostRequest_tally : (s.dropHostRequest).tally = s.tally := rfl
@[simp] theorem State.dropHostRequest_tallySequence : (s.dropHostRequest).tallySequence = s.tallySequence := rfl
@[simp] theorem State.dropHostRequest_stations : (s.dropHostRequest).stations = s.stations := rfl
@[simp] theorem State.dropHostRequest_lanes : (s.dropHostRequest).lanes = s.lanes := rfl
@[simp] theorem State.dropHostRequest_deadline : (s.dropHostRequest).deadline = s.deadline := rfl
@[simp] theorem State.dropHostRequest_deadlineArrived : (s.dropHostRequest).deadlineArrived = s.deadlineArrived := rfl
@[simp] theorem State.dropHostRequest_guestsReported : (s.dropHostRequest).guestsReported = s.guestsReported := rfl
@[simp] theorem State.dropHostRequest_movementLog : (s.dropHostRequest).movementLog = s.movementLog := rfl
@[simp] theorem State.dropHostRequest_discardCount : (s.dropHostRequest).discardCount = s.discardCount := rfl
@[simp] theorem State.dropHostRequest_cabins : (s.dropHostRequest).cabins = s.cabins := rfl
@[simp] theorem State.dropHostRequest_doorSettings : (s.dropHostRequest).doorSettings = s.doorSettings := rfl
@[simp] theorem State.dropHostRequest_outlets : (s.dropHostRequest).outlets = s.outlets := rfl
@[simp] theorem State.dropHostRequest_slots : (s.dropHostRequest).slots = s.slots := rfl
@[simp] theorem State.dropHostRequest_journal : (s.dropHostRequest).journal = s.journal := rfl
@[simp] theorem State.dropHostRequest_allowance : (s.dropHostRequest).allowance = s.allowance := rfl
@[simp] theorem State.dropHostRequest_nextCharge : (s.dropHostRequest).nextCharge = s.nextCharge := rfl
@[simp] theorem State.dropHostRequest_journalFullReported : (s.dropHostRequest).journalFullReported = s.journalFullReported := rfl
@[simp] theorem State.dropHostRequest_muster : (s.dropHostRequest).muster = s.muster := rfl
@[simp] theorem State.dropHostRequest_notices : (s.dropHostRequest).notices = s.notices := rfl
@[simp] theorem State.dropHostRequest_host : (s.dropHostRequest).host = ({ s.host with port := { s.host.port with requests := s.host.port.requests.tail } }) := rfl
@[simp] theorem State.dropHostRequest_station : (s.dropHostRequest).station = s.station := rfl
@[simp] theorem State.dropHostRequest_store : (s.dropHostRequest).store = s.store := rfl
@[simp] theorem State.dropHostRequest_freeIndex : (s.dropHostRequest).freeIndex = s.freeIndex := rfl

/-! ### State.sendHost -/

@[simp] theorem State.sendHost_pending (f : OutFrame) : (s.sendHost f).pending = s.pending := rfl
@[simp] theorem State.sendHost_phase (f : OutFrame) : (s.sendHost f).phase = s.phase := rfl
@[simp] theorem State.sendHost_isStarting (f : OutFrame) : (s.sendHost f).isStarting = s.isStarting := rfl
@[simp] theorem State.sendHost_isRunning (f : OutFrame) : (s.sendHost f).isRunning = s.isRunning := rfl
@[simp] theorem State.sendHost_unitAddressPins (f : OutFrame) : (s.sendHost f).unitAddressPins = s.unitAddressPins := rfl
@[simp] theorem State.sendHost_unitAddress (f : OutFrame) : (s.sendHost f).unitAddress = s.unitAddress := rfl
@[simp] theorem State.sendHost_powerFailLevel (f : OutFrame) : (s.sendHost f).powerFailLevel = s.powerFailLevel := rfl
@[simp] theorem State.sendHost_clock (f : OutFrame) : (s.sendHost f).clock = s.clock := rfl
@[simp] theorem State.sendHost_decoders (f : OutFrame) : (s.sendHost f).decoders = s.decoders := rfl
@[simp] theorem State.sendHost_persons (f : OutFrame) : (s.sendHost f).persons = s.persons := rfl
@[simp] theorem State.sendHost_tally (f : OutFrame) : (s.sendHost f).tally = s.tally := rfl
@[simp] theorem State.sendHost_tallySequence (f : OutFrame) : (s.sendHost f).tallySequence = s.tallySequence := rfl
@[simp] theorem State.sendHost_stations (f : OutFrame) : (s.sendHost f).stations = s.stations := rfl
@[simp] theorem State.sendHost_lanes (f : OutFrame) : (s.sendHost f).lanes = s.lanes := rfl
@[simp] theorem State.sendHost_deadline (f : OutFrame) : (s.sendHost f).deadline = s.deadline := rfl
@[simp] theorem State.sendHost_deadlineArrived (f : OutFrame) : (s.sendHost f).deadlineArrived = s.deadlineArrived := rfl
@[simp] theorem State.sendHost_guestsReported (f : OutFrame) : (s.sendHost f).guestsReported = s.guestsReported := rfl
@[simp] theorem State.sendHost_movementLog (f : OutFrame) : (s.sendHost f).movementLog = s.movementLog := rfl
@[simp] theorem State.sendHost_discardCount (f : OutFrame) : (s.sendHost f).discardCount = s.discardCount := rfl
@[simp] theorem State.sendHost_cabins (f : OutFrame) : (s.sendHost f).cabins = s.cabins := rfl
@[simp] theorem State.sendHost_doorSettings (f : OutFrame) : (s.sendHost f).doorSettings = s.doorSettings := rfl
@[simp] theorem State.sendHost_outlets (f : OutFrame) : (s.sendHost f).outlets = s.outlets := rfl
@[simp] theorem State.sendHost_slots (f : OutFrame) : (s.sendHost f).slots = s.slots := rfl
@[simp] theorem State.sendHost_journal (f : OutFrame) : (s.sendHost f).journal = s.journal := rfl
@[simp] theorem State.sendHost_allowance (f : OutFrame) : (s.sendHost f).allowance = s.allowance := rfl
@[simp] theorem State.sendHost_nextCharge (f : OutFrame) : (s.sendHost f).nextCharge = s.nextCharge := rfl
@[simp] theorem State.sendHost_journalFullReported (f : OutFrame) : (s.sendHost f).journalFullReported = s.journalFullReported := rfl
@[simp] theorem State.sendHost_muster (f : OutFrame) : (s.sendHost f).muster = s.muster := rfl
@[simp] theorem State.sendHost_notices (f : OutFrame) : (s.sendHost f).notices = s.notices := rfl
@[simp] theorem State.sendHost_host (f : OutFrame) : (s.sendHost f).host = ({ s.host with sending := some f }) := rfl
@[simp] theorem State.sendHost_station (f : OutFrame) : (s.sendHost f).station = s.station := rfl
@[simp] theorem State.sendHost_store (f : OutFrame) : (s.sendHost f).store = s.store := rfl
@[simp] theorem State.sendHost_freeIndex (f : OutFrame) : (s.sendHost f).freeIndex = s.freeIndex := rfl

/-! ### State.stationReply -/

@[simp] theorem State.stationReply_pending (r : StationReply) : (s.stationReply r).pending = s.pending := rfl
@[simp] theorem State.stationReply_phase (r : StationReply) : (s.stationReply r).phase = s.phase := rfl
@[simp] theorem State.stationReply_isStarting (r : StationReply) : (s.stationReply r).isStarting = s.isStarting := rfl
@[simp] theorem State.stationReply_isRunning (r : StationReply) : (s.stationReply r).isRunning = s.isRunning := rfl
@[simp] theorem State.stationReply_unitAddressPins (r : StationReply) : (s.stationReply r).unitAddressPins = s.unitAddressPins := rfl
@[simp] theorem State.stationReply_unitAddress (r : StationReply) : (s.stationReply r).unitAddress = s.unitAddress := rfl
@[simp] theorem State.stationReply_powerFailLevel (r : StationReply) : (s.stationReply r).powerFailLevel = s.powerFailLevel := rfl
@[simp] theorem State.stationReply_clock (r : StationReply) : (s.stationReply r).clock = s.clock := rfl
@[simp] theorem State.stationReply_decoders (r : StationReply) : (s.stationReply r).decoders = s.decoders := rfl
@[simp] theorem State.stationReply_persons (r : StationReply) : (s.stationReply r).persons = s.persons := rfl
@[simp] theorem State.stationReply_tally (r : StationReply) : (s.stationReply r).tally = s.tally := rfl
@[simp] theorem State.stationReply_tallySequence (r : StationReply) : (s.stationReply r).tallySequence = s.tallySequence := rfl
@[simp] theorem State.stationReply_stations (r : StationReply) : (s.stationReply r).stations = s.stations := rfl
@[simp] theorem State.stationReply_lanes (r : StationReply) : (s.stationReply r).lanes = s.lanes := rfl
@[simp] theorem State.stationReply_deadline (r : StationReply) : (s.stationReply r).deadline = s.deadline := rfl
@[simp] theorem State.stationReply_deadlineArrived (r : StationReply) : (s.stationReply r).deadlineArrived = s.deadlineArrived := rfl
@[simp] theorem State.stationReply_guestsReported (r : StationReply) : (s.stationReply r).guestsReported = s.guestsReported := rfl
@[simp] theorem State.stationReply_movementLog (r : StationReply) : (s.stationReply r).movementLog = s.movementLog := rfl
@[simp] theorem State.stationReply_discardCount (r : StationReply) : (s.stationReply r).discardCount = s.discardCount := rfl
@[simp] theorem State.stationReply_cabins (r : StationReply) : (s.stationReply r).cabins = s.cabins := rfl
@[simp] theorem State.stationReply_doorSettings (r : StationReply) : (s.stationReply r).doorSettings = s.doorSettings := rfl
@[simp] theorem State.stationReply_outlets (r : StationReply) : (s.stationReply r).outlets = s.outlets := rfl
@[simp] theorem State.stationReply_slots (r : StationReply) : (s.stationReply r).slots = s.slots := rfl
@[simp] theorem State.stationReply_journal (r : StationReply) : (s.stationReply r).journal = s.journal := rfl
@[simp] theorem State.stationReply_allowance (r : StationReply) : (s.stationReply r).allowance = s.allowance := rfl
@[simp] theorem State.stationReply_nextCharge (r : StationReply) : (s.stationReply r).nextCharge = s.nextCharge := rfl
@[simp] theorem State.stationReply_journalFullReported (r : StationReply) : (s.stationReply r).journalFullReported = s.journalFullReported := rfl
@[simp] theorem State.stationReply_muster (r : StationReply) : (s.stationReply r).muster = s.muster := rfl
@[simp] theorem State.stationReply_notices (r : StationReply) : (s.stationReply r).notices = s.notices := rfl
@[simp] theorem State.stationReply_host (r : StationReply) : (s.stationReply r).host = s.host := rfl
@[simp] theorem State.stationReply_station (r : StationReply) : (s.stationReply r).station = ({ s.station with replies := s.station.replies ++ [r] }) := rfl
@[simp] theorem State.stationReply_store (r : StationReply) : (s.stationReply r).store = s.store := rfl
@[simp] theorem State.stationReply_freeIndex (r : StationReply) : (s.stationReply r).freeIndex = s.freeIndex := rfl

/-! ### State.dropStationRequest -/

@[simp] theorem State.dropStationRequest_pending : (s.dropStationRequest).pending = s.pending := rfl
@[simp] theorem State.dropStationRequest_phase : (s.dropStationRequest).phase = s.phase := rfl
@[simp] theorem State.dropStationRequest_isStarting : (s.dropStationRequest).isStarting = s.isStarting := rfl
@[simp] theorem State.dropStationRequest_isRunning : (s.dropStationRequest).isRunning = s.isRunning := rfl
@[simp] theorem State.dropStationRequest_unitAddressPins : (s.dropStationRequest).unitAddressPins = s.unitAddressPins := rfl
@[simp] theorem State.dropStationRequest_unitAddress : (s.dropStationRequest).unitAddress = s.unitAddress := rfl
@[simp] theorem State.dropStationRequest_powerFailLevel : (s.dropStationRequest).powerFailLevel = s.powerFailLevel := rfl
@[simp] theorem State.dropStationRequest_clock : (s.dropStationRequest).clock = s.clock := rfl
@[simp] theorem State.dropStationRequest_decoders : (s.dropStationRequest).decoders = s.decoders := rfl
@[simp] theorem State.dropStationRequest_persons : (s.dropStationRequest).persons = s.persons := rfl
@[simp] theorem State.dropStationRequest_tally : (s.dropStationRequest).tally = s.tally := rfl
@[simp] theorem State.dropStationRequest_tallySequence : (s.dropStationRequest).tallySequence = s.tallySequence := rfl
@[simp] theorem State.dropStationRequest_stations : (s.dropStationRequest).stations = s.stations := rfl
@[simp] theorem State.dropStationRequest_lanes : (s.dropStationRequest).lanes = s.lanes := rfl
@[simp] theorem State.dropStationRequest_deadline : (s.dropStationRequest).deadline = s.deadline := rfl
@[simp] theorem State.dropStationRequest_deadlineArrived : (s.dropStationRequest).deadlineArrived = s.deadlineArrived := rfl
@[simp] theorem State.dropStationRequest_guestsReported : (s.dropStationRequest).guestsReported = s.guestsReported := rfl
@[simp] theorem State.dropStationRequest_movementLog : (s.dropStationRequest).movementLog = s.movementLog := rfl
@[simp] theorem State.dropStationRequest_discardCount : (s.dropStationRequest).discardCount = s.discardCount := rfl
@[simp] theorem State.dropStationRequest_cabins : (s.dropStationRequest).cabins = s.cabins := rfl
@[simp] theorem State.dropStationRequest_doorSettings : (s.dropStationRequest).doorSettings = s.doorSettings := rfl
@[simp] theorem State.dropStationRequest_outlets : (s.dropStationRequest).outlets = s.outlets := rfl
@[simp] theorem State.dropStationRequest_slots : (s.dropStationRequest).slots = s.slots := rfl
@[simp] theorem State.dropStationRequest_journal : (s.dropStationRequest).journal = s.journal := rfl
@[simp] theorem State.dropStationRequest_allowance : (s.dropStationRequest).allowance = s.allowance := rfl
@[simp] theorem State.dropStationRequest_nextCharge : (s.dropStationRequest).nextCharge = s.nextCharge := rfl
@[simp] theorem State.dropStationRequest_journalFullReported : (s.dropStationRequest).journalFullReported = s.journalFullReported := rfl
@[simp] theorem State.dropStationRequest_muster : (s.dropStationRequest).muster = s.muster := rfl
@[simp] theorem State.dropStationRequest_notices : (s.dropStationRequest).notices = s.notices := rfl
@[simp] theorem State.dropStationRequest_host : (s.dropStationRequest).host = s.host := rfl
@[simp] theorem State.dropStationRequest_station : (s.dropStationRequest).station = ({ s.station with port := { s.station.port with requests := s.station.port.requests.tail } }) := rfl
@[simp] theorem State.dropStationRequest_store : (s.dropStationRequest).store = s.store := rfl
@[simp] theorem State.dropStationRequest_freeIndex : (s.dropStationRequest).freeIndex = s.freeIndex := rfl

/-! ### State.changePerson -/

@[simp] theorem State.changePerson_pending (i : Nat) (new : Option Person) : (s.changePerson i new).pending = s.pending := rfl
@[simp] theorem State.changePerson_phase (i : Nat) (new : Option Person) : (s.changePerson i new).phase = s.phase := rfl
@[simp] theorem State.changePerson_isStarting (i : Nat) (new : Option Person) : (s.changePerson i new).isStarting = s.isStarting := rfl
@[simp] theorem State.changePerson_isRunning (i : Nat) (new : Option Person) : (s.changePerson i new).isRunning = s.isRunning := rfl
@[simp] theorem State.changePerson_unitAddressPins (i : Nat) (new : Option Person) : (s.changePerson i new).unitAddressPins = s.unitAddressPins := rfl
@[simp] theorem State.changePerson_unitAddress (i : Nat) (new : Option Person) : (s.changePerson i new).unitAddress = s.unitAddress := rfl
@[simp] theorem State.changePerson_powerFailLevel (i : Nat) (new : Option Person) : (s.changePerson i new).powerFailLevel = s.powerFailLevel := rfl
@[simp] theorem State.changePerson_clock (i : Nat) (new : Option Person) : (s.changePerson i new).clock = s.clock := rfl
@[simp] theorem State.changePerson_decoders (i : Nat) (new : Option Person) : (s.changePerson i new).decoders = s.decoders := rfl
@[simp] theorem State.changePerson_persons (i : Nat) (new : Option Person) : (s.changePerson i new).persons = (s.persons.write none i new) := rfl
@[simp] theorem State.changePerson_tally (i : Nat) (new : Option Person) : (s.changePerson i new).tally = (moveTally s.tally (placeOf (s.person i)) (placeOf new)) := rfl
@[simp] theorem State.changePerson_tallySequence (i : Nat) (new : Option Person) : (s.changePerson i new).tallySequence = (if decide (placeOf (s.person i) ≠ placeOf new) then s.tallySequence + 1 else s.tallySequence) := rfl
@[simp] theorem State.changePerson_stations (i : Nat) (new : Option Person) : (s.changePerson i new).stations = s.stations := rfl
@[simp] theorem State.changePerson_lanes (i : Nat) (new : Option Person) : (s.changePerson i new).lanes = s.lanes := rfl
@[simp] theorem State.changePerson_deadline (i : Nat) (new : Option Person) : (s.changePerson i new).deadline = s.deadline := rfl
@[simp] theorem State.changePerson_deadlineArrived (i : Nat) (new : Option Person) : (s.changePerson i new).deadlineArrived = s.deadlineArrived := rfl
@[simp] theorem State.changePerson_movementLog (i : Nat) (new : Option Person) : (s.changePerson i new).movementLog = s.movementLog := rfl
@[simp] theorem State.changePerson_discardCount (i : Nat) (new : Option Person) : (s.changePerson i new).discardCount = s.discardCount := rfl
@[simp] theorem State.changePerson_cabins (i : Nat) (new : Option Person) : (s.changePerson i new).cabins = (moveOccupant s.cabins (cabinOf (s.person i)) (cabinOf new)) := rfl
@[simp] theorem State.changePerson_doorSettings (i : Nat) (new : Option Person) : (s.changePerson i new).doorSettings = s.doorSettings := rfl
@[simp] theorem State.changePerson_outlets (i : Nat) (new : Option Person) : (s.changePerson i new).outlets = s.outlets := rfl
@[simp] theorem State.changePerson_slots (i : Nat) (new : Option Person) : (s.changePerson i new).slots = s.slots := rfl
@[simp] theorem State.changePerson_journal (i : Nat) (new : Option Person) : (s.changePerson i new).journal = s.journal := rfl
@[simp] theorem State.changePerson_allowance (i : Nat) (new : Option Person) : (s.changePerson i new).allowance = s.allowance := rfl
@[simp] theorem State.changePerson_nextCharge (i : Nat) (new : Option Person) : (s.changePerson i new).nextCharge = s.nextCharge := rfl
@[simp] theorem State.changePerson_journalFullReported (i : Nat) (new : Option Person) : (s.changePerson i new).journalFullReported = s.journalFullReported := rfl
@[simp] theorem State.changePerson_muster (i : Nat) (new : Option Person) : (s.changePerson i new).muster = (s.muster.move (musterOf (s.person i)) (musterOf new)) := rfl
@[simp] theorem State.changePerson_station (i : Nat) (new : Option Person) : (s.changePerson i new).station = s.station := rfl
@[simp] theorem State.changePerson_store (i : Nat) (new : Option Person) : (s.changePerson i new).store = (s.store.markWhen (decide (retained (s.person i) ≠ retained new)) (blockOf i)) := rfl
@[simp] theorem State.changePerson_freeIndex (i : Nat) (new : Option Person) : (s.changePerson i new).freeIndex = s.freeIndex := rfl

/-! ### State.vacate -/

@[simp] theorem State.vacate_pending (k : Nat) : (s.vacate k).pending = s.pending := rfl
@[simp] theorem State.vacate_phase (k : Nat) : (s.vacate k).phase = s.phase := rfl
@[simp] theorem State.vacate_isStarting (k : Nat) : (s.vacate k).isStarting = s.isStarting := rfl
@[simp] theorem State.vacate_isRunning (k : Nat) : (s.vacate k).isRunning = s.isRunning := rfl
@[simp] theorem State.vacate_unitAddressPins (k : Nat) : (s.vacate k).unitAddressPins = s.unitAddressPins := rfl
@[simp] theorem State.vacate_unitAddress (k : Nat) : (s.vacate k).unitAddress = s.unitAddress := rfl
@[simp] theorem State.vacate_powerFailLevel (k : Nat) : (s.vacate k).powerFailLevel = s.powerFailLevel := rfl
@[simp] theorem State.vacate_clock (k : Nat) : (s.vacate k).clock = s.clock := rfl
@[simp] theorem State.vacate_decoders (k : Nat) : (s.vacate k).decoders = s.decoders := rfl
@[simp] theorem State.vacate_persons (k : Nat) : (s.vacate k).persons = s.persons := rfl
@[simp] theorem State.vacate_tally (k : Nat) : (s.vacate k).tally = s.tally := rfl
@[simp] theorem State.vacate_tallySequence (k : Nat) : (s.vacate k).tallySequence = s.tallySequence := rfl
@[simp] theorem State.vacate_stations (k : Nat) : (s.vacate k).stations = s.stations := rfl
@[simp] theorem State.vacate_lanes (k : Nat) : (s.vacate k).lanes = s.lanes := rfl
@[simp] theorem State.vacate_deadline (k : Nat) : (s.vacate k).deadline = s.deadline := rfl
@[simp] theorem State.vacate_deadlineArrived (k : Nat) : (s.vacate k).deadlineArrived = s.deadlineArrived := rfl
@[simp] theorem State.vacate_guestsReported (k : Nat) : (s.vacate k).guestsReported = s.guestsReported := rfl
@[simp] theorem State.vacate_movementLog (k : Nat) : (s.vacate k).movementLog = s.movementLog := rfl
@[simp] theorem State.vacate_discardCount (k : Nat) : (s.vacate k).discardCount = s.discardCount := rfl
@[simp] theorem State.vacate_cabins (k : Nat) : (s.vacate k).cabins = s.cabins := rfl
@[simp] theorem State.vacate_doorSettings (k : Nat) : (s.vacate k).doorSettings = s.doorSettings := rfl
@[simp] theorem State.vacate_outlets (k : Nat) : (s.vacate k).outlets = s.outlets := rfl
@[simp] theorem State.vacate_slots (k : Nat) : (s.vacate k).slots = (s.slots.write Slot.reset k { s.slot k with hold := none }) := rfl
@[simp] theorem State.vacate_journal (k : Nat) : (s.vacate k).journal = s.journal := rfl
@[simp] theorem State.vacate_allowance (k : Nat) : (s.vacate k).allowance = s.allowance := rfl
@[simp] theorem State.vacate_nextCharge (k : Nat) : (s.vacate k).nextCharge = s.nextCharge := rfl
@[simp] theorem State.vacate_journalFullReported (k : Nat) : (s.vacate k).journalFullReported = s.journalFullReported := rfl
@[simp] theorem State.vacate_muster (k : Nat) : (s.vacate k).muster = s.muster := rfl
@[simp] theorem State.vacate_notices (k : Nat) : (s.vacate k).notices = s.notices := rfl
@[simp] theorem State.vacate_host (k : Nat) : (s.vacate k).host = s.host := rfl
@[simp] theorem State.vacate_station (k : Nat) : (s.vacate k).station = s.station := rfl
@[simp] theorem State.vacate_store (k : Nat) : (s.vacate k).store = s.store := rfl
@[simp] theorem State.vacate_freeIndex (k : Nat) : (s.vacate k).freeIndex = s.freeIndex := rfl

/-! ### State.settleFlap -/

@[simp] theorem State.settleFlap_pending (l : Nat) : (s.settleFlap l).pending = s.pending := rfl
@[simp] theorem State.settleFlap_phase (l : Nat) : (s.settleFlap l).phase = s.phase := rfl
@[simp] theorem State.settleFlap_isStarting (l : Nat) : (s.settleFlap l).isStarting = s.isStarting := rfl
@[simp] theorem State.settleFlap_isRunning (l : Nat) : (s.settleFlap l).isRunning = s.isRunning := rfl
@[simp] theorem State.settleFlap_unitAddressPins (l : Nat) : (s.settleFlap l).unitAddressPins = s.unitAddressPins := rfl
@[simp] theorem State.settleFlap_unitAddress (l : Nat) : (s.settleFlap l).unitAddress = s.unitAddress := rfl
@[simp] theorem State.settleFlap_powerFailLevel (l : Nat) : (s.settleFlap l).powerFailLevel = s.powerFailLevel := rfl
@[simp] theorem State.settleFlap_clock (l : Nat) : (s.settleFlap l).clock = s.clock := rfl
@[simp] theorem State.settleFlap_decoders (l : Nat) : (s.settleFlap l).decoders = s.decoders := rfl
@[simp] theorem State.settleFlap_persons (l : Nat) : (s.settleFlap l).persons = s.persons := rfl
@[simp] theorem State.settleFlap_tally (l : Nat) : (s.settleFlap l).tally = s.tally := rfl
@[simp] theorem State.settleFlap_tallySequence (l : Nat) : (s.settleFlap l).tallySequence = s.tallySequence := rfl
@[simp] theorem State.settleFlap_stations (l : Nat) : (s.settleFlap l).stations = s.stations := rfl
@[simp] theorem State.settleFlap_lanes (l : Nat) : (s.settleFlap l).lanes = (s.lanes.write Lane.reset l (s.lane l).settleFlap) := rfl
@[simp] theorem State.settleFlap_deadline (l : Nat) : (s.settleFlap l).deadline = s.deadline := rfl
@[simp] theorem State.settleFlap_deadlineArrived (l : Nat) : (s.settleFlap l).deadlineArrived = s.deadlineArrived := rfl
@[simp] theorem State.settleFlap_guestsReported (l : Nat) : (s.settleFlap l).guestsReported = s.guestsReported := rfl
@[simp] theorem State.settleFlap_movementLog (l : Nat) : (s.settleFlap l).movementLog = s.movementLog := rfl
@[simp] theorem State.settleFlap_discardCount (l : Nat) : (s.settleFlap l).discardCount = s.discardCount := rfl
@[simp] theorem State.settleFlap_cabins (l : Nat) : (s.settleFlap l).cabins = s.cabins := rfl
@[simp] theorem State.settleFlap_doorSettings (l : Nat) : (s.settleFlap l).doorSettings = s.doorSettings := rfl
@[simp] theorem State.settleFlap_outlets (l : Nat) : (s.settleFlap l).outlets = s.outlets := rfl
@[simp] theorem State.settleFlap_slots (l : Nat) : (s.settleFlap l).slots = s.slots := rfl
@[simp] theorem State.settleFlap_journal (l : Nat) : (s.settleFlap l).journal = s.journal := rfl
@[simp] theorem State.settleFlap_allowance (l : Nat) : (s.settleFlap l).allowance = s.allowance := rfl
@[simp] theorem State.settleFlap_nextCharge (l : Nat) : (s.settleFlap l).nextCharge = s.nextCharge := rfl
@[simp] theorem State.settleFlap_journalFullReported (l : Nat) : (s.settleFlap l).journalFullReported = s.journalFullReported := rfl
@[simp] theorem State.settleFlap_muster (l : Nat) : (s.settleFlap l).muster = s.muster := rfl
@[simp] theorem State.settleFlap_notices (l : Nat) : (s.settleFlap l).notices = s.notices := rfl
@[simp] theorem State.settleFlap_host (l : Nat) : (s.settleFlap l).host = s.host := rfl
@[simp] theorem State.settleFlap_station (l : Nat) : (s.settleFlap l).station = s.station := rfl
@[simp] theorem State.settleFlap_store (l : Nat) : (s.settleFlap l).store = s.store := rfl
@[simp] theorem State.settleFlap_freeIndex (l : Nat) : (s.settleFlap l).freeIndex = s.freeIndex := rfl

/-! ### State.computeDay -/

@[simp] theorem State.computeDay_pending : (s.computeDay).pending = s.pending := rfl
@[simp] theorem State.computeDay_phase : (s.computeDay).phase = s.phase := rfl
@[simp] theorem State.computeDay_isStarting : (s.computeDay).isStarting = s.isStarting := rfl
@[simp] theorem State.computeDay_isRunning : (s.computeDay).isRunning = s.isRunning := rfl
@[simp] theorem State.computeDay_unitAddressPins : (s.computeDay).unitAddressPins = s.unitAddressPins := rfl
@[simp] theorem State.computeDay_unitAddress : (s.computeDay).unitAddress = s.unitAddress := rfl
@[simp] theorem State.computeDay_powerFailLevel : (s.computeDay).powerFailLevel = s.powerFailLevel := rfl
@[simp] theorem State.computeDay_clock : (s.computeDay).clock = (if s.clock.running then s.clock.advanceDay else s.clock) := rfl
@[simp] theorem State.computeDay_decoders : (s.computeDay).decoders = s.decoders := rfl
@[simp] theorem State.computeDay_persons : (s.computeDay).persons = s.persons := rfl
@[simp] theorem State.computeDay_tally : (s.computeDay).tally = s.tally := rfl
@[simp] theorem State.computeDay_tallySequence : (s.computeDay).tallySequence = s.tallySequence := rfl
@[simp] theorem State.computeDay_stations : (s.computeDay).stations = s.stations := rfl
@[simp] theorem State.computeDay_lanes : (s.computeDay).lanes = s.lanes := rfl
@[simp] theorem State.computeDay_deadline : (s.computeDay).deadline = s.deadline := rfl
@[simp] theorem State.computeDay_deadlineArrived : (s.computeDay).deadlineArrived = s.deadlineArrived := rfl
@[simp] theorem State.computeDay_guestsReported : (s.computeDay).guestsReported = s.guestsReported := rfl
@[simp] theorem State.computeDay_movementLog : (s.computeDay).movementLog = s.movementLog := rfl
@[simp] theorem State.computeDay_discardCount : (s.computeDay).discardCount = s.discardCount := rfl
@[simp] theorem State.computeDay_cabins : (s.computeDay).cabins = s.cabins := rfl
@[simp] theorem State.computeDay_doorSettings : (s.computeDay).doorSettings = s.doorSettings := rfl
@[simp] theorem State.computeDay_outlets : (s.computeDay).outlets = s.outlets := rfl
@[simp] theorem State.computeDay_slots : (s.computeDay).slots = s.slots := rfl
@[simp] theorem State.computeDay_journal : (s.computeDay).journal = s.journal := rfl
@[simp] theorem State.computeDay_allowance : (s.computeDay).allowance = s.allowance := rfl
@[simp] theorem State.computeDay_nextCharge : (s.computeDay).nextCharge = s.nextCharge := rfl
@[simp] theorem State.computeDay_journalFullReported : (s.computeDay).journalFullReported = s.journalFullReported := rfl
@[simp] theorem State.computeDay_muster : (s.computeDay).muster = s.muster := rfl
@[simp] theorem State.computeDay_station : (s.computeDay).station = s.station := rfl
@[simp] theorem State.computeDay_store : (s.computeDay).store = s.store := rfl
@[simp] theorem State.computeDay_freeIndex : (s.computeDay).freeIndex = s.freeIndex := rfl

/-! ### State.tellArrivals -/

@[simp] theorem State.tellArrivals_pending : (s.tellArrivals).pending = s.pending := rfl
@[simp] theorem State.tellArrivals_phase : (s.tellArrivals).phase = s.phase := rfl
@[simp] theorem State.tellArrivals_isStarting : (s.tellArrivals).isStarting = s.isStarting := rfl
@[simp] theorem State.tellArrivals_isRunning : (s.tellArrivals).isRunning = s.isRunning := rfl
@[simp] theorem State.tellArrivals_unitAddressPins : (s.tellArrivals).unitAddressPins = s.unitAddressPins := rfl
@[simp] theorem State.tellArrivals_unitAddress : (s.tellArrivals).unitAddress = s.unitAddress := rfl
@[simp] theorem State.tellArrivals_powerFailLevel : (s.tellArrivals).powerFailLevel = s.powerFailLevel := rfl
@[simp] theorem State.tellArrivals_clock : (s.tellArrivals).clock = s.clock := rfl
@[simp] theorem State.tellArrivals_decoders : (s.tellArrivals).decoders = s.decoders := rfl
@[simp] theorem State.tellArrivals_persons : (s.tellArrivals).persons = s.persons := rfl
@[simp] theorem State.tellArrivals_tally : (s.tellArrivals).tally = s.tally := rfl
@[simp] theorem State.tellArrivals_tallySequence : (s.tellArrivals).tallySequence = s.tallySequence := rfl
@[simp] theorem State.tellArrivals_stations : (s.tellArrivals).stations = s.stations := rfl
@[simp] theorem State.tellArrivals_lanes : (s.tellArrivals).lanes = s.lanes := rfl
@[simp] theorem State.tellArrivals_deadline : (s.tellArrivals).deadline = s.deadline := rfl
@[simp] theorem State.tellArrivals_deadlineArrived : (s.tellArrivals).deadlineArrived = (s.deadlineArrived || s.deadline.reached s.clock.shipTime) := rfl
@[simp] theorem State.tellArrivals_guestsReported : (s.tellArrivals).guestsReported = s.guestsReported := rfl
@[simp] theorem State.tellArrivals_movementLog : (s.tellArrivals).movementLog = s.movementLog := rfl
@[simp] theorem State.tellArrivals_discardCount : (s.tellArrivals).discardCount = s.discardCount := rfl
@[simp] theorem State.tellArrivals_cabins : (s.tellArrivals).cabins = s.cabins := rfl
@[simp] theorem State.tellArrivals_doorSettings : (s.tellArrivals).doorSettings = s.doorSettings := rfl
@[simp] theorem State.tellArrivals_outlets : (s.tellArrivals).outlets = s.outlets := rfl
@[simp] theorem State.tellArrivals_journal : (s.tellArrivals).journal = s.journal := rfl
@[simp] theorem State.tellArrivals_allowance : (s.tellArrivals).allowance = s.allowance := rfl
@[simp] theorem State.tellArrivals_nextCharge : (s.tellArrivals).nextCharge = s.nextCharge := rfl
@[simp] theorem State.tellArrivals_journalFullReported : (s.tellArrivals).journalFullReported = s.journalFullReported := rfl
@[simp] theorem State.tellArrivals_muster : (s.tellArrivals).muster = s.muster := rfl
@[simp] theorem State.tellArrivals_notices : (s.tellArrivals).notices = s.notices := rfl
@[simp] theorem State.tellArrivals_host : (s.tellArrivals).host = s.host := rfl
@[simp] theorem State.tellArrivals_station : (s.tellArrivals).station = s.station := rfl
@[simp] theorem State.tellArrivals_store : (s.tellArrivals).store = s.store := rfl
@[simp] theorem State.tellArrivals_freeIndex : (s.tellArrivals).freeIndex = s.freeIndex := rfl

/-! ### State.removeEntry -/

@[simp] theorem State.removeEntry_pending (n : Nat) : (s.removeEntry n).pending = s.pending := rfl
@[simp] theorem State.removeEntry_phase (n : Nat) : (s.removeEntry n).phase = s.phase := rfl
@[simp] theorem State.removeEntry_isStarting (n : Nat) : (s.removeEntry n).isStarting = s.isStarting := rfl
@[simp] theorem State.removeEntry_isRunning (n : Nat) : (s.removeEntry n).isRunning = s.isRunning := rfl
@[simp] theorem State.removeEntry_unitAddressPins (n : Nat) : (s.removeEntry n).unitAddressPins = s.unitAddressPins := rfl
@[simp] theorem State.removeEntry_unitAddress (n : Nat) : (s.removeEntry n).unitAddress = s.unitAddress := rfl
@[simp] theorem State.removeEntry_powerFailLevel (n : Nat) : (s.removeEntry n).powerFailLevel = s.powerFailLevel := rfl
@[simp] theorem State.removeEntry_clock (n : Nat) : (s.removeEntry n).clock = s.clock := rfl
@[simp] theorem State.removeEntry_decoders (n : Nat) : (s.removeEntry n).decoders = s.decoders := rfl
@[simp] theorem State.removeEntry_persons (n : Nat) : (s.removeEntry n).persons = s.persons := rfl
@[simp] theorem State.removeEntry_tally (n : Nat) : (s.removeEntry n).tally = s.tally := rfl
@[simp] theorem State.removeEntry_tallySequence (n : Nat) : (s.removeEntry n).tallySequence = s.tallySequence := rfl
@[simp] theorem State.removeEntry_stations (n : Nat) : (s.removeEntry n).stations = s.stations := rfl
@[simp] theorem State.removeEntry_lanes (n : Nat) : (s.removeEntry n).lanes = s.lanes := rfl
@[simp] theorem State.removeEntry_deadline (n : Nat) : (s.removeEntry n).deadline = s.deadline := rfl
@[simp] theorem State.removeEntry_deadlineArrived (n : Nat) : (s.removeEntry n).deadlineArrived = s.deadlineArrived := rfl
@[simp] theorem State.removeEntry_guestsReported (n : Nat) : (s.removeEntry n).guestsReported = s.guestsReported := rfl
@[simp] theorem State.removeEntry_movementLog (n : Nat) : (s.removeEntry n).movementLog = s.movementLog := rfl
@[simp] theorem State.removeEntry_discardCount (n : Nat) : (s.removeEntry n).discardCount = s.discardCount := rfl
@[simp] theorem State.removeEntry_cabins (n : Nat) : (s.removeEntry n).cabins = s.cabins := rfl
@[simp] theorem State.removeEntry_doorSettings (n : Nat) : (s.removeEntry n).doorSettings = s.doorSettings := rfl
@[simp] theorem State.removeEntry_outlets (n : Nat) : (s.removeEntry n).outlets = s.outlets := rfl
@[simp] theorem State.removeEntry_slots (n : Nat) : (s.removeEntry n).slots = s.slots := rfl
@[simp] theorem State.removeEntry_journal (n : Nat) : (s.removeEntry n).journal = (s.journal.eraseP fun e => e.charge == n) := rfl
@[simp] theorem State.removeEntry_allowance (n : Nat) : (s.removeEntry n).allowance = s.allowance := rfl
@[simp] theorem State.removeEntry_nextCharge (n : Nat) : (s.removeEntry n).nextCharge = s.nextCharge := rfl
@[simp] theorem State.removeEntry_journalFullReported (n : Nat) : (s.removeEntry n).journalFullReported = (s.journalFullReported && !s.journalIsFull) := rfl
@[simp] theorem State.removeEntry_muster (n : Nat) : (s.removeEntry n).muster = s.muster := rfl
@[simp] theorem State.removeEntry_notices (n : Nat) : (s.removeEntry n).notices = s.notices := rfl
@[simp] theorem State.removeEntry_host (n : Nat) : (s.removeEntry n).host = s.host := rfl
@[simp] theorem State.removeEntry_station (n : Nat) : (s.removeEntry n).station = s.station := rfl
@[simp] theorem State.removeEntry_store (n : Nat) : (s.removeEntry n).store = s.store := rfl
@[simp] theorem State.removeEntry_freeIndex (n : Nat) : (s.removeEntry n).freeIndex = s.freeIndex := rfl

end Sys2Proof.Machine
end

