-- ==== Sys2Proof/Laws/Table.lean ====
section
/-!
SUPPORT. The laws of the sparse tables: a read after a write gives what was written and leaves every other number alone,
and every operation keeps the canonical form.
-/

namespace Sys2Proof

section Plain

variable {α : Type} {d : α}

@[simp] theorem Table.read_nil (k : Nat) : Table.read d ([] : Table α) k = d := rfl

theorem Table.read_cons (k' : Nat) (v : α) (t : Table α) (k : Nat) :
    Table.read d ((k', v) :: t : Table α) k = if k' = k then v else Table.read d t k := rfl

theorem Table.wf_nil : Table.wf d ([] : Table α) := ⟨List.Pairwise.nil, fun _ h => absurd h (List.not_mem_nil)⟩

theorem Table.wf_cons {e : Nat × α} {t : Table α} :
    Table.wf d (e :: t) ↔ (∀ x ∈ t, e.1 < x.1) ∧ e.2 ≠ d ∧ Table.wf d t := by
  simp only [Table.wf, List.pairwise_cons, List.mem_cons, forall_eq_or_imp]
  tauto

/-- A number below every listed one reads as `d`. -/
theorem Table.read_below {t : Table α} {k : Nat} (h : ∀ x ∈ t, k < x.1) : Table.read d t k = d := by
  induction t with
  | nil => rfl
  | cons e t ih =>
    have hk := h e (by simp)
    rw [show e = (e.1, e.2) from rfl, Table.read_cons, if_neg (by omega)]
    exact ih fun x hx => h x (by simp [hx])

/-- A record that reads as other than `d` is listed. -/
theorem Table.mem_of_read {t : Table α} {k : Nat} (h : Table.read d t k ≠ d) : (k, Table.read d t k) ∈ t := by
  induction t with
  | nil => exact absurd rfl h
  | cons e t ih =>
    obtain ⟨k', v'⟩ := e
    rw [Table.read_cons] at h ⊢
    split
    · rename_i hk; subst hk; exact List.mem_cons_self
    · rename_i hk; rw [if_neg hk] at h; exact List.mem_cons_of_mem _ (ih h)

/-- A listed record is read at its number. -/
theorem Table.read_of_mem {t : Table α} (h : Table.wf d t) {k : Nat} {v : α} (hm : (k, v) ∈ t) :
    Table.read d t k = v := by
  induction t with
  | nil => cases hm
  | cons e t ih =>
    obtain ⟨k', v'⟩ := e
    obtain ⟨hlt, hne, ht⟩ := Table.wf_cons.mp h
    rw [Table.read_cons]
    rcases List.mem_cons.mp hm with hm | hm
    · cases hm; rw [if_pos rfl]
    · rw [if_neg (by have := hlt _ hm; simp only at this; omega)]; exact ih ht hm

end Plain

section Writes

variable {α : Type} [DecidableEq α] {d : α}

/-- What a write leaves: the written value at its number, every other number as before. -/
theorem Table.read_write {t : Table α} (h : Table.wf d t) (k : Nat) (v : α) (j : Nat) :
    Table.read d (Table.write d t k v) j = if j = k then v else Table.read d t j := by
  induction t with
  | nil =>
    by_cases hv : v = d <;> by_cases hj : j = k <;> simp [Table.write, hv, hj, Table.read_cons]
    intro h'; exact absurd h'.symm hj
  | cons e t ih =>
    obtain ⟨k', v'⟩ := e
    obtain ⟨hlt, hne, ht⟩ := Table.wf_cons.mp h
    simp only at hlt
    unfold Table.write
    split
    · rename_i hk
      split
      · rename_i hv
        subst hv
        by_cases hj : j = k
        · subst hj
          rw [if_pos rfl, Table.read_below]
          intro x hx
          rcases List.mem_cons.mp hx with rfl | hx
          · exact hk
          · exact lt_trans hk (hlt x hx)
        · rw [if_neg hj]
      · rw [Table.read_cons]
        by_cases hj : j = k
        · subst hj; simp
        · rw [if_neg (fun h => hj h.symm), if_neg hj]
    · rename_i hk
      split
      · rename_i hk'
        subst hk'
        split
        · rename_i hv
          subst hv
          by_cases hj : j = k
          · subst hj; rw [if_pos rfl]; exact Table.read_below hlt
          · rw [if_neg hj, Table.read_cons, if_neg (fun h => hj h.symm)]
        · rw [Table.read_cons, Table.read_cons]
          by_cases hj : j = k
          · subst hj; simp
          · have hj' : ¬ k = j := fun h => hj h.symm
            simp only [hj, hj', if_false]
      · rename_i hkk
        rw [Table.read_cons, Table.read_cons, ih ht]
        by_cases hj : j = k
        · subst hj; rw [if_neg (fun h => hkk h.symm)]; simp
        · simp [hj]

theorem Table.read_write_same {t : Table α} (h : Table.wf d t) (k : Nat) (v : α) :
    Table.read d (Table.write d t k v) k = v := by rw [Table.read_write h, if_pos rfl]

theorem Table.read_write_other {t : Table α} (h : Table.wf d t) {j k : Nat} (v : α) (hj : j ≠ k) :
    Table.read d (Table.write d t k v) j = Table.read d t j := by rw [Table.read_write h, if_neg hj]

/-- What a write lists: the written entry, or an entry of before. -/
theorem Table.mem_write {t : Table α} {k : Nat} {v : α} {x : Nat × α} (h : x ∈ Table.write d t k v) :
    x = (k, v) ∨ x ∈ t := by
  induction t with
  | nil =>
    unfold Table.write at h
    split at h
    · cases h
    · exact .inl (by simpa using h)
  | cons e t ih =>
    obtain ⟨k', v'⟩ := e
    unfold Table.write at h
    split at h
    · split at h
      · exact .inr h
      · rcases List.mem_cons.mp h with h | h
        · exact .inl h
        · exact .inr h
    · split at h
      · split at h
        · exact .inr (List.mem_cons_of_mem _ h)
        · rcases List.mem_cons.mp h with h | h
          · exact .inl h
          · exact .inr (List.mem_cons_of_mem _ h)
      · rcases List.mem_cons.mp h with h | h
        · exact .inr (by rw [h]; exact List.mem_cons_self)
        · rcases ih h with h | h
          · exact .inl h
          · exact .inr (List.mem_cons_of_mem _ h)

/-- A write keeps the canonical form. -/
theorem Table.wf_write {t : Table α} (h : Table.wf d t) (k : Nat) (v : α) : Table.wf d (Table.write d t k v) := by
  induction t with
  | nil =>
    by_cases hv : v = d
    · rw [Table.write, if_pos hv]; exact Table.wf_nil
    · rw [Table.write, if_neg hv]; exact Table.wf_cons.mpr ⟨fun _ hx => absurd hx List.not_mem_nil, hv, Table.wf_nil⟩
  | cons e t ih =>
    obtain ⟨k', v'⟩ := e
    obtain ⟨hlt, hne, ht⟩ := Table.wf_cons.mp h
    simp only at hlt
    unfold Table.write
    split
    · rename_i hk
      split
      · exact h
      · rename_i hv
        refine Table.wf_cons.mpr ⟨?_, hv, h⟩
        intro x hx
        rcases List.mem_cons.mp hx with rfl | hx
        · exact hk
        · exact lt_trans hk (hlt x hx)
    · rename_i hk
      split
      · rename_i hk'
        subst hk'
        split
        · exact ht
        · rename_i hv; exact Table.wf_cons.mpr ⟨hlt, hv, ht⟩
      · rename_i hkk
        refine Table.wf_cons.mpr ⟨?_, hne, ih ht⟩
        intro x hx
        rcases Table.mem_write hx with rfl | hx
        · simp only; omega
        · exact hlt x hx

/-- The change of every listed record keeps the canonical form. -/
theorem Table.wf_mapRecords {t : Table α} (h : Table.wf d t) (f : α → α) : Table.wf d (t.mapRecords d f) := by
  refine ⟨?_, ?_⟩
  · exact List.Pairwise.filter _ (List.pairwise_map.mpr (h.1.imp fun hab => hab))
  · intro e he
    have := (List.mem_filter.mp he).2
    simpa using this

/-- What the change of every record reads as, for a change that keeps `d`. -/
theorem Table.read_mapRecords {t : Table α} (h : Table.wf d t) {f : α → α} (hf : f d = d) (k : Nat) :
    Table.read d (t.mapRecords d f) k = f (Table.read d t k) := by
  induction t with
  | nil => simp [Table.mapRecords, hf]
  | cons e t ih =>
    obtain ⟨k', v'⟩ := e
    obtain ⟨hlt, hne, ht⟩ := Table.wf_cons.mp h
    simp only at hlt
    have step : Table.mapRecords d f ((k', v') :: t) =
        if f v' = d then Table.mapRecords d f t else (k', f v') :: Table.mapRecords d f t := by
      simp only [Table.mapRecords, List.map_cons, List.filter_cons]
      by_cases hv : f v' = d <;> simp [hv]
    rw [step, Table.read_cons]
    by_cases hk : k' = k
    · subst hk
      rw [if_pos rfl]
      split
      · rename_i hv
        rw [ih ht, Table.read_below hlt, hf, hv]
      · rw [Table.read_cons, if_pos rfl]
    · rw [if_neg hk]
      split
      · exact ih ht
      · rw [Table.read_cons, if_neg hk]; exact ih ht

/-- A table written from entries is in canonical form. -/
theorem Table.wf_ofEntries (entries : List (Nat × α)) : Table.wf d (Table.ofEntries d entries) := by
  suffices h : ∀ t : Table α, Table.wf d t →
      Table.wf d (entries.foldl (fun t e => Table.write d t e.1 e.2) t) from h [] Table.wf_nil
  induction entries with
  | nil => exact fun t ht => ht
  | cons e es ih => exact fun t ht => ih _ (Table.wf_write ht e.1 e.2)

end Writes

end Sys2Proof
end

