-- ==== Sys2Proof/Laws/Ops.lean ====
section
/-!
SUPPORT. What each shared operation can do, said once: the taking of a request, the change of a person record, the notices,
the removal of permits, the writer's turn, the due assertion and the ends of filter runs.
-/

namespace Sys2Proof.Machine

/-! ### Taking a request (R173) -/

section Taking

variable {α : Type} {kind : Byte} {decode : List Byte → Option α} {r : Request} {q : α} {s : State}

/-- A host request that is offered is acted upon and answered. -/
theorem takeHost_taken (h : HostOffer s kind decode r q) (act : α → State → State × HostAnswer) :
    takeHost kind decode act r s
      = .next ((act q s.dropHostRequest).1.hostReply
          ⟨kind, r.tag, (act q s.dropHostRequest).2.result, (act q s.dropHostRequest).2.fields⟩).writerTurn := by
  simp only [takeHost, h.takes, if_true, if_neg h.tagged, h.body, event]

/-- A station request that is offered is acted upon and answered. -/
theorem takeStation_taken (h : StationOffer s kind decode r q) (act : α → State → State × StationAnswer) :
    takeStation kind decode act r s
      = .next ((act q s.dropStationRequest).1.stationReply
          ⟨kind, r.tag, (act q s.dropStationRequest).2.result, (act q s.dropStationRequest).2.groups⟩).writerTurn := by
  simp only [takeStation, h.takes, if_true, if_neg h.tagged, h.body, event]

/-- A host request with tag 0, or whose body does not decode, is answered MALFORMED. -/
theorem takeHost_malformed (ht : s.hostTakes ⟨kind, r.tag, r.body⟩ = true) (hd : r.tag = 0 ∨ decode r.body = none)
    (act : α → State → State × HostAnswer) :
    takeHost kind decode act r s = .next (s.dropHostRequest.hostReply ⟨kind, r.tag, .malformed, []⟩).writerTurn := by
  have hn : (if r.tag = 0 then none else decode r.body) = none := by rcases hd with h | h <;> simp [h]
  simp only [takeHost, ht, if_true, hn, event]

/-- A station request with tag 0, or whose body does not decode, is answered MALFORMED. -/
theorem takeStation_malformed (ht : s.stationTakes ⟨kind, r.tag, r.body⟩ = true)
    (hd : r.tag = 0 ∨ decode r.body = none) (act : α → State → State × StationAnswer) :
    takeStation kind decode act r s
      = .next (s.dropStationRequest.stationReply ⟨kind, r.tag, .malformed, StationGroups.empty⟩).writerTurn := by
  have hn : (if r.tag = 0 then none else decode r.body) = none := by rcases hd with h | h <;> simp [h]
  simp only [takeStation, ht, if_true, hn, event]

/-- Everything that the taking of a host request can do. -/
theorem takeHost_cases {t : State} {act : α → State → State × HostAnswer}
    (h : takeHost kind decode act r s = .next t) :
    (s.hostTakes ⟨kind, r.tag, r.body⟩ = false ∧ t = s)
      ∨ (s.hostTakes ⟨kind, r.tag, r.body⟩ = true ∧ (r.tag = 0 ∨ decode r.body = none)
          ∧ t = (s.dropHostRequest.hostReply ⟨kind, r.tag, .malformed, []⟩).writerTurn)
      ∨ ∃ q, HostOffer s kind decode r q
          ∧ t = ((act q s.dropHostRequest).1.hostReply
              ⟨kind, r.tag, (act q s.dropHostRequest).2.result, (act q s.dropHostRequest).2.fields⟩).writerTurn := by
  by_cases ht : s.hostTakes ⟨kind, r.tag, r.body⟩ = true
  · refine .inr ?_
    by_cases hz : r.tag = 0
    · rw [takeHost_malformed ht (.inl hz)] at h
      cases h; exact .inl ⟨ht, .inl hz, rfl⟩
    · cases hd : decode r.body with
      | none => rw [takeHost_malformed ht (.inr hd)] at h; cases h; exact .inl ⟨ht, .inr rfl, rfl⟩
      | some q => rw [takeHost_taken ⟨ht, hz, hd⟩] at h; cases h; exact .inr ⟨q, ⟨ht, hz, hd⟩, rfl⟩
  · have hf : s.hostTakes ⟨kind, r.tag, r.body⟩ = false := by simpa using ht
    simp only [takeHost, hf] at h
    cases h
    exact .inl ⟨hf, rfl⟩

/-- Everything that the taking of a station request can do. -/
theorem takeStation_cases {t : State} {act : α → State → State × StationAnswer}
    (h : takeStation kind decode act r s = .next t) :
    (s.stationTakes ⟨kind, r.tag, r.body⟩ = false ∧ t = s)
      ∨ (s.stationTakes ⟨kind, r.tag, r.body⟩ = true ∧ (r.tag = 0 ∨ decode r.body = none)
          ∧ t = (s.dropStationRequest.stationReply ⟨kind, r.tag, .malformed, StationGroups.empty⟩).writerTurn)
      ∨ ∃ q, StationOffer s kind decode r q
          ∧ t = ((act q s.dropStationRequest).1.stationReply
              ⟨kind, r.tag, (act q s.dropStationRequest).2.result, (act q s.dropStationRequest).2.groups⟩).writerTurn := by
  by_cases ht : s.stationTakes ⟨kind, r.tag, r.body⟩ = true
  · refine .inr ?_
    by_cases hz : r.tag = 0
    · rw [takeStation_malformed ht (.inl hz)] at h
      cases h; exact .inl ⟨ht, .inl hz, rfl⟩
    · cases hd : decode r.body with
      | none => rw [takeStation_malformed ht (.inr hd)] at h; cases h; exact .inl ⟨ht, .inr rfl, rfl⟩
      | some q => rw [takeStation_taken ⟨ht, hz, hd⟩] at h; cases h; exact .inr ⟨q, ⟨ht, hz, hd⟩, rfl⟩
  · have hf : s.stationTakes ⟨kind, r.tag, r.body⟩ = false := by simpa using ht
    simp only [takeStation, hf] at h
    cases h
    exact .inl ⟨hf, rfl⟩

/-- How a claim about a host command that is taken is shown: of the state that the owner's act, the reply and the writer's
turn leave. -/
theorem takeHost_done {c : Instr} {act : α → State → State × HostAnswer} {P : State → Prop} (h : HostOffer s kind decode r q)
    (hx : exec c s = takeHost kind decode act r s)
    (hp : P ((act q s.dropHostRequest).1.hostReply
      ⟨kind, r.tag, (act q s.dropHostRequest).2.result, (act q s.dropHostRequest).2.fields⟩).writerTurn) :
    ∃ t, exec c s = .next t ∧ P t := ⟨_, hx.trans (takeHost_taken h act), hp⟩

/-- The same of a station command. -/
theorem takeStation_done {c : Instr} {act : α → State → State × StationAnswer} {P : State → Prop}
    (h : StationOffer s kind decode r q) (hx : exec c s = takeStation kind decode act r s)
    (hp : P ((act q s.dropStationRequest).1.stationReply
      ⟨kind, r.tag, (act q s.dropStationRequest).2.result, (act q s.dropStationRequest).2.groups⟩).writerTurn) :
    ∃ t, exec c s = .next t ∧ P t := ⟨_, hx.trans (takeStation_taken h act), hp⟩

/-- The same of an event that takes place. -/
theorem event_done {c : Instr} {after : State} {P : State → Prop} (hx : exec c s = event after)
    (hp : P after.writerTurn) : ∃ t, exec c s = .next t ∧ P t := ⟨_, hx, hp⟩

end Taking

/-! ### The numbered records across the taking and the answering of a request -/

section Across

variable (s : State)

@[simp] theorem State.dropHostRequest_person : (s.dropHostRequest).person = s.person := rfl
@[simp] theorem State.dropHostRequest_lane : (s.dropHostRequest).lane = s.lane := rfl
@[simp] theorem State.dropHostRequest_cabin : (s.dropHostRequest).cabin = s.cabin := rfl
@[simp] theorem State.dropHostRequest_decoder : (s.dropHostRequest).decoder = s.decoder := rfl
@[simp] theorem State.dropHostRequest_stationEntry : (s.dropHostRequest).stationEntry = s.stationEntry := rfl
@[simp] theorem State.dropHostRequest_outlet : (s.dropHostRequest).outlet = s.outlet := rfl
@[simp] theorem State.dropHostRequest_slot : (s.dropHostRequest).slot = s.slot := rfl
@[simp] theorem State.dropHostRequest_tallyCount : (s.dropHostRequest).tallyCount = s.tallyCount := rfl
@[simp] theorem State.dropHostRequest_accountOf : (s.dropHostRequest).accountOf = s.accountOf := rfl
@[simp] theorem State.dropHostRequest_decodeCard : (s.dropHostRequest).decodeCard = s.decodeCard := rfl
@[simp] theorem State.dropHostRequest_decidingDecoder : (s.dropHostRequest).decidingDecoder = s.decidingDecoder := rfl
@[simp] theorem State.dropHostRequest_countPersons : (s.dropHostRequest).countPersons = s.countPersons := rfl

@[simp] theorem State.dropStationRequest_person : (s.dropStationRequest).person = s.person := rfl
@[simp] theorem State.dropStationRequest_lane : (s.dropStationRequest).lane = s.lane := rfl
@[simp] theorem State.dropStationRequest_cabin : (s.dropStationRequest).cabin = s.cabin := rfl
@[simp] theorem State.dropStationRequest_decoder : (s.dropStationRequest).decoder = s.decoder := rfl
@[simp] theorem State.dropStationRequest_stationEntry : (s.dropStationRequest).stationEntry = s.stationEntry := rfl
@[simp] theorem State.dropStationRequest_outlet : (s.dropStationRequest).outlet = s.outlet := rfl
@[simp] theorem State.dropStationRequest_slot : (s.dropStationRequest).slot = s.slot := rfl
@[simp] theorem State.dropStationRequest_tallyCount : (s.dropStationRequest).tallyCount = s.tallyCount := rfl
@[simp] theorem State.dropStationRequest_accountOf : (s.dropStationRequest).accountOf = s.accountOf := rfl
@[simp] theorem State.dropStationRequest_decodeCard : (s.dropStationRequest).decodeCard = s.decodeCard := rfl
@[simp] theorem State.dropStationRequest_decidingDecoder : (s.dropStationRequest).decidingDecoder = s.decidingDecoder := rfl
@[simp] theorem State.dropStationRequest_countPersons : (s.dropStationRequest).countPersons = s.countPersons := rfl

@[simp] theorem State.hostReply_person (r : HostReply) : (s.hostReply r).person = s.person := rfl
@[simp] theorem State.hostReply_lane (r : HostReply) : (s.hostReply r).lane = s.lane := rfl
@[simp] theorem State.hostReply_cabin (r : HostReply) : (s.hostReply r).cabin = s.cabin := rfl
@[simp] theorem State.hostReply_decoder (r : HostReply) : (s.hostReply r).decoder = s.decoder := rfl
@[simp] theorem State.hostReply_stationEntry (r : HostReply) : (s.hostReply r).stationEntry = s.stationEntry := rfl
@[simp] theorem State.hostReply_outlet (r : HostReply) : (s.hostReply r).outlet = s.outlet := rfl
@[simp] theorem State.hostReply_slot (r : HostReply) : (s.hostReply r).slot = s.slot := rfl
@[simp] theorem State.hostReply_tallyCount (r : HostReply) : (s.hostReply r).tallyCount = s.tallyCount := rfl
@[simp] theorem State.hostReply_accountOf (r : HostReply) : (s.hostReply r).accountOf = s.accountOf := rfl
@[simp] theorem State.hostReply_decodeCard (r : HostReply) : (s.hostReply r).decodeCard = s.decodeCard := rfl
@[simp] theorem State.hostReply_decidingDecoder (r : HostReply) : (s.hostReply r).decidingDecoder = s.decidingDecoder := rfl
@[simp] theorem State.hostReply_countPersons (r : HostReply) : (s.hostReply r).countPersons = s.countPersons := rfl

@[simp] theorem State.stationReply_person (r : StationReply) : (s.stationReply r).person = s.person := rfl
@[simp] theorem State.stationReply_lane (r : StationReply) : (s.stationReply r).lane = s.lane := rfl
@[simp] theorem State.stationReply_cabin (r : StationReply) : (s.stationReply r).cabin = s.cabin := rfl
@[simp] theorem State.stationReply_decoder (r : StationReply) : (s.stationReply r).decoder = s.decoder := rfl
@[simp] theorem State.stationReply_stationEntry (r : StationReply) : (s.stationReply r).stationEntry = s.stationEntry := rfl
@[simp] theorem State.stationReply_outlet (r : StationReply) : (s.stationReply r).outlet = s.outlet := rfl
@[simp] theorem State.stationReply_slot (r : StationReply) : (s.stationReply r).slot = s.slot := rfl
@[simp] theorem State.stationReply_tallyCount (r : StationReply) : (s.stationReply r).tallyCount = s.tallyCount := rfl
@[simp] theorem State.stationReply_accountOf (r : StationReply) : (s.stationReply r).accountOf = s.accountOf := rfl
@[simp] theorem State.stationReply_decodeCard (r : StationReply) : (s.stationReply r).decodeCard = s.decodeCard := rfl
@[simp] theorem State.stationReply_decidingDecoder (r : StationReply) : (s.stationReply r).decidingDecoder = s.decidingDecoder := rfl
@[simp] theorem State.stationReply_countPersons (r : StationReply) : (s.stationReply r).countPersons = s.countPersons := rfl

@[simp] theorem State.writerTurn_person : (s.writerTurn).person = s.person := rfl
@[simp] theorem State.writerTurn_lane : (s.writerTurn).lane = s.lane := rfl
@[simp] theorem State.writerTurn_cabin : (s.writerTurn).cabin = s.cabin := rfl
@[simp] theorem State.writerTurn_decoder : (s.writerTurn).decoder = s.decoder := rfl
@[simp] theorem State.writerTurn_stationEntry : (s.writerTurn).stationEntry = s.stationEntry := rfl
@[simp] theorem State.writerTurn_outlet : (s.writerTurn).outlet = s.outlet := rfl
@[simp] theorem State.writerTurn_slot : (s.writerTurn).slot = s.slot := rfl
@[simp] theorem State.writerTurn_tallyCount : (s.writerTurn).tallyCount = s.tallyCount := rfl
@[simp] theorem State.writerTurn_accountOf : (s.writerTurn).accountOf = s.accountOf := rfl
@[simp] theorem State.writerTurn_decodeCard : (s.writerTurn).decodeCard = s.decodeCard := rfl
@[simp] theorem State.writerTurn_decidingDecoder : (s.writerTurn).decidingDecoder = s.decidingDecoder := rfl
@[simp] theorem State.writerTurn_countPersons : (s.writerTurn).countPersons = s.countPersons := rfl

end Across

/-! ### The numbered records after a write -/

section Reads

variable {s : State}

theorem person_write (h : s.persons.wf none) (i : Nat) (v : Option Person) (j : Nat) :
    Table.read none (s.persons.write none i v) j = if j = i then v else s.person j := Table.read_write h i v j

theorem lane_putLane (h : s.lanes.wf Lane.reset) (l : Nat) (v : Lane) (j : Nat) :
    (s.putLane l v).lane j = if j = l then v else s.lane j := Table.read_write h l v j

theorem cabin_putCabin (h : s.cabins.wf Cabin.reset) (c : Nat) (v : Cabin) (j : Nat) :
    (s.putCabin c v).cabin j = if j = c then v else s.cabin j := Table.read_write h c v j

theorem slot_putSlot (h : s.slots.wf Slot.reset) (k : Nat) (v : Slot) (j : Nat) :
    (s.putSlot k v).slot j = if j = k then v else s.slot j := Table.read_write h k v j

theorem wf_putLane (h : s.lanes.wf Lane.reset) (l : Nat) (v : Lane) : (s.putLane l v).lanes.wf Lane.reset :=
  Table.wf_write h l v

theorem wf_putCabin (h : s.cabins.wf Cabin.reset) (c : Nat) (v : Cabin) : (s.putCabin c v).cabins.wf Cabin.reset :=
  Table.wf_write h c v

theorem wf_putSlot (h : s.slots.wf Slot.reset) (k : Nat) (v : Slot) : (s.putSlot k v).slots.wf Slot.reset :=
  Table.wf_write h k v

end Reads

/-! ### Decoding a card (R3) -/

/-- A decode that passes yields the record at its index. -/
theorem State.person_of_passed {s : State} {c : Card} {i : Nat} {p : Person} (h : s.decodeCard c = .passed i p) :
    s.person i = some p := by
  unfold State.decodeCard at h
  cases hd : s.decidingDecoder c.number with
  | none => simp only [hd] at h; cases h
  | some d =>
    simp only [hd] at h
    split at h
    · cases h
    · cases hp : s.person (c.number + d.offset).toNat with
      | none => simp only [hp] at h; cases h
      | some v =>
        simp only [hp] at h
        split at h
        · cases h
        · split at h
          · cases h; exact hp
          · split at h <;> cases h

/-! ### Notices (R143, R144, R153) -/

@[simp] theorem State.raiseWhen_false (m : MemberId) (d : Nat) (s : State) : s.raiseWhen false m d = s := by
  simp [State.raiseWhen]

/-- What a raising leaves in a member: the raised one has taken its event, every other is as it was. -/
theorem Notices.member_raise {n : Notices} (h : n.members.wf Member.reset) (m : MemberId) (d : Nat) (m' : MemberId) :
    (n.raise m d).member m' = if m'.key = m.key then (n.member m).afterEvent d else n.member m' := by
  unfold Notices.raise Notices.putPending Notices.putMember Notices.member
  exact Table.read_write h _ _ _

theorem Notices.wf_raise {n : Notices} (h : n.members.wf Member.reset) (m : MemberId) (d : Nat) :
    (n.raise m d).members.wf Member.reset := Table.wf_write h _ _

@[simp] theorem Notices.raise_levels (n : Notices) (m : MemberId) (d : Nat) : (n.raise m d).levels = n.levels := rfl
@[simp] theorem Notices.raise_serviceLevel (n : Notices) (m : MemberId) (d : Nat) :
    (n.raise m d).serviceLevel = n.serviceLevel := rfl
@[simp] theorem Notices.raise_stack (n : Notices) (m : MemberId) (d : Nat) : (n.raise m d).stack = n.stack := rfl

/-- Members' events leave every other member as it was. -/
theorem Notices.member_raiseAll {n : Notices} (h : n.members.wf Member.reset) {es : List (MemberId × Nat)} {m : MemberId}
    (hm : ∀ e ∈ es, e.1.key ≠ m.key) : (es.foldl (fun n e => n.raise e.1 e.2) n).member m = n.member m := by
  induction es generalizing n with
  | nil => rfl
  | cons e es ih =>
    rw [List.foldl_cons, ih (Notices.wf_raise h _ _) fun x hx => hm x (List.mem_cons_of_mem _ hx),
      Notices.member_raise h, if_neg fun hk => hm e List.mem_cons_self hk.symm]

/-- Nothing has been raised where the notices and the wake output stand. -/
theorem RaisedAll.of_silent {s t : State} (h : Silent s t) : RaisedAll s t [] := by
  simp [RaisedAll, h.1, h.2]

/-- One more event, of a member that has not had one. -/
theorem RaisedAll.raiseWhen {s t : State} {es : List (MemberId × Nat)} (h : RaisedAll s t es)
    (hw : s.notices.members.wf Member.reset) (ha : t.host.asleep = s.host.asleep) {c : Bool} {m : MemberId} (d : Nat)
    (hm : ∀ e ∈ es, e.1.key ≠ m.key) : RaisedAll s (t.raiseWhen c m d) (es ++ eventIf (c = true) m d) := by
  cases c with
  | false => simpa [eventIf] using h
  | true =>
    refine ⟨by simp [eventIf, h.1], ?_⟩
    have : t.notices.member m = s.notices.member m := by rw [h.1, Notices.member_raiseAll hw hm]
    simp [eventIf, h.2, ha, this, Bool.and_or_distrib_left, Bool.or_assoc]

theorem mem_eventIf {p : Prop} [Decidable p] {m : MemberId} {d : Nat} {e : MemberId × Nat} :
    e ∈ eventIf p m d ↔ p ∧ e = (m, d) := by
  unfold eventIf; split <;> simp [*]

/-- An event depends on its condition alone. -/
theorem eventIf_congr {p q : Prop} [Decidable p] [Decidable q] (h : p ↔ q) (m : MemberId) (d : Nat) :
    eventIf p m d = eventIf q m d := by simp only [eventIf, h]

/-- The one member whose event has been raised. -/
theorem Raised.of_raise (s : State) (m : MemberId) (d : Nat) : Raised s (s.raise m d) m d :=
  ⟨by simp [State.raise, State.raiseWhen], by simp [State.raise, State.raiseWhen]⟩

/-! ### The change of a person record -/

section Persons

variable {s : State}

/-- A change that reaches neither class, location, cabin, muster state nor a retained field changes the record alone. -/
theorem State.changePerson_quiet {i : Nat} {new : Option Person} (hp : placeOf (s.person i) = placeOf new)
    (hm : musterOf (s.person i) = musterOf new) (hc : cabinOf (s.person i) = cabinOf new)
    (hr : retained (s.person i) = retained new) :
    s.changePerson i new = { s with persons := s.persons.write none i new } := by
  have hmu : s.muster.move (musterOf (s.person i)) (musterOf new) = s.muster := by simp [Muster.move, hm]
  have hd : (decide (0 < s.muster.unmustered) && s.muster.unmustered == 0) = false := by
    rw [Bool.and_eq_false_iff]
    by_cases h : 0 < s.muster.unmustered
    · exact .inr (by simp; omega)
    · exact .inl (by simp; omega)
  simp only [State.changePerson, hmu, hd, hp, hc, hr, moveTally, moveOccupant, State.guestsDue, Store.markWhen, if_true,
    ne_eq, not_true_eq_false, decide_false, Bool.false_and, State.raiseWhen_false, Bool.or_false]
  rfl

/-- The record at an index after a change. -/
theorem State.person_changePerson (h : s.persons.wf none) (i : Nat) (new : Option Person) (j : Nat) :
    (s.changePerson i new).person j = if j = i then new else s.person j := Table.read_write h i new j

theorem State.wf_changePerson (h : s.persons.wf none) (i : Nat) (new : Option Person) :
    (s.changePerson i new).persons.wf none := Table.wf_write h i new

/-- The notices of a person change: ALL_MUSTERED and ALL_GUESTS_ABOARD where they are due, and no others. -/
theorem State.changePerson_raised (h : s.notices.members.wf Member.reset) (i : Nat) (new : Option Person) :
    RaisedAll s (s.changePerson i new)
      (eventIf (LastMustered s (s.changePerson i new)) MemberId.allMustered s.muster.id
        ++ eventIf (GuestsCome s (s.changePerson i new) (placeOf (s.person i) ≠ placeOf new)) MemberId.allGuestsAboard 0) := by
  rw [eventIf_congr (p := LastMustered s (s.changePerson i new))
      (q := (decide (0 < s.muster.unmustered) && (s.changePerson i new).muster.unmustered == 0) = true) (by simp),
    eventIf_congr (p := GuestsCome s (s.changePerson i new) (placeOf (s.person i) ≠ placeOf new))
      (q := s.guestsDue (decide (placeOf (s.person i) ≠ placeOf new)) (s.changePerson i new).tally = true)
      (by simp [State.guestsDue, State.tallyCount, and_assoc])]
  exact RaisedAll.raiseWhen (RaisedAll.raiseWhen (es := []) (RaisedAll.of_silent ⟨rfl, rfl⟩) h rfl _ (by simp)) h rfl _
    fun e he => (mem_eventIf.mp he).2 ▸ (by decide : MemberId.allMustered.key ≠ MemberId.allGuestsAboard.key)


/-- What a change of a record's account, or of its gate permit, leaves: the record alone has changed. -/
theorem State.changePerson_account {i : Nat} {p : Person} (h : s.person i = some p) (a : Option Account) :
    s.changePerson i (some { p with account := a })
      = { s with persons := s.persons.write none i (some { p with account := a }) } :=
  State.changePerson_quiet (by simp [h, placeOf]) (by simp [h, musterOf]) (by simp [h, cabinOf]) (by simp [h, retained])

theorem State.changePerson_gatePermit {i : Nat} {p : Person} (h : s.person i = some p) (g : Option Nat) :
    s.changePerson i (some { p with gatePermit := g })
      = { s with persons := s.persons.write none i (some { p with gatePermit := g }) } :=
  State.changePerson_quiet (by simp [h, placeOf]) (by simp [h, musterOf]) (by simp [h, cabinOf]) (by simp [h, retained])

/-- A change of an account changes the record alone, and only where there is an account. -/
theorem State.changeAccount_eq (i : Nat) (f : Account → Account) {p : Person} {a : Account} (hp : s.person i = some p)
    (ha : p.account = some a) :
    s.changeAccount i f
      = { s with persons := s.persons.write none i (some { p with account := some (f a) }) } := by
  simp only [State.changeAccount, hp, ha]
  exact State.changePerson_account hp _

theorem State.changeAccount_none (i : Nat) (f : Account → Account) (h : s.accountOf i = none) :
    s.changeAccount i f = s := by
  unfold State.accountOf at h
  unfold State.changeAccount
  cases hp : s.person i with
  | none => rfl
  | some p =>
    rw [hp] at h
    simp only [Option.bind_some] at h
    simp [h]

/-- A change of an account touches nothing but the person records. -/
theorem State.changeAccount_frame (i : Nat) (f : Account → Account) :
    ∃ ps, s.changeAccount i f = { s with persons := ps } := by
  unfold State.changeAccount
  cases hp : s.person i with
  | none => exact ⟨s.persons, rfl⟩
  | some p =>
    cases ha : p.account with
    | none => exact ⟨s.persons, by simp [ha]⟩
    | some a => exact ⟨_, by simp only [ha]; exact State.changePerson_account hp _⟩

/-- The removal of a gate permit changes the record alone. -/
theorem State.dropGatePermit_eq (i : Nat) {p : Person} (hp : s.person i = some p) :
    s.dropGatePermit i = { s with persons := s.persons.write none i (some { p with gatePermit := none }) } := by
  simp only [State.dropGatePermit, hp]
  exact State.changePerson_gatePermit hp _

theorem State.dropGatePermit_empty (i : Nat) (hp : s.person i = none) : s.dropGatePermit i = s := by
  simp only [State.dropGatePermit, hp]

end Persons

/-! ### The removal of permits (R51, R52, R57, R58) -/

section Permits

variable {s : State}

/-- The removal of the gate permit fields of a list of permits touches nothing but the person records. -/
theorem dropAll_frame (l : List Permit) (s : State) :
    ∃ ps, (l.foldl (fun s p => s.dropGatePermit p.person) s) = { s with persons := ps } := by
  induction l generalizing s with
  | nil => exact ⟨s.persons, rfl⟩
  | cons p l ih =>
    rw [List.foldl_cons]
    cases hp : s.person p.person with
    | none => rw [State.dropGatePermit_empty _ hp]; exact ih s
    | some v =>
      rw [State.dropGatePermit_eq _ hp]
      obtain ⟨ps, h⟩ := ih { s with persons := s.persons.write none p.person (some { v with gatePermit := none }) }
      exact ⟨ps, h⟩

theorem dropAll_wf (l : List Permit) {s : State} (h : s.persons.wf none) :
    (l.foldl (fun s p => s.dropGatePermit p.person) s).persons.wf none := by
  induction l generalizing s with
  | nil => exact h
  | cons p l ih =>
    rw [List.foldl_cons]
    refine ih ?_
    cases hp : s.person p.person with
    | none => rw [State.dropGatePermit_empty _ hp]; exact h
    | some v => rw [State.dropGatePermit_eq _ hp]; exact Table.wf_write h _ _

/-- What the removal leaves in a record: its gate permit is gone when a permit of the list is its person's; everything
else of it stands. -/
theorem dropAll_person (l : List Permit) {s : State} (h : s.persons.wf none) (j : Nat) :
    (l.foldl (fun s p => s.dropGatePermit p.person) s).person j
      = if ∃ p ∈ l, p.person = j then (s.person j).map fun v => { v with gatePermit := none } else s.person j := by
  induction l generalizing s with
  | nil => simp
  | cons p l ih =>
    rw [List.foldl_cons]
    cases hp : s.person p.person with
    | none =>
      rw [State.dropGatePermit_empty _ hp, ih h]
      by_cases hj : p.person = j
      · subst hj; simp [hp]
      · simp [hj]
    | some v =>
      rw [State.dropGatePermit_eq _ hp, ih (Table.wf_write h _ _)]
      have hr : ∀ k, State.person { s with persons := s.persons.write none p.person (some { v with gatePermit := none }) } k
          = if k = p.person then some { v with gatePermit := none } else s.person k := fun k => Table.read_write h _ _ _
      rw [hr]
      by_cases hj : j = p.person
      · subst hj; simp [hp]
      · have hj' : ¬ p.person = j := fun h => hj h.symm
        simp [hj, hj']

/-- What the removal of permits from a lane leaves outside the person records and that lane: everything. -/
theorem State.removePermits_frame (lane : Nat) (gone : Permit → Bool) (s : State) :
    ∃ ps, s.removePermits lane gone
      = { s with
          persons := ps
          lanes := s.lanes.write Lane.reset lane
            { s.lane lane with permits := (s.lane lane).permits.filter fun p => !gone p }.settleFlap } := by
  obtain ⟨ps, h⟩ := dropAll_frame ((s.lane lane).permits.filter gone) s
  exact ⟨ps, by unfold State.removePermits; simp only [h]; rfl⟩

/-- What the removal of permits from a lane leaves in a record. -/
theorem State.person_removePermits (h : s.persons.wf none) (lane : Nat) (gone : Permit → Bool) (j : Nat) :
    (s.removePermits lane gone).person j
      = if ∃ p ∈ (s.lane lane).permits.filter gone, p.person = j then
          (s.person j).map fun v => { v with gatePermit := none }
        else s.person j := dropAll_person _ h j

theorem State.wf_removePermits (h : s.persons.wf none) (lane : Nat) (gone : Permit → Bool) :
    (s.removePermits lane gone).persons.wf none := dropAll_wf _ h

/-- What the removal of permits from a lane leaves in the lanes. -/
theorem State.lane_removePermits (h : s.lanes.wf Lane.reset) (lane : Nat) (gone : Permit → Bool) (j : Nat) :
    (s.removePermits lane gone).lane j
      = if j = lane then { s.lane lane with permits := (s.lane lane).permits.filter fun p => !gone p }.settleFlap
        else s.lane j := by
  obtain ⟨ps, hf⟩ := State.removePermits_frame lane gone s
  rw [hf]
  exact Table.read_write h _ _ _

theorem State.lanes_removePermits_wf (h : s.lanes.wf Lane.reset) (lane : Nat) (gone : Permit → Bool) :
    (s.removePermits lane gone).lanes.wf Lane.reset := by
  obtain ⟨ps, hf⟩ := State.removePermits_frame lane gone s
  rw [hf]
  exact Table.wf_write h _ _

/-- Where no permit is removed, a removal leaves the records as they are. -/
theorem State.removePermits_none (lane : Nat) (gone : Permit → Bool)
    (h : (s.lane lane).permits.filter gone = []) :
    s.removePermits lane gone = s.putLane lane
      { s.lane lane with permits := (s.lane lane).permits.filter fun p => !gone p }.settleFlap := by
  simp only [State.removePermits, h, List.foldl_nil]

/-- The cancellation of every permit touches nothing but the person records and the lanes. -/
theorem State.cancelAllPermits_frame (s : State) :
    ∃ ps ls, s.cancelAllPermits = { s with persons := ps, lanes := ls } := by
  unfold State.cancelAllPermits
  suffices h : ∀ (l : List Nat) (s : State),
      ∃ ps ls, l.foldl (fun s k => s.removePermits k fun _ => true) s = { s with persons := ps, lanes := ls } from h _ s
  intro l
  induction l with
  | nil => exact fun s => ⟨s.persons, s.lanes, rfl⟩
  | cons k l ih =>
    intro s
    rw [List.foldl_cons]
    obtain ⟨ps, hf⟩ := State.removePermits_frame k (fun _ => true) s
    rw [hf]
    exact ih _

/-- What the cancellation of the permits of some lanes leaves in the lanes and in the records. -/
theorem cancelAll_lanes_persons (ls : List Nat) (hd : ls.Nodup) {s : State} (hp : s.persons.wf none)
    (hl : s.lanes.wf Lane.reset) :
    (∀ j, (ls.foldl (fun s k => s.removePermits k fun _ => true) s).lane j
        = if j ∈ ls then { s.lane j with permits := [] }.settleFlap else s.lane j)
      ∧ ∀ i, (ls.foldl (fun s k => s.removePermits k fun _ => true) s).person i
        = if ∃ k ∈ ls, ∃ p ∈ (s.lane k).permits, p.person = i then
            (s.person i).map fun v => { v with gatePermit := none } else s.person i := by
  induction ls generalizing s with
  | nil => simp
  | cons k ls ih =>
    rw [List.nodup_cons] at hd
    rw [List.foldl_cons]
    obtain ⟨h1, h2⟩ := ih hd.2 (State.wf_removePermits hp k fun _ => true) (State.lanes_removePermits_wf hl k fun _ => true)
    have lane := fun j => State.lane_removePermits hl k (fun _ => true) j
    have person := fun j => State.person_removePermits hp k (fun _ => true) j
    refine ⟨?_, ?_⟩
    · intro j
      rw [h1, lane]
      by_cases hj : j ∈ ls
      · have hjk : j ≠ k := fun e => hd.1 (e ▸ hj)
        simp [hj, hjk]
      · by_cases hjk : j = k
        · subst hjk; simp [hj]
        · simp [hj, hjk]
    · intro i
      rw [h2, person]
      have hlane : ∀ k' ∈ ls, (s.removePermits k fun _ => true).lane k' = s.lane k' := by
        intro k' hk'
        rw [lane, if_neg]
        exact fun e => hd.1 (e ▸ hk')
      by_cases hk : ∃ p ∈ (s.lane k).permits, p.person = i
      · have : ∃ p ∈ (s.lane k).permits.filter (fun _ => true), p.person = i := by simpa using hk
        rw [if_pos this, if_pos (⟨k, by simp, hk⟩ : ∃ k' ∈ k :: ls, ∃ p ∈ (s.lane k').permits, p.person = i)]
        split <;> simp [Option.map_map, Function.comp_def]
      · have : ¬ ∃ p ∈ (s.lane k).permits.filter (fun _ => true), p.person = i := by simpa using hk
        rw [if_neg this]
        congr 1
        rw [eq_iff_iff]
        constructor
        · rintro ⟨k', m, x⟩; rw [hlane k' m] at x; exact ⟨k', by simp [m], x⟩
        · rintro ⟨k', m, x⟩
          rw [List.mem_cons] at m
          rcases m with rfl | m
          · exact absurd x hk
          · exact ⟨k', m, by rw [hlane k' m]; exact x⟩

/-- What the cancellation of every permit leaves in the lanes and in the records. -/
theorem State.cancelAllPermits_lane {s : State} (hp : s.persons.wf none) (hl : s.lanes.wf Lane.reset) (j : Nat) :
    s.cancelAllPermits.lane j = if j < 4 then { s.lane j with permits := [] }.settleFlap else s.lane j := by
  unfold State.cancelAllPermits
  rw [(cancelAll_lanes_persons (List.range 4) List.nodup_range hp hl).1 j]
  simp

theorem State.cancelAllPermits_person {s : State} (hp : s.persons.wf none) (hl : s.lanes.wf Lane.reset) (i : Nat) :
    s.cancelAllPermits.person i
      = if (List.range 4).any fun k => (s.lane k).permits.any fun p => p.person == i then
          (s.person i).map fun v => { v with gatePermit := none } else s.person i := by
  unfold State.cancelAllPermits
  rw [(cancelAll_lanes_persons (List.range 4) List.nodup_range hp hl).2 i]
  congr 1
  simp only [List.any_eq_true, beq_iff_eq]

/-- The cancellation of every permit, in the terms of claims. -/
theorem PermitsCancelled.of_cancel {s u t : State} (hp : u.persons.wf none) (hl : u.lanes.wf Lane.reset)
    (hul : ∀ l, u.lane l = s.lane l)
    (hup : ∀ i p, s.person i = some p → ∃ v, u.person i = some v ∧ v.gatePermit = p.gatePermit)
    (htl : ∀ l, t.lane l = u.cancelAllPermits.lane l) (htp : ∀ i, t.person i = u.cancelAllPermits.person i) :
    PermitsCancelled s t := by
  refine ⟨?_, ?_⟩
  · intro l h
    rw [htl, State.cancelAllPermits_lane hp hl, if_pos h, hul]
    simp [Lane.settleFlap]
  · intro i p h
    obtain ⟨v, hv, hg⟩ := hup i p h
    rw [htp, State.cancelAllPermits_person hp hl]
    simp only [hul]
    split
    · exact ⟨{ v with gatePermit := none }, by rw [hv]; rfl, rfl⟩
    · exact ⟨v, hv, hg⟩

end Permits

/-! ### The counts of a lane (R59) -/

section Counts

/-- The identities that an event finds at their maximum are those whose counts have come to it. -/
theorem mem_reachedMaximum {before after : LaneCounts} {k : Nat} :
    k ∈ reachedMaximum before after ↔ Saturates before after k := by
  have h : k < 8 ↔ k = 0 ∨ k = 1 ∨ k = 2 ∨ k = 3 ∨ k = 4 ∨ k = 5 ∨ k = 6 ∨ k = 7 := by omega
  simp only [reachedMaximum, List.mem_filter, List.mem_range, Saturates, h]
  constructor
  · rintro ⟨rfl | rfl | rfl | rfl | rfl | rfl | rfl | rfl, hk⟩ <;>
      simpa [LaneCounts.listed, LaneCounts.byIdentity, maxOccupancy] using hk
  · rintro ⟨rfl | rfl | rfl | rfl | rfl | rfl | rfl | rfl, hk⟩ <;>
      simpa [LaneCounts.listed, LaneCounts.byIdentity, maxOccupancy] using hk

/-- What the noting of saturation leaves in the lanes. -/
theorem State.noteSaturation_lane {u : State} (h : u.lanes.wf Lane.reset) (lane : Nat) (before : LaneCounts) (j : Nat) :
    (u.noteSaturation lane before).lane j = if j = lane then { u.lane lane with
      saturationReported := (u.lane lane).saturationReported || !(reachedMaximum before (u.lane lane).counts).isEmpty }
    else u.lane j := by
  have hl : (u.noteSaturation lane before).lane j
      = (u.lanes.write Lane.reset lane { u.lane lane with
          saturationReported := (u.lane lane).saturationReported
            || (!(reachedMaximum before (u.lane lane).counts).isEmpty && !(u.lane lane).saturationReported) }).read
          Lane.reset j := rfl
  rw [hl, Table.read_write h]
  split
  · cases (u.lane lane).saturationReported <;> simp
  · rfl

/-- What the noting of saturation does with the notices and the wake output: COUNTER_SATURATED is raised, where the flag is
clear and a count has come to its maximum, with the identity of such a count. -/
theorem State.noteSaturation_raises (u : State) (lane : Nat) (before : LaneCounts) :
    ∃ i, (reachedMaximum before (u.lane lane).counts ≠ [] → i < (reachedMaximum before (u.lane lane).counts).length)
      ∧ ∀ w, w = u.raiseWhen (!(reachedMaximum before (u.lane lane).counts).isEmpty && !(u.lane lane).saturationReported)
          (MemberId.counterSaturated lane) ((reachedMaximum before (u.lane lane).counts)[i]?.getD 0) →
        (u.noteSaturation lane before).notices = w.notices ∧ (u.noteSaturation lane before).host = w.host := by
  simp only [State.noteSaturation]
  generalize reachedMaximum before (u.lane lane).counts = reached
  generalize (!reached.isEmpty && !(u.lane lane).saturationReported) = due
  refine ⟨if (due && decide (1 < reached.length)) = true then Config.openIdentity u.freeIndex % reached.length else 0,
    fun h => ?_, ?_⟩
  · have := List.length_pos_iff.mpr h
    split
    · exact Nat.mod_lt _ this
    · exact this
  · rintro w rfl
    exact ⟨rfl, rfl⟩

/-- The noting of saturation, in the terms of claims: of an event that leaves the flag to it and has raised the events in a
list, COUNTER_SATURATED not among them. -/
theorem SaturationNoted.of_note {s u : State} {lane : Nat} {others : List (MemberId × Nat)} (hl : u.lanes.wf Lane.reset)
    (hm : s.notices.members.wf Member.reset)
    (hf : (u.lane lane).saturationReported = (s.lane lane).saturationReported)
    (hr : RaisedAll s u others) (ha : u.host.asleep = s.host.asleep)
    (ho : ∀ e ∈ others, e.1.key ≠ (MemberId.counterSaturated lane).key) :
    SaturationNoted s (u.noteSaturation lane (s.lane lane).counts) lane others := by
  have hlane := State.noteSaturation_lane hl lane (s.lane lane).counts lane
  rw [if_pos rfl, hf] at hlane
  have hc : ((u.noteSaturation lane (s.lane lane).counts).lane lane).counts = (u.lane lane).counts := by rw [hlane]
  obtain ⟨i, hi, hx⟩ := State.noteSaturation_raises u lane (s.lane lane).counts
  simp only [hf] at hx
  obtain ⟨hn, hh⟩ := hx _ rfl
  have hs : ∀ k, Saturates (s.lane lane).counts ((u.noteSaturation lane (s.lane lane).counts).lane lane).counts k
      ↔ k ∈ reachedMaximum (s.lane lane).counts (u.lane lane).counts := fun k => by rw [hc, mem_reachedMaximum]
  have raised := hr.raiseWhen hm ha (c := !(reachedMaximum (s.lane lane).counts (u.lane lane).counts).isEmpty
    && !(s.lane lane).saturationReported)
    ((reachedMaximum (s.lane lane).counts (u.lane lane).counts)[i]?.getD 0) ho
  replace raised : RaisedAll s (u.noteSaturation lane (s.lane lane).counts) _ :=
    ⟨hn.trans raised.1, (congrArg HostLink.wake hh).trans raised.2⟩
  constructor
  · simp only [hlane, Bool.or_eq_true, Bool.not_eq_true', List.isEmpty_eq_false_iff_exists_mem, mem_reachedMaximum]
  · simp only [hs]
    rintro hclear ⟨k, hk⟩
    have hne := List.ne_nil_of_mem hk
    rw [List.getElem?_eq_getElem (hi hne), Option.getD_some, eventIf, if_pos (by simp [hne, hclear])] at raised
    exact ⟨_, List.getElem_mem (hi hne), raised⟩
  · simp only [hs]
    intro h
    have hnot : ¬ (!(reachedMaximum (s.lane lane).counts (u.lane lane).counts).isEmpty
        && !(s.lane lane).saturationReported) = true := by
      rcases h with h | h
      · simp [h]
      · simp [List.eq_nil_iff_forall_not_mem.mpr h]
    rw [eventIf, if_neg hnot, List.append_nil] at raised
    exact raised

end Counts

/-! ### The dirty set and the writer (R156, R157, R161) -/

section Writer

variable {n b : Nat} {l : List Nat}

/-- An insertion adds its number. -/
theorem mem_insertAscending : b ∈ insertAscending n l ↔ b = n ∨ b ∈ l := by
  induction l with
  | nil => simp [insertAscending]
  | cons m ms ih =>
    unfold insertAscending
    split
    · simp
    · split
      · subst_vars; simp
      · simp only [List.mem_cons, ih]; tauto

/-- An insertion keeps the order, and repeats nothing. -/
theorem insertAscending_ascending (h : l.Pairwise (· < ·)) : (insertAscending n l).Pairwise (· < ·) := by
  induction l with
  | nil => simp [insertAscending]
  | cons m ms ih =>
    obtain ⟨hm, hms⟩ := List.pairwise_cons.mp h
    unfold insertAscending
    split
    · exact List.pairwise_cons.mpr ⟨fun x hx => by
        rcases List.mem_cons.mp hx with rfl | hx
        · assumption
        · exact Nat.lt_trans ‹n < m› (hm x hx), h⟩
    · split
      · exact h
      · refine List.pairwise_cons.mpr ⟨fun x hx => ?_, ih hms⟩
        rcases mem_insertAscending.mp hx with rfl | hx
        · omega
        · exact hm x hx

/-- What is dirty after a mark: the marked block, unless it is FAILED, and what was dirty. -/
theorem Store.mem_markWhen {t : Store} {c : Bool} :
    b ∈ (t.markWhen c n).dirty ↔ (b = n ∧ c = true ∧ t.isFailed n = false) ∨ b ∈ t.dirty := by
  unfold Store.markWhen
  cases c <;> cases h : t.isFailed n <;> simp [mem_insertAscending]

variable (t : Store) (waits : Bool) (persons : Table (Option Person)) (m : Muster) (now : Nat)

/-- All that a turn can do: nothing but begin the closing write, or else start the write of the block that is next. -/
theorem Store.turn_cases :
    ((t.inFlight ≠ none ∨ (t.closingTurn waits).nextBlock waits = none) ∧ t.turn waits persons m now = t.closingTurn waits)
    ∨ ∃ b, t.inFlight = none ∧ (t.closingTurn waits).nextBlock waits = some b
      ∧ t.turn waits persons m now = (t.closingTurn waits).startWrite persons m now b := by
  have hf : (t.closingTurn waits).inFlight = t.inFlight := rfl
  unfold Store.turn
  dsimp only
  rw [hf]
  cases h : t.inFlight with
  | some f => exact .inl ⟨.inl (by simp), by simp⟩
  | none =>
    cases hn : (t.closingTurn waits).nextBlock waits with
    | none => exact .inl ⟨.inr rfl, by simp⟩
    | some b => exact .inr ⟨b, rfl, rfl, by simp⟩

/-- Of the store a turn changes the live orderly flag, the dirty set and the write in flight, and nothing else. -/
theorem Store.turn_frame : t.turn waits persons m now = { t with
    orderly := (t.turn waits persons m now).orderly, dirty := (t.turn waits persons m now).dirty
    inFlight := (t.turn waits persons m now).inFlight } := by
  rcases t.turn_cases waits persons m now with ⟨-, h⟩ | ⟨b, -, -, h⟩ <;> (rw [h]; rfl)

@[simp] theorem Store.turn_blocks : (t.turn waits persons m now).blocks = t.blocks := by
  rw [t.turn_frame waits persons m now]
@[simp] theorem Store.turn_control : (t.turn waits persons m now).control = t.control := by
  rw [t.turn_frame waits persons m now]
@[simp] theorem Store.turn_boot : (t.turn waits persons m now).boot = t.boot := by
  rw [t.turn_frame waits persons m now]
@[simp] theorem Store.turn_failedList : (t.turn waits persons m now).failedList = t.failedList := by
  rw [t.turn_frame waits persons m now]
@[simp] theorem Store.turn_unusable : (t.turn waits persons m now).unusable = t.unusable := by
  rw [t.turn_frame waits persons m now]
@[simp] theorem Store.turn_unlistedFailed : (t.turn waits persons m now).unlistedFailed = t.unlistedFailed := by
  rw [t.turn_frame waits persons m now]
@[simp] theorem Store.turn_lastWritten : (t.turn waits persons m now).lastWritten = t.lastWritten := by
  rw [t.turn_frame waits persons m now]
@[simp] theorem Store.turn_faults : (t.turn waits persons m now).faults = t.faults := by
  rw [t.turn_frame waits persons m now]
@[simp] theorem Store.turn_writer : (t.turn waits persons m now).writer = t.writer := by
  rw [t.turn_frame waits persons m now]
@[simp] theorem Store.turn_state : (t.turn waits persons m now).state = t.state := by
  rw [t.turn_frame waits persons m now]
@[simp] theorem Store.turn_assertedAt : (t.turn waits persons m now).assertedAt = t.assertedAt := by
  rw [t.turn_frame waits persons m now]

end Writer

/-! ### The assertion that start-up leaves due (R166) -/

section DueAssertion

variable {s : State}

/-- The due assertion is an assertion and the writer's turn after it. -/
theorem State.takeDueAssertion_due (h : s.phase = .assertionDue) :
    s.takeDueAssertion = ({ s with phase := .running }).assertPowerFail.writerTurn := by
  simp only [State.takeDueAssertion, h]

/-- Where none is due nothing happens. -/
theorem State.takeDueAssertion_none (h : s.phase ≠ .assertionDue) : s.takeDueAssertion = s := by
  unfold State.takeDueAssertion
  split <;> simp_all

/-- POWER_FAIL_ASSERT is the input's own going to the warning level unless an assertion is due. -/
theorem execPowerFailAssert_of_none (h : s.phase ≠ .assertionDue) : execPowerFailAssert s = s.inputRises := by
  unfold execPowerFailAssert
  split <;> simp_all

/-- A part from which a host request is taken runs, and has no assertion due. -/
theorem State.isRunning_of_hostTakes {f : Frame} (h : s.hostTakes f = true) : s.isRunning = true := by
  simp only [State.hostTakes, Bool.and_eq_true] at h
  exact h.1.1.1

/-- So does one from which a station request is taken. -/
theorem State.isRunning_of_stationTakes {f : Frame} (h : s.stationTakes f = true) : s.isRunning = true := by
  simp only [State.stationTakes, Bool.and_eq_true] at h
  exact h.1.1

end DueAssertion

/-! ### The filter runs that end at a CONFIGURE_LANE (R42) -/

section Runs

variable {s : State} {lane : Nat}

/-- A beam whose moment has not come, or that has no run, is not due. -/
theorem BeamState.dueAt_eq_none {b : BeamState} {now : Nat} :
    b.dueAt now = none ↔ ∀ e, b.filterEnd = some e → now < e := by
  simp only [BeamState.dueAt, Option.filter_eq_none_iff, decide_eq_true_eq, Nat.not_le]

/-- A beam is due at the end of its run, once that moment has come. -/
theorem BeamState.dueAt_eq_some {b : BeamState} {now e : Nat} :
    b.dueAt now = some e ↔ b.filterEnd = some e ∧ e ≤ now := by
  simp only [BeamState.dueAt, Option.filter_eq_some_iff, decide_eq_true_eq]

/-- Where no run of the lane has lasted its time, none ends. -/
theorem State.endRuns_none (ho : (s.lane lane).outer.dueAt s.clock.mono = none)
    (hi : (s.lane lane).inner.dueAt s.clock.mono = none) : s.endRuns lane = s := by
  simp only [State.endRuns, ho, hi]

/-- The ends of the runs of a lane keep what its beam events and a reading of a free value keep. -/
theorem State.endRuns_keeps {P : State → Prop} (known : ∀ t, P t → P { t with freeIndex := t.freeIndex + 1 })
    (taken : ∀ t b, P t → P (t.takeBeamEvent lane b)) (h : P s) : P (s.endRuns lane) := by
  have read : ∀ o i : Nat, P { s with freeIndex := if o = i then s.freeIndex + 1 else s.freeIndex } := fun o i => by
    by_cases e : o = i
    · simpa only [e, if_true] using known s h
    · simpa only [e, if_false] using h
  unfold State.endRuns
  split
  · exact h
  · exact taken _ _ h
  · exact taken _ _ h
  · dsimp only
    split <;> exact taken _ _ (taken _ _ (read _ _))

/-- CONFIGURE_LANE of a request that may not be taken, or whose body is not well formed, ends no run. -/
theorem execConfigureLane_of_none {r : Request} (h : configuredLane r s = none) :
    execConfigureLane r s = takeHost 0x38 decodeConfigureLane doConfigureLane r s := by
  simp only [execConfigureLane, h]

/-- The lane that an offered CONFIGURE_LANE sets. -/
theorem configuredLane_of_offer {r : Request} {u : LaneSetup} (h : HostOffer s 0x38 decodeConfigureLane r (lane, u)) :
    configuredLane r s = some lane := by
  rw [configuredLane, if_pos ⟨h.takes, h.tagged⟩, h.body, Option.map_some]

end Runs

end Sys2Proof.Machine
end

