-- ==== Sys2Proof/Laws/Judging.lean ====
section
/-!
SUPPORT. How requests are judged: refusals that change nothing, the bar's tests in order, the change of an account, and what a
capture leaves.
-/

namespace Sys2Proof.Machine

/-! ### Refusals -/

section Refusals

variable {α : Type} {kind : Byte} {decode : List Byte → Option α} {r : Request} {q : α} {s : State} {c : Instr}
  {reason : Result}

/-- A host request that its owner refuses is answered with the reason, and nothing else changes. -/
theorem host_refused {act : α → State → State × HostAnswer} (h : HostOffer s kind decode r q)
    (hx : exec c s = takeHost kind decode act r s)
    (ha : act q s.dropHostRequest = (s.dropHostRequest, .plain reason)) :
    ∃ t, exec c s = .next t ∧ HostAnswered s t ⟨kind, r.tag, reason, []⟩ ∧ Keeps [.host] s t := by
  refine takeHost_done (act := act) h hx ⟨?_, ?_⟩ <;> rw [ha]
  · simp [HostAnswered, HostAnswer.plain]
  · intro p hp; cases p <;> simp_all [Part.kept]

/-- The same of a station request, whose refusal may carry groups. -/
theorem station_refused {act : α → State → State × StationAnswer} {groups : StationGroups}
    (h : StationOffer s kind decode r q) (hx : exec c s = takeStation kind decode act r s)
    (ha : act q s.dropStationRequest = (s.dropStationRequest, ⟨reason, groups⟩)) :
    ∃ t, (exec c s = .next t ∧ StationAnswered s t ⟨kind, r.tag, reason, groups⟩) ∧ Keeps [.station] s t := by
  have h := takeStation_done (P := fun t => StationAnswered s t ⟨kind, r.tag, reason, groups⟩ ∧ Keeps [.station] s t)
    (act := act) h hx (by
      rw [ha]
      refine ⟨by simp [StationAnswered], ?_⟩
      intro p hp; cases p <;> simp_all [Part.kept])
  exact h.imp fun t x => ⟨⟨x.1, x.2.1⟩, x.2.2⟩

/-- A request from a station that the table serves reaches its owner, with the station's binding. -/
theorem atStation_served {k : StationKind} {a b : Nat} {owner : Nat → State → State × StationAnswer}
    (h1 : (s.stationEntry a).kind = k) (h2 : (s.stationEntry a).enabled = true)
    (h3 : (s.stationEntry a).binding = some b) :
    atStation k a owner s.dropStationRequest = owner b s.dropStationRequest := by
  simp [atStation, State.bindingFor, h1, h2, h3]

end Refusals

/-! ### Tests in order (R95, R104, R106) -/

/-- The four early tests of a bar request, judged in order. -/
theorem barTests_iff (s : State) (outlet : Nat) (r : Option Result) :
    FirstFailing (s.barTests outlet) r ↔ barRefusal s outlet = r := by
  simp only [State.barTests, FirstFailing, barRefusal]
  by_cases h1 : s.muster.active = true
  · simp [h1]; exact eq_comm
  · by_cases h2 : s.clock.running = false
    · simp [h1, h2]; exact eq_comm
    · by_cases h3 : s.store.state ≠ .opened
      · simp [h1, h2, h3]; exact eq_comm
      · by_cases h4 : (s.outlet outlet).enabled = false
        · simp [h1, h2, h3, h4]; exact eq_comm
        · simp [h1, h2, h3, h4]; exact eq_comm

/-- The tests against an account that is there, judged in order, followed by others. -/
theorem Account.tests_iff (a : Account) (o : Outlet) (day : Nat) (ls : List Line) (total increase : Nat)
    (rest : List (Prop × Result)) (r : Option Result) :
    FirstFailing (a.tests o day ls total increase ++ rest) r
      ↔ (a.suspended = true ∧ r = some .suspended)
        ∨ (a.suspended = false ∧ ((∃ x, authorization o a ls total increase day = some x ∧ r = some x)
            ∨ (authorization o a ls total increase day = none ∧ FirstFailing rest r))) := by
  simp only [Account.tests, List.cons_append, List.nil_append, FirstFailing]
  have ea : alcoholFails o a ls = true
      ↔ ((∃ l ∈ ls, l.alcohol = true) ∧ (a.noAlcohol = true ∨ o.alcoholAllowed = false)) := by simp [alcoholFails]
  have ec : creditFails a increase = true ↔ (0 < increase ∧ (a.creditLimit : Int) < a.owes + increase) := by
    rw [creditFails, Bool.and_eq_true, decide_eq_true_iff, decide_eq_true_iff]; rfl
  have ed : dailyFails a day increase = true
      ↔ (0 < increase ∧ ∃ limit, a.dailyLimit = some limit ∧ limit < a.spentOn day + increase) := by
    unfold dailyFails
    cases a.dailyLimit with
    | none => simp
    | some l =>
      rw [Bool.and_eq_true, decide_eq_true_iff, decide_eq_true_iff]; simp [Account.spentOn, Account.spentNow]
  rw [← ea, ← ec, ← ed]
  have ez : (10000000 < total) ↔ ceiling < total := Iff.rfl
  unfold authorization
  by_cases h1 : a.suspended = true
  · simp [h1]
  · by_cases h2 : alcoholFails o a ls = true
    · simp [h1, h2]; try exact eq_comm
    · by_cases h3 : ceiling < total
      · simp [h1, h2, ez, h3]
      · by_cases h4 : creditFails a increase = true
        · simp [h1, h2, ez, h3, h4]
        · by_cases h5 : dailyFails a day increase = true
          · simp [h1, h2, ez, h3, h4, h5]
          · simp [h1, h2, ez, h3, h4, h5]

/-- The reasons that the authorization tests give (R97 to R100). -/
theorem authorization_reason {o : Outlet} {a : Account} {ls : List Line} {total increase day : Nat} {x : Result}
    (h : authorization o a ls total increase day = some x) :
    x = .alcohol ∨ x = .overCeiling ∨ x = .credit ∨ x = .daily := by
  revert h
  unfold authorization
  repeat' split
  all_goals (intro e; cases e; try simp)

/-! ### Cards (R4) -/

/-- A card that passes carries the record's generation. -/
theorem State.generation_of_passed {s : State} {c : Card} {i : Nat} {p : Person} (h : s.decodeCard c = .passed i p) :
    p.generation = c.generation := by
  unfold State.decodeCard at h
  cases hd : s.decidingDecoder c.number with
  | none => simp only [hd] at h; cases h
  | some d =>
    simp only [hd] at h
    split at h
    · cases h
    · cases hp : s.person (c.number + d.offset).toNat with
      | none => simp only [hp] at h; cases h
      | some v =>
        simp only [hp] at h
        split at h
        · cases h
        · split at h
          · rename_i hz; cases h; bv_omega
          · split at h <;> cases h

/-! ### Accounts and captures -/

section Accounts

variable {s : State}

/-- What a change of an account leaves in the records. -/
theorem AccountChanged.of_changeAccount (h : s.persons.wf none) (i : Nat) (f : Account → Account) :
    AccountChanged s (s.changeAccount i f) i f := by
  intro j
  unfold State.changeAccount
  cases hp : s.person i with
  | none =>
    simp only; split
    · rename_i e; subst e; simp [hp]
    · rfl
  | some p =>
    cases ha : p.account with
    | none =>
      simp only [ha]; split
      · rename_i e; subst e; simp [hp]; cases p; simp_all
      · rfl
    | some a =>
      simp only [ha]
      rw [State.person_changePerson h]
      split
      · rename_i e; subst e; simp [hp, ha]
      · rfl

/-- A capture for a person with an account changes the record, the journal, the charge number and the notices. -/
theorem State.capture_eq {e : Entry} {p : Person} {a : Account} (hp : s.person e.person = some p) (ha : p.account = some a)
    (freed : Nat) :
    s.capture e freed
      = ({ s with
          persons := s.persons.write none e.person
            (some { p with account := some (a.captured e.day e.amounts.total freed) })
          journal := s.journal ++ [e], nextCharge := chargeAfter s.nextCharge } : State).raiseWhen
        (s.journal.isEmpty && s.allowance == 0) MemberId.chargeWaiting e.person := by
  rw [State.capture, State.changeAccount_eq e.person _ hp ha]

/-- What a capture leaves, whatever units apart from these it starts from and ends in. -/
theorem Captured.of_capture {u v t : State} {e : Entry} {p : Person} {a : Account} (hw : u.persons.wf none)
    (hp : u.person e.person = some p) (ha : p.account = some a) (freed : Nat) (hu : u.persons = s.persons)
    (hj : u.journal = s.journal ∧ u.allowance = s.allowance ∧ u.nextCharge = s.nextCharge
      ∧ u.journalFullReported = s.journalFullReported)
    (hn : u.notices = s.notices ∧ u.host.wake = s.host.wake ∧ u.host.asleep = s.host.asleep)
    (hv : v = u.capture e freed) (htp : t.persons = v.persons)
    (htj : t.journal = v.journal ∧ t.allowance = v.allowance ∧ t.nextCharge = v.nextCharge
      ∧ t.journalFullReported = v.journalFullReported)
    (htn : t.notices = v.notices ∧ t.host.wake = v.host.wake) : Captured s t e freed := by
  rw [State.capture_eq hp ha] at hv
  subst hv
  obtain ⟨j1, j2, j3, j4⟩ := htj
  obtain ⟨k1, k2, k3, k4⟩ := hj
  obtain ⟨n1, n2⟩ := htn
  obtain ⟨m1, m2, m3⟩ := hn
  refine ⟨?_, ?_, ?_, ?_, ?_, ?_, ?_⟩
  · intro j
    have hj : t.person j = Table.read none (u.persons.write none e.person
        (some { p with account := some (a.captured e.day e.amounts.total freed) })) j := by
      unfold State.person; rw [htp]; rfl
    have hs : s.person = u.person := by unfold State.person; rw [hu]
    rw [hj, Table.read_write hw, hs]
    split
    · rename_i e; subst e; rw [hp]; simp [ha, Account.captured, Account.spentNow, Account.spentOn, maxBalance]
    · rfl
  · rw [j1, ← k1]; rfl
  · rw [j3, ← k3]; rfl
  · rw [j2, ← k2]; rfl
  · rw [j4, ← k4]; rfl
  · rintro ⟨x, y⟩
    rw [← k1] at x; rw [← k2] at y
    unfold Raised
    rw [n1, n2, ← m1, ← m2, ← m3]
    simp [x, y, State.raiseWhen]
  · intro x
    rw [← k1, ← k2] at x
    have hf : (u.journal.isEmpty && u.allowance == 0) = false := by
      rw [Bool.and_eq_false_iff]
      by_cases hj : u.journal = []
      · right; simpa using fun z => x ⟨hj, z⟩
      · left; simpa using hj
    unfold Silent
    rw [n1, n2, ← m1, ← m2, hf, State.raiseWhen_false]
    exact ⟨rfl, rfl⟩

end Accounts

end Sys2Proof.Machine
end

