-- ==== Sys2Proof/Laws/PerInstr.lean ====
section
/-!
SUPPORT. What holds of every command as syntax: a well-formed request command is the one that its frame names, and carries a tag.
-/

namespace Sys2Proof.Laws.Checks

/-- The frame that a well-formed request command takes names that command back, and when its kind is one of its link's request
kinds it carries a tag (R168, R173). An event takes no frame. -/
def Statement (i : Instr) : Prop :=
  ∀ l f, i.wellFormed = true → i.request = some (l, f) →
    commandFor l f = i ∧ (isRequestKind l f.kind = true → f.tag ≠ 0)

/-- An event takes no frame. -/
theorem of_event {i : Instr} (h : i.request = none) : Statement i := by
  intro l f _ hr; rw [h] at hr; cases hr

/-- A request command whose frame is known. -/
theorem of_request {α : Type} {i : Instr} {l : Link} {k : Byte} {r : Request} {decode : List Byte → Option α}
    (hr : i.request = some (l, ⟨k, r.tag, r.body⟩)) (hw : i.wellFormed = r.wf decode)
    (hc : commandFor l ⟨k, r.tag, r.body⟩ = i) : Statement i := by
  intro l' f w h
  rw [hr] at h
  cases h
  refine ⟨hc, fun _ => ?_⟩
  rw [hw, Request.wf, Bool.and_eq_true, decide_eq_true_iff] at w
  exact w.1

/-- A frame of a kind that its link does not have names UNKNOWN_KIND_TAKEN. -/
theorem unknown_of_kind {l : Link} {k : Byte} (hk : isRequestKind l k = false) (tag : Byte) (body : List Byte) :
    commandFor l ⟨k, tag, body⟩ = .unknownKindTaken l k ⟨tag, body⟩ := by
  cases l
  · simp only [commandFor, hostCommand]
    split <;> first | rfl | (rename_i h; simp [isRequestKind, h] at hk)
  · simp only [commandFor, stationCommand]
    split <;> first | rfl | (rename_i h; simp [isRequestKind, h] at hk)

theorem partReset (cause : ResetCause) (pins : BitVec 4) : Statement (.partReset cause pins) := of_event rfl

theorem startedFrameStart : Statement .startedFrameStart := of_event rfl

theorem frameReceived (link : Link) (bytes : List Byte) : Statement (.frameReceived link bytes) := of_event rfl

theorem frameTimeout (link : Link) : Statement (.frameTimeout link) := of_event rfl

theorem unknownKindTaken (link : Link) (kind : Byte) (r : Request) : Statement (.unknownKindTaken link kind r) := by
  intro l f w h
  have hk : isRequestKind link kind = false := by simpa [Instr.wellFormed] using w
  cases h
  refine ⟨?_, fun h => by rw [hk] at h; cases h⟩
  exact unknown_of_kind hk r.tag r.body

theorem hostReplyStart : Statement .hostReplyStart := of_event rfl

theorem noticeFrameStart : Statement .noticeFrameStart := of_event rfl

theorem chargePostStart : Statement .chargePostStart := of_event rfl

theorem stationReplyStart : Statement .stationReplyStart := of_event rfl

theorem frameSent (link : Link) : Statement (.frameSent link) := of_event rfl

theorem loadPerson (r : Request) : Statement (.loadPerson r) := of_request rfl rfl rfl

theorem readPerson (r : Request) : Statement (.readPerson r) := of_request rfl rfl rfl

theorem setLocation (r : Request) : Statement (.setLocation r) := of_request rfl rfl rfl

theorem reissueCard (r : Request) : Statement (.reissueCard r) := of_request rfl rfl rfl

theorem adjustBalance (r : Request) : Statement (.adjustBalance r) := of_request rfl rfl rfl

theorem updateAccount (r : Request) : Statement (.updateAccount r) := of_request rfl rfl rfl

theorem clearPerson (r : Request) : Statement (.clearPerson r) := of_request rfl rfl rfl

theorem readTally (r : Request) : Statement (.readTally r) := of_request rfl rfl rfl

theorem setDecoder (r : Request) : Statement (.setDecoder r) := of_request rfl rfl rfl

theorem readDecoder (r : Request) : Statement (.readDecoder r) := of_request rfl rfl rfl

theorem configureStation (r : Request) : Statement (.configureStation r) := of_request rfl rfl rfl

theorem readStation (r : Request) : Statement (.readStation r) := of_request rfl rfl rfl

theorem setClock (r : Request) : Statement (.setClock r) := of_request rfl rfl rfl

theorem setDayOffset (r : Request) : Statement (.setDayOffset r) := of_request rfl rfl rfl

theorem readClock (r : Request) : Statement (.readClock r) := of_request rfl rfl rfl

theorem shipTimeAdvance : Statement .shipTimeAdvance := of_event rfl

theorem configureLane (r : Request) : Statement (.configureLane r) := of_request rfl rfl rfl

theorem setLaneMode (r : Request) : Statement (.setLaneMode r) := of_request rfl rfl rfl

theorem readLane (r : Request) : Statement (.readLane r) := of_request rfl rfl rfl

theorem resetLaneCounters (r : Request) : Statement (.resetLaneCounters r) := of_request rfl rfl rfl

theorem setAllAboard (r : Request) : Statement (.setAllAboard r) := of_request rfl rfl rfl

theorem readMovements (r : Request) : Statement (.readMovements r) := of_request rfl rfl rfl

theorem beamRawChange (lane : Nat) (beam : Beam) (high : Bool) : Statement (.beamRawChange lane beam high) := of_event rfl

theorem beamEvent (lane : Nat) (beam : Beam) : Statement (.beamEvent lane beam) := of_event rfl

theorem blockTimingExpiry (lane : Nat) (beam : Beam) : Statement (.blockTimingExpiry lane beam) := of_event rfl

theorem laneTap (r : Request) : Statement (.laneTap r) := of_request rfl rfl rfl

theorem permitExpiry (lane : Nat) (person : Nat) : Statement (.permitExpiry lane person) := of_event rfl

theorem allAboardDeadlinePassed : Statement .allAboardDeadlinePassed := of_event rfl

theorem configureCabin (r : Request) : Statement (.configureCabin r) := of_request rfl rfl rfl

theorem readCabin (r : Request) : Statement (.readCabin r) := of_request rfl rfl rfl

theorem clearLockout (r : Request) : Statement (.clearLockout r) := of_request rfl rfl rfl

theorem setDoorSettings (r : Request) : Statement (.setDoorSettings r) := of_request rfl rfl rfl

theorem doorTap (r : Request) : Statement (.doorTap r) := of_request rfl rfl rfl

theorem strikeWindowEnd (cabin : Nat) : Statement (.strikeWindowEnd cabin) := of_event rfl

theorem lockoutEnd (cabin : Nat) : Statement (.lockoutEnd cabin) := of_event rfl

theorem doorReport (r : Request) : Statement (.doorReport r) := of_request rfl rfl rfl

theorem ajarTimingEnd (cabin : Nat) : Statement (.ajarTimingEnd cabin) := of_event rfl

theorem configureOutlet (r : Request) : Statement (.configureOutlet r) := of_request rfl rfl rfl

theorem readOutlet (r : Request) : Statement (.readOutlet r) := of_request rfl rfl rfl

theorem barSale (r : Request) : Statement (.barSale r) := of_request rfl rfl rfl

theorem barOpenTab (r : Request) : Statement (.barOpenTab r) := of_request rfl rfl rfl

theorem barCloseTab (r : Request) : Statement (.barCloseTab r) := of_request rfl rfl rfl

theorem barVoid (r : Request) : Statement (.barVoid r) := of_request rfl rfl rfl

theorem holdExpiry (slot : Nat) : Statement (.holdExpiry slot) := of_event rfl

theorem grantPosting (r : Request) : Statement (.grantPosting r) := of_request rfl rfl rfl

theorem readHolds (r : Request) : Statement (.readHolds r) := of_request rfl rfl rfl

theorem releaseHold (r : Request) : Statement (.releaseHold r) := of_request rfl rfl rfl

theorem readJournalStatus (r : Request) : Statement (.readJournalStatus r) := of_request rfl rfl rfl

theorem startMuster (r : Request) : Statement (.startMuster r) := of_request rfl rfl rfl

theorem endMuster (r : Request) : Statement (.endMuster r) := of_request rfl rfl rfl

theorem musterTap (r : Request) : Statement (.musterTap r) := of_request rfl rfl rfl

theorem musterPerson (r : Request) : Statement (.musterPerson r) := of_request rfl rfl rfl

theorem readMuster (r : Request) : Statement (.readMuster r) := of_request rfl rfl rfl

theorem setGroupLevel (r : Request) : Statement (.setGroupLevel r) := of_request rfl rfl rfl

theorem setMemberEnable (r : Request) : Statement (.setMemberEnable r) := of_request rfl rfl rfl

theorem setServiceLevel (r : Request) : Statement (.setServiceLevel r) := of_request rfl rfl rfl

theorem noticeDone (r : Request) : Statement (.noticeDone r) := of_request rfl rfl rfl

theorem ackNotice (r : Request) : Statement (.ackNotice r) := of_request rfl rfl rfl

theorem hostSleep (r : Request) : Statement (.hostSleep r) := of_request rfl rfl rfl

theorem storeRewrite (r : Request) : Statement (.storeRewrite r) := of_request rfl rfl rfl

theorem readStoreStatus (r : Request) : Statement (.readStoreStatus r) := of_request rfl rfl rfl

theorem storeWriteComplete (duration : Nat) (agrees : Bool) : Statement (.storeWriteComplete duration agrees) := of_event rfl

theorem powerFailAssert : Statement .powerFailAssert := of_event rfl

theorem powerFailRelease : Statement .powerFailRelease := of_event rfl

theorem identify (r : Request) : Statement (.identify r) := of_request rfl rfl rfl

theorem reset (r : Request) : Statement (.reset r) := of_request rfl rfl rfl

theorem readLinkCounters (r : Request) : Statement (.readLinkCounters r) := of_request rfl rfl rfl

theorem frameStartByte (link : Link) : Statement (.frameStartByte link) := of_event rfl

end Sys2Proof.Laws.Checks
end

