-- ==== Sys2Proof/Tests/World.lean ====
section
/-!
SUPPORT. The small states that the tests run on: a part that runs, and a ship in service.
-/

namespace Sys2Proof.Tests

open Sys2Proof.Machine

/-- The next state of a command, where it has one. -/
def did (c : Instr) (s : State) : Option State :=
  match exec c s with
  | .next t => some t
  | _ => none

/-- A part that runs: start-up is over, its blocks are written and the writer is idle. -/
def running : State :=
  { State.reset with
    phase := .running
    store := { Store.reset with control := .written true blankFacts, inFlight := none, dirty := [], lastWritten := 0 } }

/-- An account. -/
def account (limit : Nat) (posted : Int) : Account :=
  { creditLimit := limit, dailyLimit := none, posted, spentToday := 0, spentDay := 0, held := 0, unposted := 0,
    noAlcohol := false, suspended := false }

/-- A loaded record without cabin, rights, permit or account. -/
def person (cls : PersonClass) (location : Location) : Person :=
  { loaded := true, cls, generation := 0, location, muster := .none, gatePermit := none, cabin := none, rights := none,
    sweep := false, account := none }

/-- The records of the ship. -/
def records : Table (Option Person) :=
  [(300, some (person .guest .ashore)),
   (412, some (person .guest .aboard)),
   (1210, some { person .guest .ashore with loaded := false }),
   (1480, some { person .guest .aboard with cabin := some 2214, account := some (account 100000 0) }),
   (1602, some { person .guest .expected with cabin := some 2214, account := some (account 50000 0) }),
   (5016, some (person .visitor .departed)),
   (6230, some { person .crew .aboard with rights := some (3000, 3999), sweep := true })]

/-- A card of generation 0 that the ship's decoders take to a guest's index, as decoder 1 of example 1-1 does. -/
def guestCard (index : Nat) : Card := ⟨BitVec.ofNat 32 (1048576 + index), 0⟩

/-- The same for the crew, as decoder 2 of example 1-1. -/
def crewCard (index : Nat) : Card := ⟨BitVec.ofNat 32 (1308622848 + (index - 6000)), 0⟩

/-- The decoders of example 1-1. -/
def decoders : Table Decoder :=
  [(0, { enabled := true, compare := 0x0010F000, mask := 0xFFFFF800, cls := .visitor, offset := 4293862280#32 }),
   (1, { enabled := true, compare := 0x00100000, mask := 0xFFF00000, cls := .guest, offset := 4293918720#32 }),
   (2, { enabled := true, compare := 0x4E000000, mask := 0xFF000000, cls := .crew, offset := 2986350448#32 })]

/-- The settings of outlet 5 in example 5-1. -/
def outlet5 : Outlet :=
  { enabled := true, serviceRate := 150, taxRate0 := 0, taxRate1 := 725, taxRate2 := 0, taxRate3 := 0,
    alcoholAllowed := true, tipsAllowed := true, holdLife := 3600, voidWindow := 300 }

/-- A ship in service: its clock runs, its stations, lanes, cabins and outlets are set up. -/
def ship : State :=
  { running with
    clock := { mono := 100000, running := true, shipTime := 35600000, nextAdvance := 101000, dayOffset := 14400,
               currentDay := 412 }
    decoders := decoders
    persons := records
    tally := [(0, 1), (1, 2), (2, 2), (5, 1), (11, 1)]
    tallySequence := 2000
    stations := [(10, ⟨.lane, true, some 0⟩), (40, ⟨.bar, true, some 5⟩), (41, ⟨.bar, true, some 9⟩),
      (90, ⟨.muster, true, some 3⟩), (95, ⟨.muster, true, some 9⟩)]
    lanes := [(0, { Lane.reset with mode := .both })]
    cabins := [(2214, { Cabin.reset with configured := true, occupants := 2 }),
      (3010, { Cabin.reset with configured := true })]
    outlets := [(5, outlet5), (9, { outlet5 with serviceRate := 0 })] }

/-- A frame with tag 1 waits at the head of the host request queue. -/
def offerHost (kind : Byte) (body : List Byte) (s : State) : State :=
  { s with host := { s.host with port := { s.host.port with requests := [⟨kind, 1, body⟩] } } }

/-- A frame with tag 1 waits at the head of the station intake queue. -/
def offerStation (kind : Byte) (body : List Byte) (s : State) : State :=
  { s with station := { s.station with port := { s.station.port with requests := [⟨kind, 1, body⟩] } } }

/-- The next state of a host request with tag 1 that is taken. -/
def asked (c : Request → Instr) (kind : Byte) (body : List Byte) (s : State) : Option State :=
  did (c ⟨1, body⟩) (offerHost kind body s)

/-- The next state of a station request with tag 1 that is taken. -/
def tapped (c : Request → Instr) (kind : Byte) (body : List Byte) (s : State) : Option State :=
  did (c ⟨1, body⟩) (offerStation kind body s)

/-- The state with another record at an index. -/
def withPerson (i : Nat) (p : Person) (s : State) : State := { s with persons := s.persons.write none i (some p) }

/-- The state at another monotonic time. -/
def atMono (t : Nat) (s : State) : State := { s with clock := { s.clock with mono := t } }

/-- What the last host reply carries. -/
def hostSaid (t : State) : Option (Result × List Field) := t.host.replies.getLast?.map fun r => (r.result, r.fields)

/-- What the last station reply carries. -/
def stationSaid (t : State) : Option (Result × StationGroups) :=
  t.station.replies.getLast?.map fun r => (r.result, r.groups)

/-- The result of the last station reply. -/
def stationResult (t : State) : Option Result := t.station.replies.getLast?.map fun r => r.result

end Sys2Proof.Tests
end

