-- ==== Sys2Proof/Tests/Slice0.lean ====
section
/-!
SUPPORT. The tests: ill-formed commands refused by the checks, and the worked examples of the manual, one step each. Every
expected value is the manual's own.
-/

-- Theorems one after the other: every kernel evaluation waits for the theorems before it, and would hold a thread meanwhile.
set_option Elab.async false

namespace Sys2Proof.Tests

open Sys2Proof.Machine

/-! ### WellFormed: an ill-formed term for each check -/

theorem smoke_tag_zero : (Instr.readTally ⟨0, []⟩).wellFormed = false := by decide
theorem smoke_frame_without_bytes : (Instr.frameReceived .host []).wellFormed = false := by decide
theorem smoke_kind_is_known : (Instr.unknownKindTaken .station 0x08 ⟨1, []⟩).wellFormed = false := by decide
theorem smoke_kind_is_unknown : (Instr.unknownKindTaken .station 0x09 ⟨1, []⟩).wellFormed = true := by decide

/-- Events that name a lane, person, cabin, slot or duration beyond the last. -/
theorem smoke_event_operands :
    (Instr.beamRawChange 4 .outer true).wellFormed = false ∧ (Instr.beamEvent 4 .inner).wellFormed = false
    ∧ (Instr.blockTimingExpiry 4 .outer).wellFormed = false ∧ (Instr.permitExpiry 4 0).wellFormed = false
    ∧ (Instr.permitExpiry 0 8192).wellFormed = false ∧ (Instr.strikeWindowEnd 4096).wellFormed = false
    ∧ (Instr.lockoutEnd 4096).wellFormed = false ∧ (Instr.ajarTimingEnd 4096).wellFormed = false
    ∧ (Instr.holdExpiry 512).wellFormed = false ∧ (Instr.storeWriteComplete 0 true).wellFormed = false
    ∧ (Instr.storeWriteComplete 9 true).wellFormed = false := by decide

/-- The last values that the checks admit. -/
theorem smoke_event_operands_at_their_ends :
    (Instr.beamRawChange 3 .outer true).wellFormed = true ∧ (Instr.permitExpiry 3 8191).wellFormed = true
    ∧ (Instr.strikeWindowEnd 4095).wellFormed = true ∧ (Instr.holdExpiry 511).wellFormed = true
    ∧ (Instr.storeWriteComplete 1 true).wellFormed = true ∧ (Instr.storeWriteComplete 8 false).wellFormed = true := by
  decide

/-- A visitor with a cabin, door rights for a guest, the SWEEP flag for a guest, a posted balance without an account, rights
that end before they begin, and an index beyond the last. -/
theorem smoke_loadPerson :
    let q : LoadPerson :=
      { index := 1, cls := .guest, generation := 0, location := none, cabin := none, rights := none, sweep := false,
        account := none, posted := none }
    let ok := fun q : LoadPerson => (Instr.loadPerson ⟨1, q.encode⟩).wellFormed
    ok q = true ∧ ok { q with cls := .visitor, cabin := some 1 } = false ∧ ok { q with rights := some (1, 2) } = false
    ∧ ok { q with sweep := true } = false ∧ ok { q with posted := some 0 } = false
    ∧ ok { q with cls := .crew, rights := some (2, 1) } = false ∧ ok { q with index := 8192 } = false
    ∧ ok { q with cabin := some 4096 } = false := by decide +kernel

/-- The other bodies of chapter 1, each beyond a range or too long. -/
theorem smoke_person_bodies :
    (Instr.readPerson ⟨1, encodeIndex 8192⟩).wellFormed = false
    ∧ (Instr.setLocation ⟨1, natBytes 2 1 ++ [4]⟩).wellFormed = false
    ∧ (Instr.reissueCard ⟨1, [1]⟩).wellFormed = false
    ∧ (Instr.adjustBalance ⟨1, encodeAdjustBalance 1 100000000⟩).wellFormed = false
    ∧ (Instr.updateAccount ⟨1, encodeUpdateAccount 1 ⟨10000001, none, false, false⟩⟩).wellFormed = false
    ∧ (Instr.clearPerson ⟨1, encodeIndex 1 ++ [0]⟩).wellFormed = false
    ∧ (Instr.readTally ⟨1, [0]⟩).wellFormed = false
    ∧ (Instr.setDecoder ⟨1, encodeSetDecoder 8 Decoder.reset⟩).wellFormed = false
    ∧ (Instr.readDecoder ⟨1, [8]⟩).wellFormed = false
    ∧ (Instr.configureStation ⟨1, encodeConfigureStation 1 ⟨.lane, true, some 4⟩⟩).wellFormed = false
    ∧ (Instr.configureStation ⟨1, encodeConfigureStation 1 ⟨.unused, false, some 0⟩⟩).wellFormed = false
    ∧ (Instr.readStation ⟨1, [128]⟩).wellFormed = false := by decide +kernel

/-- The bodies of chapters 2 to 4. -/
theorem smoke_time_lane_and_door_bodies :
    (Instr.setClock ⟨1, [0, 0, 0]⟩).wellFormed = false ∧ (Instr.setDayOffset ⟨1, []⟩).wellFormed = false
    ∧ (Instr.readClock ⟨1, [0]⟩).wellFormed = false
    ∧ (Instr.configureLane ⟨1, encodeConfigureLane 4 Lane.reset.setup⟩).wellFormed = false
    ∧ (Instr.configureLane ⟨1, [0, 2, 0, 0, 0, 0]⟩).wellFormed = false
    ∧ (Instr.setLaneMode ⟨1, [0, 5]⟩).wellFormed = false ∧ (Instr.readLane ⟨1, [4]⟩).wellFormed = false
    ∧ (Instr.resetLaneCounters ⟨1, [4]⟩).wellFormed = false
    ∧ (Instr.setAllAboard ⟨1, [2]⟩).wellFormed = false ∧ (Instr.readMovements ⟨1, [0]⟩).wellFormed = false
    ∧ (Instr.readMovements ⟨1, [17]⟩).wellFormed = false
    ∧ (Instr.configureCabin ⟨1, encodeConfigureCabin 4096 true⟩).wellFormed = false
    ∧ (Instr.configureCabin ⟨1, [0, 0, 2]⟩).wellFormed = false
    ∧ (Instr.readCabin ⟨1, encodeCabin 4096⟩).wellFormed = false
    ∧ (Instr.clearLockout ⟨1, encodeCabin 4096⟩).wellFormed = false
    ∧ (Instr.setDoorSettings ⟨1, [5]⟩).wellFormed = false
    ∧ (Instr.doorTap ⟨1, DoorTap.encode ⟨4096, guestCard 1⟩⟩).wellFormed = false
    ∧ (Instr.doorReport ⟨1, natBytes 2 1 ++ [1, 1]⟩).wellFormed = false
    ∧ (Instr.laneTap ⟨1, StationTap.encode ⟨128, guestCard 1⟩⟩).wellFormed = false := by decide +kernel

/-- The bodies of chapters 5 and 6. -/
theorem smoke_charging_bodies :
    (Instr.configureOutlet ⟨1, encodeConfigureOutlet 32 Outlet.reset⟩).wellFormed = false
    ∧ (Instr.readOutlet ⟨1, [32]⟩).wellFormed = false
    ∧ (Instr.barSale ⟨1, Sale.encode ⟨40, guestCard 1, 0, []⟩⟩).wellFormed = false
    ∧ (Instr.barSale ⟨1, Sale.encode ⟨40, guestCard 1, 100000, [⟨1, 1, 0, false⟩]⟩⟩).wellFormed = false
    ∧ (Instr.barSale ⟨1, Sale.encode ⟨40, guestCard 1, 0, [⟨1, 0, 0, false⟩]⟩⟩).wellFormed = false
    ∧ (Instr.barOpenTab ⟨1, OpenTab.encode ⟨40, guestCard 1, 99⟩⟩).wellFormed = false
    ∧ (Instr.barOpenTab ⟨1, OpenTab.encode ⟨40, guestCard 1, 1000001⟩⟩).wellFormed = false
    ∧ (Instr.barCloseTab ⟨1, CloseTab.encode ⟨40, 512, 0, 0, [⟨1, 1, 0, false⟩]⟩⟩).wellFormed = false
    ∧ (Instr.barVoid ⟨1, VoidCharge.encode ⟨128, 1⟩⟩).wellFormed = false
    ∧ (Instr.grantPosting ⟨1, natBytes 2 0⟩).wellFormed = false
    ∧ (Instr.grantPosting ⟨1, natBytes 2 1025⟩).wellFormed = false
    ∧ (Instr.readHolds ⟨1, encodeIndex 8192⟩).wellFormed = false
    ∧ (Instr.releaseHold ⟨1, encodeReleaseHold 512 0⟩).wellFormed = false
    ∧ (Instr.readJournalStatus ⟨1, [0]⟩).wellFormed = false := by decide +kernel

/-- The bodies of chapters 7 to 10. -/
theorem smoke_muster_notice_store_and_link_bodies :
    (Instr.startMuster ⟨1, [7]⟩).wellFormed = false ∧ (Instr.endMuster ⟨1, [0]⟩).wellFormed = false
    ∧ (Instr.musterTap ⟨1, natBytes 5 0 ++ [16]⟩).wellFormed = false
    ∧ (Instr.musterPerson ⟨1, encodeMusterPerson 1 32⟩).wellFormed = false
    ∧ (Instr.readMuster ⟨1, encodeIndex 8192⟩).wellFormed = false
    ∧ (Instr.setGroupLevel ⟨1, encodePair 10 1⟩).wellFormed = false
    ∧ (Instr.setGroupLevel ⟨1, encodePair 1 8⟩).wellFormed = false
    ∧ (Instr.setMemberEnable ⟨1, [0, 3, 1]⟩).wellFormed = false
    ∧ (Instr.setServiceLevel ⟨1, [8]⟩).wellFormed = false ∧ (Instr.noticeDone ⟨1, [0]⟩).wellFormed = false
    ∧ (Instr.ackNotice ⟨1, encodePair 9 9⟩).wellFormed = false ∧ (Instr.hostSleep ⟨1, [0]⟩).wellFormed = false
    ∧ (Instr.storeRewrite ⟨1, [0]⟩).wellFormed = false ∧ (Instr.readStoreStatus ⟨1, [0]⟩).wellFormed = false
    ∧ (Instr.identify ⟨1, [0]⟩).wellFormed = false ∧ (Instr.reset ⟨1, [0]⟩).wellFormed = false
    ∧ (Instr.readLinkCounters ⟨1, [2]⟩).wellFormed = false := by decide +kernel

/-! ### Chapter 1: cards, persons, the tally -/

/-- Example 1-1, the five cards: index 300 by decoder 1, 5,016 by decoder 0, OUT_OF_TABLE, 6,100 by decoder 2, UNKNOWN_CARD. -/
theorem test_example_1_1_cards :
    ship.decodeCard ⟨0x0010012C, 0⟩ = .passed 300 (person .guest .ashore)
    ∧ ship.decodeCard ⟨0x0010F010, 0⟩ = .passed 5016 (person .visitor .departed)
    ∧ ship.decodeCard ⟨0x0010F900, 0⟩ = .failed .outOfTable 63744
    ∧ ship.decodeCard ⟨0x4E000064, 0⟩ = .failed .noRecord 6100
    ∧ ship.decodeCard ⟨0x7A000001, 0⟩ = .failed .unknownCard 0 := by decide +kernel

/-- Example 1-1, the generations of a record that holds 15, and a visitor keyed as a guest. -/
theorem test_example_1_1_generations :
    let s := ship |> withPerson 300 { person .guest .ashore with generation := 15 }
      |> withPerson 5016 (person .guest .ashore)
    s.decodeCard ⟨0x0010012C, 15⟩ = .passed 300 { person .guest .ashore with generation := 15 }
    ∧ s.decodeCard ⟨0x0010012C, 0⟩ = .failed .futureCard 300
    ∧ s.decodeCard ⟨0x0010012C, 14⟩ = .failed .staleCard 300
    ∧ s.decodeCard ⟨0x0010012C, 7⟩ = .failed .staleCard 300
    ∧ s.decodeCard ⟨0x0010F010, 0⟩ = .failed .classMismatch 5016 := by decide +kernel

/-- Example 1-1: REISSUE_CARD takes generation 15 to 0. -/
theorem test_reissueCard_wraps :
    ((ship |> withPerson 300 { person .guest .ashore with generation := 15 }
      |> asked .reissueCard 0x23 (encodeIndex 300)).map fun t => (hostSaid t, (t.person 300).map Person.generation))
      = some (some (.ok, [.b1 0]), some 0) := by decide +kernel

/-- Example 1-2, event 1: a late booking on an EMPTY record stands at EXPECTED and moves the tally. -/
theorem test_loadPerson_creates_expected :
    ((ship |> asked .loadPerson 0x20 (LoadPerson.encode
        { index := 5990, cls := .guest, generation := 0, location := none, cabin := none, rights := none, sweep := false,
          account := none, posted := none })).map fun t => (t.tallyCount .guest .expected, t.tallySequence))
      = some (2, 2001) := by decide +kernel

/-- Example 1-2, event 3: SET_LOCATION moves the tally and leaves the permit. -/
theorem test_setLocation_leaves_the_permit :
    ((ship |> withPerson 412 { person .guest .aboard with gatePermit := some 1 }
      |> asked .setLocation 0x22 (encodeSetLocation 412 .ashore)).map fun t =>
        ((t.person 412).map fun p => (p.location, p.gatePermit), t.tallyCount .guest .ashore, t.tallySequence))
      = some (some (.ashore, some 1), 3, 2001) := by decide +kernel

/-- Example 1-2, event 5: the clear of an EXPECTED record without permit or account is granted. -/
theorem test_clearPerson_of_a_cancelled_booking :
    ((ship |> withPerson 5990 (person .guest .expected)
      |> asked .clearPerson 0x26 (encodeIndex 5990)).map fun t => (hostSaid t, t.person 5990, t.tallySequence))
      = some (some (.ok, []), none, 2001) := by decide +kernel

/-! ### Chapter 2: ship time -/

/-- Example 2-1, events 1 and 2: the offset before the clock runs, then the first SET_CLOCK. -/
theorem test_example_2_1_first_settings :
    ((running |> asked .setDayOffset 0x31 (encodeTime 14400)).map hostSaid) = some (some (.ok, [.b4 14400, .b2 0]))
    ∧ (({ running with clock := { Clock.reset with dayOffset := 14400 } } |> asked .setClock 0x30 (encodeTime 35586000)).map
        fun t => (hostSaid t, t.clock.running, t.notices.member MemberId.dayAdvanced))
      = some (some (.ok, [.b4 35586000, .b2 412]), true, ⟨true, 1, 412, true⟩) := by decide +kernel

/-- Example 2-1, event 8: the second that begins day 413. -/
theorem test_shipTimeAdvance_begins_day_413 :
    ((did .shipTimeAdvance { ship with clock := { ship.clock with shipTime := 35611199 } }).map fun t =>
        (t.clock.shipTime, t.clock.mono, t.clock.currentDay, (t.notices.member MemberId.dayAdvanced).detail))
      = some (35611200, 101000, 413, 413) := by decide +kernel

/-- Example 2-1, event 9: the computed day falls to 412 and the current day holds. -/
theorem test_setDayOffset_holds_the_day :
    (({ ship with clock := { ship.clock with shipTime := 35613000, currentDay := 413 } }
      |> asked .setDayOffset 0x31 (encodeTime 18000)).map hostSaid) = some (some (.ok, [.b4 18000, .b2 413])) := by
  decide +kernel

/-! ### Chapter 3: lanes -/

/-- Example 3-1, the first tap: GRANTED IN, a permit to 110,000, the flap open. -/
theorem test_laneTap_grants_in :
    ((ship |> tapped .laneTap 0x03 (StationTap.encode ⟨10, guestCard 300⟩)).map fun t =>
        (stationSaid t, (t.lane 0).permits, (t.lane 0).flapOpen, (t.person 300).bind Person.gatePermit))
      = some (some (.granted, { StationGroups.empty with direction := some .inward }), [⟨300, .inward, 100000, 110000⟩], true,
          some 0) := by decide +kernel

/-- Example 3-3: a guest ABOARD is refused once the deadline has passed. -/
theorem test_laneTap_after_the_deadline :
    (({ ship with deadline := .passed } |> tapped .laneTap 0x03 (StationTap.encode ⟨10, guestCard 412⟩)).map stationResult)
      = some (some .allAboardClosed) := by decide +kernel

/-- Lane 0 of example 3-1 at 103,500: 300 crosses inward, the inner beam about to clear. -/
def crossingIn : State :=
  (ship |> withPerson 300 { person .guest .ashore with gatePermit := some 0 }
    |> withPerson 412 { person .guest .aboard with gatePermit := some 0 }
    |> atMono 103500).putLane 0
    { Lane.reset with
      mode := .both, inner := { high := true, broken := true, filterEnd := some 103500, blockEnd := some 132600 }
      recognizer := .leavingIn, openAtStart := some true, flapOpen := true
      permits := [⟨300, .inward, 100000, 110000⟩, ⟨412, .outward, 101500, 111500⟩], occupiedSince := some 102000 }

/-- Example 3-1 at 103,500: a Permitted passage inward. -/
theorem test_beamEvent_permitted :
    ((did (.beamEvent 0 .inner) crossingIn).map fun t =>
        ((t.person 300).map Person.location, t.movementLog.map Movement.sequence, (t.lane 0).permits.map Permit.person,
          (t.lane 0).flapOpen))
      = some (some .aboard, [2001], [412], true)
    ∧ ((did (.beamEvent 0 .inner) crossingIn).map fun t => (t.tallySequence, (t.lane 0).counts))
      = some (2001, ⟨1, 0, 0, 0, 0, 0, 0, 1500⟩) := by decide +kernel

/-- Lane 0 of example 3-1 at 112,400: the outer beam about to clear, the queue empty. -/
def lateOut : State :=
  (ship |> atMono 112400).putLane 0
    { Lane.reset with
      mode := .both, outer := { high := true, broken := true, filterEnd := some 112400, blockEnd := some 141650 }
      recognizer := .leavingOut, openAtStart := some true, flapOpen := true
      counts := { LaneCounts.zero with inbound := 1, noShows := 1, occupancy := 1500 }, occupiedSince := some 111200 }

/-- Example 3-1 at 112,400: a Late passage outward, and the flap shuts. -/
theorem test_beamEvent_late :
    ((did (.beamEvent 0 .outer) lateOut).map fun t =>
        ((t.person 412).map Person.location, (t.lane 0).counts, (t.lane 0).flapOpen, t.tallySequence,
          t.notices.member (MemberId.late 0)))
      = some (some .aboard, ⟨1, 1, 0, 1, 0, 0, 1, 2700⟩, false, 2000, ⟨true, 1, 1, true⟩) := by decide +kernel

/-- Example 3-1 at 111,500: the permit of 412 expires with the recognizer in INNER, and the flap waits. -/
theorem test_permitExpiry_during_a_crossing :
    ((did (.permitExpiry 0 412) ((ship |> withPerson 412 { person .guest .aboard with gatePermit := some 0 }
        |> atMono 111200).putLane 0 { Lane.reset with
          mode := .both, recognizer := .inner, flapOpen := true, permits := [⟨412, .outward, 101500, 111500⟩] })).map fun t =>
        (t.clock.mono, (t.lane 0).permits, (t.lane 0).flapOpen, (t.lane 0).counts.noShows,
          (t.person 412).bind Person.gatePermit))
      = some (111500, [], true, 1, none) := by decide +kernel

/-- Example 3-2 at 290,000: the outer block timing runs out. -/
theorem test_blockTimingExpiry :
    ((did (.blockTimingExpiry 2 .outer) ((ship |> atMono 260000).putLane 2 { Lane.reset with
          mode := .both, outer := { high := false, broken := true, filterEnd := none, blockEnd := some 290000 }
          recognizer := .outer, openAtStart := some false })).map fun t =>
        ((t.lane 2).blocked, (t.lane 2).recognizer, t.notices.member (MemberId.blocked 2)))
      = some (true, .outer, ⟨true, 1, 0, true⟩) := by decide +kernel

/-- R42: a level that reads BROKEN begins a filter run of 20 milliseconds. -/
theorem test_beamRawChange_begins_a_run :
    ((did (.beamRawChange 0 .outer false) ship).map fun t => (t.lane 0).outer)
      = some { high := false, broken := false, filterEnd := some 100020, blockEnd := none } := by decide +kernel

/-- R39: the clamps of CONFIGURE_LANE. -/
theorem test_configureLane_clamps :
    ((ship |> asked .configureLane 0x38 (encodeConfigureLane 3 ⟨.brokenHigh, 251, 0, 601⟩)).map fun t => (t.lane 3).setup)
      = some ⟨.brokenHigh, 250, 1, 600⟩ := by decide +kernel

/-- R42: a polarity change with filter time 0 takes the beam event of the one beam whose raw state then differs at once. -/
theorem test_configureLane_takes_a_beam_event :
    ((ship.putLane 0 { Lane.reset with outer := { Lane.reset.outer with high := false } }
        |> asked .configureLane 0x38 (encodeConfigureLane 0 ⟨.brokenHigh, 0, 10, 30⟩)).map fun t =>
        ((t.lane 0).outer.broken, (t.lane 0).inner.broken, (t.lane 0).inner.filterEnd, (t.lane 0).recognizer))
      = some (false, true, none, .inner) := by decide +kernel

/-- R42: a run that has lasted its filter time ends in its beam event, though the polarity is then reversed. -/
theorem test_configureLane_ends_a_run :
    ((ship.putLane 0 { Lane.reset with outer := { Lane.reset.outer with high := false, filterEnd := some 99990 } }
        |> asked .configureLane 0x38 (encodeConfigureLane 0 ⟨.brokenHigh, 20, 10, 30⟩)).map fun t =>
        ((t.lane 0).recognizer, (t.lane 0).outer.broken, (t.lane 0).outer.filterEnd, (t.lane 0).inner.filterEnd))
      = some (.outer, true, some 100020, some 100020) := by decide +kernel

/-- R58: a mode that no longer admits IN cancels the inbound permit. -/
theorem test_setLaneMode_cancels :
    ((crossingIn |> asked .setLaneMode 0x39 (encodeSetLaneMode 0 .finalOut)).map fun t =>
        ((t.lane 0).permits.map Permit.person, (t.person 300).bind Person.gatePermit))
      = some ([412], none) := by decide +kernel

/-- Example 3-3: the deadline passes with 3 guests ashore. -/
theorem test_deadline_passes :
    ((did .allAboardDeadlinePassed { ship with
        deadline := .set 35618400, deadlineArrived := true, tally := [(2, 3)] }).map fun t =>
        (t.deadline, t.guestsReported, t.notices.member MemberId.allAboardReached))
      = some (.passed, false, ⟨true, 1, 3, true⟩) := by decide +kernel

/-! ### Chapter 4: doors -/

/-- The cabin of example 4-1 with its two guests of generation 3, at 500,000. -/
def evening (v : Cabin) (now : Nat) : State :=
  ({ ship with doorSettings := DoorSettings.reset }
    |> withPerson 1480 { person .guest .aboard with cabin := some 2214, generation := 3 }
    |> withPerson 1602 { person .guest .aboard with cabin := some 2216 }
    |> withPerson 6100 { person .crew .aboard with rights := some (2200, 2299) }
    |> atMono now).putCabin 2214 v

/-- The record of cabin 2,214 as example 4-1 begins. -/
def cabin2214 : Cabin := { Cabin.reset with configured := true, occupants := 2 }

/-- Example 4-1 at 500,000 and at 502,000. -/
theorem test_doorTap_grants :
    ((evening cabin2214 500000 |> tapped .doorTap 0x01 (DoorTap.encode ⟨2214, { guestCard 1480 with generation := 3 }⟩)).map
        fun t => (stationSaid t, (t.cabin 2214).releasedUntil))
      = some (some (.granted, { StationGroups.empty with timing := some (5, false) }), some 505000)
    ∧ ((evening { cabin2214 with releasedUntil := some 505000 } 502000
        |> tapped .doorTap 0x01 (DoorTap.encode ⟨2214, { guestCard 1480 with generation := 3 }⟩)).map
        fun t => (stationSaid t, (t.cabin 2214).releasedUntil))
      = some (some (.grantedAlreadyOpen, { StationGroups.empty with timing := some (3, false) }), some 505000) := by
  decide +kernel

/-- Example 4-1 at 912,000 and at 915,000: the fifth counted refusal starts the lockout, and the next tap meets it. -/
theorem test_doorTap_lockout :
    ((evening { cabin2214 with privacy := true, failures := 4 } 912000
        |> tapped .doorTap 0x01 (DoorTap.encode ⟨2214, crewCard 6100⟩)).map fun t =>
        (stationResult t, (t.cabin 2214).failures, (t.cabin 2214).lockoutUntil, (t.notices.member MemberId.doorLockout).detail))
      = some (some .privacy, 0, some 1212000, 2214)
    ∧ ((evening { cabin2214 with privacy := true, lockoutUntil := some 1212000 } 915000
        |> tapped .doorTap 0x01 (DoorTap.encode ⟨2214, { guestCard 1480 with generation := 3 }⟩)).map stationSaid)
      = some (some (.lockedOut, { StationGroups.empty with timing := some (297, false) })) := by decide +kernel

/-- Example 4-1 at 930,000: CLEAR_LOCKOUT finds a lockout in force. -/
theorem test_clearLockout :
    ((evening { cabin2214 with lockoutUntil := some 1212000 } 930000 |> asked .clearLockout 0x42 (encodeCabin 2214)).map
        fun t => (hostSaid t, (t.cabin 2214).lockoutUntil)) = some (some (.ok, [.b1 1]), none) := by decide +kernel

/-- Example 4-1 at 503,000: the opening starts the ajar timing; R82: an unexplained opening alarms. -/
theorem test_doorReport_opened :
    ((evening { cabin2214 with releasedUntil := some 505000 } 503000
        |> tapped .doorReport 0x02 (DoorReport.encode ⟨2214, .opened .released⟩)).map fun t =>
        (stationResult t, (t.cabin 2214).sensedOpen, (t.cabin 2214).ajarEnd, (t.notices.member MemberId.doorForced).flag))
      = some (some .ack, true, some 623000, false)
    ∧ ((evening cabin2214 503000 |> tapped .doorReport 0x02 (DoorReport.encode ⟨2214, .opened .unexplained⟩)).map fun t =>
        (t.notices.member MemberId.doorForced).detail) = some 2214 := by decide +kernel

/-- Example 4-2 at 4,002,000 and at 4,040,000: a sweeper's tap, through privacy and a lockout, and the last cabin. -/
theorem test_sweep :
    let cabin := { Cabin.reset with configured := true, privacy := true, lockoutUntil := some 4150000, sweep := .unswept }
    let at_ := fun unswept => ({ ship with muster := { Muster.reset with active := true, id := 5, unswept } } |> atMono 4002000).putCabin
      3010 cabin
    ((at_ 2 |> tapped .doorTap 0x01 (DoorTap.encode ⟨3010, crewCard 6230⟩)).map fun t =>
        (stationSaid t, (t.cabin 3010).sweep, (t.cabin 3010).lockoutUntil, t.muster.unswept))
      = some (some (.granted, { StationGroups.empty with timing := some (5, true) }), .swept, some 4150000, 1)
    ∧ ((at_ 1 |> tapped .doorTap 0x01 (DoorTap.encode ⟨3010, crewCard 6230⟩)).map fun t =>
        (t.muster.unswept, t.notices.member MemberId.allSwept)) = some (0, ⟨true, 1, 5, true⟩) := by decide +kernel

/-! ### Chapters 5 and 6: charging -/

/-- The purchase of example 5-1. -/
def purchase : List Line := [⟨1450, 2, 1, true⟩, ⟨350, 1, 0, false⟩]

/-- Examples 5-1 and 5-2: the amounts. -/
theorem test_amounts :
    priceOf outlet5 purchase 200 = ⟨3250, 488, 210, 200, 4148⟩
    ∧ priceOf { Outlet.reset with enabled := true, taxRate1 := 725, taxRate2 := 1250 }
        [⟨135, 3, 1, false⟩, ⟨999, 1, 1, false⟩, ⟨2004, 1, 2, false⟩] 300 = ⟨3408, 0, 353, 0, 3761⟩ := by decide +kernel

/-- Person 1,480 sells with an account at station 40. -/
def selling (a : Account) : State :=
  ship |> withPerson 1480 { person .guest .aboard with cabin := some 2214, account := some a }

/-- The accounts of example 5-1. -/
def account51 (posted : Int) (dailyLimit : Option Nat) (spentDay : Nat) : Account :=
  { account 100000 posted with dailyLimit, spentToday := 16100, spentDay, held := 25000, unposted := 9800 }

/-- Example 5-1: CREDIT with 3,700 available, DAILY with 15,200. -/
theorem test_barSale_refusals :
    ((selling (account51 61500 none 0) |> tapped .barSale 0x04 (Sale.encode ⟨40, guestCard 1480, 200, purchase⟩)).map
        stationSaid)
      = some (some (.credit, { StationGroups.empty with
          amounts := some (⟨3250, 488, 210, 200, 4148⟩, false), available := some 3700 }))
    ∧ ((selling (account51 50000 (some 20000) 412) |> tapped .barSale 0x04 (Sale.encode ⟨40, guestCard 1480, 200, purchase⟩)).map
        stationSaid)
      = some (some (.daily, { StationGroups.empty with
          amounts := some (⟨3250, 488, 210, 200, 4148⟩, false), available := some 15200 })) := by decide +kernel

/-- Example 5-1: the third sale is captured. -/
theorem test_barSale_captures :
    ((selling (account51 50000 (some 20000) 411) |> tapped .barSale 0x04 (Sale.encode ⟨40, guestCard 1480, 200, purchase⟩)).map
        fun t => (stationSaid t, t.accountOf 1480, t.journal.map Entry.charge))
      = some (some (.granted, { StationGroups.empty with
          amounts := some (⟨3250, 488, 210, 200, 4148⟩, false), available := some 11052, charge := some 1 }),
          some { account51 50000 (some 20000) 412 with spentToday := 4148, unposted := 13948 }, [1]) := by decide +kernel

/-- The account of example 5-3. -/
def account53 : Account := { account 50000 0 with dailyLimit := some 30000, spentToday := 12000, spentDay := 412 }

/-- Example 5-3, events 1 and 2. -/
theorem test_barOpenTab_daily :
    ((selling account53 |> tapped .barOpenTab 0x05 (OpenTab.encode ⟨40, guestCard 1480, 20000⟩)).map stationSaid)
      = some (some (.daily, { StationGroups.empty with available := some 50000 }))
    ∧ ((selling account53 |> tapped .barOpenTab 0x05 (OpenTab.encode ⟨40, guestCard 1480, 15000⟩)).map fun t =>
        ((stationSaid t).map fun r => r.2.available, (t.accountOf 1480).map Account.held))
      = some (some (some 35000), some 15000) := by decide +kernel

/-- The hold table of example 6-1. -/
def slots61 : Table Slot :=
  [(0, ⟨6, none⟩), (1, ⟨2, some ⟨2200, 7, 50, 100, 35590000, 35700000, false⟩⟩)]

/-- Example 6-1: the lowest FREE slot is taken and its tag goes up. -/
theorem test_barOpenTab_takes_the_lowest_slot :
    (({ selling (account 50000 0) with slots := slots61 } |> tapped .barOpenTab 0x05 (OpenTab.encode ⟨40, guestCard 1480, 15000⟩)).map
        fun t => (stationSaid t, ((t.slot 0).hold.map Hold.expiry)))
      = some (some (.granted, { StationGroups.empty with available := some 35000, handle := some (0, 7) }), some 35603600) := by
  decide +kernel

/-- A state with the tab of 15,000 of person 1,480 in slot 0 under tag 7. -/
def tabOpen (a : Account) : State :=
  { selling { a with held := 15000 } with
    slots := [(0, ⟨7, some ⟨1480, 5, 40, 15000, 35600000, 35603600, false⟩⟩)] }

/-- Example 5-3, event 3: the close. -/
theorem test_barCloseTab_captures :
    ((tabOpen account53 |> tapped .barCloseTab 0x06 (CloseTab.encode ⟨40, 0, 7, 1000, [⟨3500, 4, 1, true⟩]⟩)).map fun t =>
        ((stationSaid t).map fun r => (r.1, r.2.available), t.accountOf 1480, t.slot 0))
      = some (some (.granted, some 31885), some { account53 with unposted := 18115, spentToday := 30115 }, ⟨7, none⟩) := by
  decide +kernel

/-- Example 6-1: the wrong terminal, and a tag that differs. -/
theorem test_barCloseTab_refusals :
    ((tabOpen (account 50000 0) |> tapped .barCloseTab 0x06 (CloseTab.encode ⟨41, 0, 7, 0, [⟨100, 1, 0, false⟩]⟩)).map
        stationResult) = some (some .wrongOutlet)
    ∧ ((tabOpen (account 50000 0) |> tapped .barCloseTab 0x06 (CloseTab.encode ⟨40, 0, 8, 0, [⟨100, 1, 0, false⟩]⟩)).map
        stationResult) = some (some .holdGone) := by decide +kernel

/-- Example 6-1 at 35,603,600: the hold expires. -/
theorem test_holdExpiry :
    ((did (.holdExpiry 0) { tabOpen (account 50000 0) with
        slots := [(0, ⟨7, some ⟨1480, 5, 40, 15000, 35600000, 35603600, true⟩⟩)] }).map fun t =>
        (t.slot 0, (t.accountOf 1480).map Account.held, t.notices.member MemberId.holdExpired))
      = some (⟨7, none⟩, some 0, ⟨true, 1, 1480, true⟩) := by decide +kernel

/-- An entry of example 6-2. -/
def entry (charge person total : Nat) : Entry :=
  { boot := 57, charge, unitAddress := 0, person, generation := 0, outlet := 5, station := 40, kind := .sale
    amounts := ⟨total, 0, 0, 0, total⟩, shipTime := 35605000, day := 412, lines := [⟨total, 1, 0, false⟩] }

/-- Example 6-2 with three entries waiting. -/
def waiting : State :=
  { ship with
    clock := { ship.clock with shipTime := 35605101 }
    journal := [entry 1001 1480 4148, entry 1002 1602 2500, entry 1003 1480 18115], allowance := 2, nextCharge := 1004 }
    |> withPerson 1480 { person .guest .aboard with
        cabin := some 2214, account := some { account 100000 0 with unposted := 22263, spentToday := 22263, spentDay := 412 } }
    |> withPerson 1602 { person .guest .aboard with
        cabin := some 2214, account := some { account 50000 0 with unposted := 2500, spentToday := 2500, spentDay := 412 } }

/-- Example 6-2: the frame takes the oldest entry and moves its total to the posted balance. -/
theorem test_chargePostStart :
    ((did .chargePostStart waiting).map fun t =>
        (t.journal.map Entry.charge, t.allowance, (t.accountOf 1480).map fun a => (a.unposted, a.posted)))
      = some ([1002, 1003], 1, some (18115, 4148)) := by decide +kernel

/-- Example 6-2: the last allowed post reports POSTING_DRAINED, with the entries that wait. -/
theorem test_chargePostStart_drains :
    ((did .chargePostStart { waiting with allowance := 1, journal := [entry 1003 1480 18115] }).map fun t =>
        (t.journal, t.allowance, t.notices.member MemberId.postingDrained)) = some ([], 0, ⟨true, 1, 0, true⟩) := by
  decide +kernel

/-- Example 6-2: the void of 1,002, and of a charge that is not in the journal. -/
theorem test_barVoid :
    ((waiting |> tapped .barVoid 0x07 (VoidCharge.encode ⟨40, 1002⟩)).map fun t =>
        (stationResult t, t.journal.map Entry.charge, (t.accountOf 1602).map fun a => (a.unposted, a.spentToday)))
      = some (some .granted, [1001, 1003], some (0, 0))
    ∧ ((waiting |> tapped .barVoid 0x07 (VoidCharge.encode ⟨40, 1004⟩)).map stationResult) = some (some .notInJournal) := by
  decide +kernel

/-- Example 6-2: GRANT_POSTING 2. -/
theorem test_grantPosting :
    (({ waiting with allowance := 0 } |> asked .grantPosting 0x50 (natBytes 2 2)).map hostSaid) = some (some (.ok, [.b2 2])) := by
  decide +kernel

/-! ### Chapter 7: the muster -/

/-- A ship whose muster 7 is ACTIVE, as the records of the ship make it. -/
def mustering : State :=
  { ship with
    muster := { active := true, id := 7, points := [], unrecorded := 0, unmustered := 3, unswept := 2 }
    cabins := [(2214, { Cabin.reset with configured := true, occupants := 2, sweep := .unswept }),
      (3010, { Cabin.reset with configured := true, sweep := .unswept })] }
    |> withPerson 412 { person .guest .aboard with muster := .unmustered }
    |> withPerson 1480 { person .guest .aboard with
        cabin := some 2214, account := some (account 100000 0), muster := .unmustered }
    |> withPerson 6230 { person .crew .aboard with rights := some (3000, 3999), sweep := true, muster := .unmustered }

/-- Example 7-1, event 1: ABOARD records become UNMUSTERED and are counted, 412's permit is cancelled. -/
theorem test_startMuster :
    (((ship |> withPerson 412 { person .guest .aboard with gatePermit := some 0 }).putLane 0
        { Lane.reset with mode := .both, flapOpen := true, permits := [⟨412, .outward, 99000, 109000⟩] }
      |> asked .startMuster 0x58 (natBytes 2 7)).map fun t =>
        (hostSaid t, (t.person 412).map Person.muster, (t.lane 0).permits.length))
      = some (some (.ok, [.b2 7, .b2 3, .b2 2]), some .unmustered, 0) := by decide +kernel

/-- Example 7-1, events 2 and 4: a credit, and a move between points. -/
theorem test_musterTap_credits_and_moves :
    ((mustering |> tapped .musterTap 0x08 (StationTap.encode ⟨90, guestCard 1480⟩)).map fun t =>
        (stationResult t, t.muster)) = some (some .mustered, ⟨true, 7, [(3, 1)], 0, 2, 2⟩)
    ∧ (({ mustering with muster := { mustering.muster with unmustered := 2, points := [(3, 1)] } }
        |> withPerson 1480 { person .guest .aboard with cabin := some 2214, muster := .mustered 3 }
        |> tapped .musterTap 0x08 (StationTap.encode ⟨95, guestCard 1480⟩)).map fun t =>
        (stationResult t, t.muster, (t.notices.member MemberId.pointMove).detail))
      = some (some .mustered, ⟨true, 7, [(9, 1)], 0, 2, 2⟩, 1480) := by decide +kernel

/-- Example 7-1, event 5: a person recorded ASHORE is corrected. -/
theorem test_musterTap_corrects_the_tally :
    ((mustering |> withPerson 1210 (person .guest .ashore)
      |> tapped .musterTap 0x08 (StationTap.encode ⟨95, guestCard 1210⟩)).map fun t =>
        ((t.person 1210).map fun p => (p.location, p.muster), t.muster.unmustered, t.tallyCount .guest .ashore,
          t.tallySequence, (t.notices.member MemberId.tallyCorrected).detail))
      = some (some (.aboard, .mustered 9), 3, 1, 2001, 1210) := by decide +kernel

/-- Example 7-1, events 6 and 8: a location set to ASHORE, and to ABOARD for a person who was credited. -/
theorem test_setLocation_during_a_muster :
    ((mustering |> asked .setLocation 0x22 (encodeSetLocation 412 .ashore)).map fun t =>
        ((t.person 412).map Person.muster, t.muster.unmustered)) = some (some .none, 2)
    ∧ (({ mustering with muster := { mustering.muster with unmustered := 2, points := [(3, 1)] } }
        |> withPerson 6230 { person .crew .aboard with muster := .mustered 3 }
        |> asked .setLocation 0x22 (encodeSetLocation 6230 .aboard)).map fun t =>
        ((t.person 6230).map Person.muster, t.muster.unmustered, t.muster.points, t.tallySequence))
      = some (some .unmustered, 3, [], 2000) := by decide +kernel

/-- Example 7-1, event 7: MUSTER_PERSON. -/
theorem test_musterPerson :
    ((mustering |> asked .musterPerson 0x5A (encodeMusterPerson 6230 3)).map fun t =>
        (hostSaid t, t.muster.unmustered, t.muster.points)) = some (some (.mustered, [.b2 6230, .b1 3, .b1 0]), 2, [(3, 1)]) := by
  decide +kernel

/-- Example 6-3: the hold that is overdue expires in the END_MUSTER event. -/
theorem test_endMuster_expires_holds :
    (({ mustering with
        clock := { ship.clock with shipTime := 35710000 }
        slots := [(10, ⟨1, some ⟨1480, 5, 40, 5000, 35690000, 35700000, false⟩⟩),
          (11, ⟨1, some ⟨1602, 5, 40, 9000, 35690000, 35720000, false⟩⟩)] }
        |> asked .endMuster 0x59 []).map fun t =>
        ((t.slot 10).hold.isNone, (t.slot 11).hold.isNone, t.muster.active, t.notices.member MemberId.holdExpired))
      = some (true, false, false, ⟨true, 1, 1480, true⟩) := by decide +kernel

/-! ### Chapter 8: notices -/

/-- The ship after event 5 of example 8-1, then DOOR_AJAR again: a count and no new detail. -/
def inService : State :=
  { ship with notices := { Notices.reset with
      serviceLevel := 7, stack := [3, 0], pending := [(7, true)], members := [(96, ⟨true, 1, 2214, true⟩)] } }
    |>.raise MemberId.doorAjar 3010

/-- Example 8-1, event 6. -/
theorem test_second_event_is_counted :
    (inService.notices.member MemberId.doorAjar, inService.notices.isPending 6) = (⟨true, 2, 2214, true⟩, false) := by decide

/-- Example 8-1, events 7 and 8. -/
theorem test_noticeDone_and_ackNotice :
    ((inService |> asked .noticeDone 0x63 []).map fun t => (hostSaid t, t.notices.serviceLevel, t.notices.stack))
      = some (some (.ok, [.b1 3, .b1 1]), 3, [0])
    ∧ ((inService |> asked .ackNotice 0x64 (encodePair 6 0)).map fun t => (hostSaid t, t.notices.member MemberId.doorAjar))
      = some (some (.ok, [.b1 1, .b1 2, .b2 2214, .b1 0]), Member.reset) := by decide +kernel

/-- Example 8-1, events 4 and 5: ALARM is preferred, at level 7. -/
theorem test_noticeFrameStart_prefers_the_alarm :
    ((did .noticeFrameStart { ship with notices := { Notices.reset with
        serviceLevel := 3, stack := [0], pending := [(0, true), (7, true)], members := [(2, ⟨true, 1, 1, true⟩)] } }).map
        fun t => (t.notices.serviceLevel, t.notices.stack, t.notices.pending)) = some (7, [3, 0], [(7, true)]) := by
  decide +kernel

/-- Example 8-1, event 12: a flag rise while the host sleeps asserts the wake output. -/
theorem test_wake :
    ((did (.ajarTimingEnd 900) ({ ship with host := { ship.host with asleep := true } }.putCabin 900
        { Cabin.reset with configured := true, sensedOpen := true, ajarEnd := some 100000 })).map fun t =>
        (t.host.wake, t.notices.member MemberId.doorAjar)) = some (true, ⟨true, 1, 900, true⟩) := by decide +kernel

/-! ### Chapter 9: the retention store -/

/-- The store of example 9-1 at 10,002. -/
def dip : State :=
  { ship with
    clock := { ship.clock with mono := 10002 }
    store := { running.store with
      dirty := [6, 18, 95], inFlight := some ⟨23, 10000, .person (personCopy records 23)⟩, lastWritten := 22 } }

/-- Example 9-1 at 10,002: POWER_FAIL with the dirty count. -/
theorem test_powerFailAssert :
    ((did .powerFailAssert dip).map fun t => (t.store.state, t.store.dirty, t.notices.member MemberId.powerFail))
      = some (.closing, [6, 18, 95], ⟨true, 1, 3, true⟩) := by decide +kernel

/-- With the input at the warning level step 5 leaves the store OPEN and an assertion due; the assertion is an event of its own,
in which the writer takes its first person block (R157, R164, R166). -/
theorem test_powerFailAssert_due :
    let fresh : State := { State.reset with powerFailLevel := true }
    ((did (.storeWriteComplete 5 true) fresh).map fun t =>
        (t.phase, t.store.state, t.store.dirty.length, t.store.inFlight, (t.notices.member MemberId.powerFail).count))
      = some (.assertionDue, .opened, 128, none, 0)
    ∧ ((did (.storeWriteComplete 5 true) fresh).bind fun t => (did .powerFailAssert t).map fun u =>
        (u.phase, u.store.state, u.store.inFlight.map Flight.block, u.notices.member MemberId.powerFail))
      = some (.running, .closing, some 0, ⟨true, 1, 128, true⟩) := by decide +kernel

/-- Example 9-1 at 10,005 and at 10,017: the next block is the next above; a disagreement is counted and the block is dirty. -/
theorem test_storeWriteComplete :
    ((did (.storeWriteComplete 5 true) { dip with store := { dip.store with state := .closing } }).map fun t =>
        (t.store.dirty, t.store.inFlight.map Flight.block, t.clock.mono)) = some ([6, 18], some 95, 10005)
    ∧ ((did (.storeWriteComplete 7 false) { dip with store := { dip.store with
          state := .closing, dirty := [18], inFlight := some ⟨6, 10010, .person []⟩, lastWritten := 95 } }).map fun t =>
        (t.store.dirty, t.store.inFlight.map Flight.block, t.store.faults, (t.notices.member MemberId.storeFault).detail))
      = some ([6], some 18, [(6, 1)], 6) := by decide +kernel

/-- Example 9-1 at 10,027 and at 10,032: the closing write begins and closes the store. -/
theorem test_closing_write :
    ((did (.storeWriteComplete 5 true) { dip with store := { dip.store with
          state := .closing, dirty := [], inFlight := some ⟨6, 10022, .person []⟩, lastWritten := 18 } }).map fun t =>
        (t.store.inFlight.map Flight.block, t.store.orderly)) = some (some 128, true)
    ∧ ((did (.storeWriteComplete 5 true) { dip with store := { dip.store with
          state := .closing, dirty := [], orderly := true, assertedAt := 10002
          inFlight := some ⟨128, 10027, .control { blankFacts with orderly := true }⟩ } }).map fun t =>
        (t.store.state, t.store.inFlight, t.notices.member MemberId.storeClosed))
      = some (.closed, none, ⟨true, 1, 30, true⟩) := by decide +kernel

/-- Example 9-1 at 14,000: the release. -/
theorem test_powerFailRelease :
    ((did .powerFailRelease { dip with
        powerFailLevel := true
        store := { dip.store with state := .closed, dirty := [], orderly := true, inFlight := none } }).map fun t =>
        (t.store.state, t.store.inFlight.map Flight.block, t.store.orderly, (t.notices.member MemberId.powerRestored).detail))
      = some (.reopening, some 128, false, 1) := by decide +kernel

/-- The non-volatile memory of example 7-2, block 23; the control block says that muster 12 is ACTIVE. -/
def browned : State :=
  { ship with store := { running.store with
      control := .written true { blankFacts with boot := 56, musterActive := true, musterId := 12, failedList := [41] }
      blocks := (List.range 128).map fun b => (b,
        if b = 18 then .failing
        else if b = 23 then .entries
          [(1480, ⟨.guest, 0, .aboard, true⟩), (1481, ⟨.guest, 0, .aboard, false⟩), (1500, ⟨.guest, 0, .ashore, false⟩)]
        else if b = 41 then .entries [(2624, ⟨.guest, 0, .aboard, false⟩)] else .entries []) } }

/-- Examples 7-2 and 9-2: the records, the muster and the report of the start-up. -/
theorem test_partReset_restores :
    ((did (.partReset .brownOut 3) browned).map fun t =>
        ((t.person 1480).map Person.muster, (t.person 1481).map Person.muster, (t.person 1500).map Person.muster,
          t.person 2624, t.muster))
      = some (some .unrecorded, some .unmustered, some .none, none, ⟨true, 12, [], 1, 1, 0⟩)
    ∧ ((did (.partReset .brownOut 3) browned).map fun t => t.phase)
      = some (.starting ⟨.brownOut, 3, 57, .good, false, 3, some (12, 1, 1), [18, 41], false⟩) := by decide +kernel

/-- A reset during the write of block 23 leaves that block part-written, and during the control block's the control block lost
(R157, R164, R165). -/
theorem test_partReset_interrupts :
    let writing := fun f : Flight => { browned with store := { browned.store with inFlight := some f } }
    ((did (.partReset .brownOut 3) (writing ⟨23, 99998, .person []⟩)).map fun t => (t.phase, t.person 1480))
      = some (.starting ⟨.brownOut, 3, 57, .good, false, 0, some (12, 0, 0), [18, 23, 41], false⟩, none)
    ∧ ((did (.partReset .brownOut 3) (writing ⟨128, 99998, .control blankFacts⟩)).map fun t => t.phase)
      = some (.starting ⟨.brownOut, 3, 1, .controlLost, false, 4, none, [18], false⟩) := by decide +kernel

/-! ### Chapter 10: the links -/

/-- The check over the nine bytes 0x31 to 0x39 is 0x29B1 (R168). -/
theorem test_check_value : frameCheck [0x31, 0x32, 0x33, 0x34, 0x35, 0x36, 0x37, 0x38, 0x39] = 0x29B1#16 := by
  decide +kernel

/-- Example 10-1, event 1: the queue is full, and BUSY is formed at arrival. -/
theorem test_frameReceived_busy :
    ((did (.frameReceived .host (frameBytes 0x27 19 [])) { ship with host := { ship.host with
        port := { Port.reset with requests := List.replicate 8 ⟨0x27, 11, []⟩ } } }).map fun t =>
        (t.host.port.requests.length, t.host.replies)) = some (8, [⟨0x27, 19, .busy, []⟩]) := by decide +kernel

/-- Example 10-1, event 4: a frame whose check disagrees is dropped and counted. -/
theorem test_frameReceived_lost :
    ((did (.frameReceived .host (0xA5#8 :: frameCore 0x27 20 [] ++ [0, 0])) ship).map fun t =>
        (t.host.port.requests, t.host.port.errors, t.notices.member MemberId.linkError)) = some ([], 1, ⟨true, 1, 0, true⟩) := by
  decide +kernel

/-- R177: the frame of the OK reply to RESET ends in a reset with cause RESET_MESSAGE. -/
theorem test_frameSent_resets :
    ((did (.frameSent .host) { ship with host := { ship.host with
        sending := some (HostReply.frame ⟨0x71, 1, .ok, []⟩) } }).map fun t => (t.isStarting, t.clock.mono, t.stations))
      = some (true, 0, []) := by decide +kernel

end Sys2Proof.Tests
end

