-- ==== Sys2Proof/Tests/Witnesses.lean ====
section
/-!
SUPPORT. For each statement with hypotheses a concrete state and operands that meet them together, clause by clause, at the
ends of the ranges where a clause has one.
-/

-- Theorems one after the other: every kernel evaluation waits for the theorems before it, and would hold a thread meanwhile.
set_option Elab.async false

namespace Sys2Proof.Tests

open Sys2Proof.Machine

/-! ### What a witness says -/

/-- A tidy state, by a check that runs. -/
def tidy (s : State) : Bool :=
  decide (s.decoders.wf Decoder.reset ∧ s.persons.wf none ∧ s.tally.wf 0 ∧ s.stations.wf Station.reset)
    && decide (s.lanes.wf Lane.reset ∧ s.cabins.wf Cabin.reset ∧ s.outlets.wf Outlet.reset ∧ s.slots.wf Slot.reset)
    && decide (s.muster.points.wf 0 ∧ s.notices.levels.wf 0 ∧ s.notices.pending.wf false)
    && decide (s.notices.members.wf Member.reset ∧ s.store.blocks.wf .erased ∧ s.store.faults.wf 0)

theorem tidy_sound {s : State} (h : tidy s = true) : s.Tidy := by
  simp only [tidy, Bool.and_eq_true, decide_eq_true_iff] at h
  obtain ⟨⟨⟨⟨a, b, c, d⟩, e, f, g, i⟩, j, k, l⟩, m, n, o⟩ := h
  exact ⟨a, b, c, d, e, f, g, i, j, k, l, m, n, o⟩

/-- A tidy state in which a host request with tag 1 is offered and a condition holds. -/
def HostAt {α : Type} (base : State) (kind : Byte) (decode : List Byte → Option α) (body : List Byte) (q : α)
    (condition : State → Prop) : Prop :=
  let s := offerHost kind body base
  s.Tidy ∧ HostOffer s kind decode ⟨1, body⟩ q ∧ condition s

/-- A tidy state in which a station request with tag 1 is offered and a condition holds. -/
def StationAt {α : Type} (base : State) (kind : Byte) (decode : List Byte → Option α) (body : List Byte) (q : α)
    (condition : State → Prop) : Prop :=
  let s := offerStation kind body base
  s.Tidy ∧ StationOffer s kind decode ⟨1, body⟩ q ∧ condition s

section Witness

variable {α : Type} [DecidableEq α] {base : State} {kind : Byte} {decode : List Byte → Option α} {body : List Byte} {q : α}
  {condition : State → Prop}

theorem hostAt_of (h : (tidy (offerHost kind body base) && (offerHost kind body base).hostTakes ⟨kind, 1, body⟩
      && decide (decode body = some q)) = true) (hc : condition (offerHost kind body base)) :
    HostAt base kind decode body q condition := by
  simp only [Bool.and_eq_true, decide_eq_true_iff] at h
  exact ⟨tidy_sound h.1.1, ⟨h.1.2, (by decide : (1 : Byte) ≠ 0), h.2⟩, hc⟩

theorem stationAt_of (h : (tidy (offerStation kind body base) && (offerStation kind body base).stationTakes ⟨kind, 1, body⟩
      && decide (decode body = some q)) = true) (hc : condition (offerStation kind body base)) :
    StationAt base kind decode body q condition := by
  simp only [Bool.and_eq_true, decide_eq_true_iff] at h
  exact ⟨tidy_sound h.1.1, ⟨h.1.2, (by decide : (1 : Byte) ≠ 0), h.2⟩, hc⟩

theorem hostAt [DecidablePred condition] (h : (tidy (offerHost kind body base)
      && (offerHost kind body base).hostTakes ⟨kind, 1, body⟩ && decide (decode body = some q)
      && decide (condition (offerHost kind body base))) = true) : HostAt base kind decode body q condition := by
  rw [Bool.and_eq_true, decide_eq_true_iff] at h
  exact hostAt_of h.1 h.2

theorem stationAt [DecidablePred condition] (h : (tidy (offerStation kind body base)
      && (offerStation kind body base).stationTakes ⟨kind, 1, body⟩ && decide (decode body = some q)
      && decide (condition (offerStation kind body base))) = true) : StationAt base kind decode body q condition := by
  rw [Bool.and_eq_true, decide_eq_true_iff] at h
  exact stationAt_of h.1 h.2

end Witness

/-- The store of the ship is CLOSING. -/
def closing (s : State) : State := { s with store := { s.store with state := .closing } }

theorem completes {c : Instr} {s : State} (h : (did c s).isSome = true) : ∃ t, exec c s = .next t := by
  unfold did at h
  split at h
  · exact ⟨_, ‹_›⟩
  · simp at h

/-! ### The step and resets -/

theorem witness_StepRunsTheFrontCommand :
    ({ ship with pending := [.hostReplyStart, .frameSent .host] } : State).pending = .hostReplyStart :: [.frameSent .host]
    ∧ ship.pending = [] := ⟨rfl, rfl⟩

theorem witness_NoCommandTouchesTheQueue :
    ∃ t, exec .chargePostStart { waiting with pending := [.hostReplyStart] } = .next t :=
  completes (by decide +kernel)

/-- The last operands that the checks admit, and the first that fault. -/
theorem witness_WellFormedCommandsRun :
    (Instr.permitExpiry 3 8191).wellFormed = true ∧ (Instr.storeWriteComplete 8 true).wellFormed = true
    ∧ 4 ≤ 4 ∧ (3 < 4 ∧ 8192 ≤ 8192) ∧ 4096 ≤ 4096 ∧ 512 ≤ 512 ∧ (0 = 0 ∨ 8 < 0) ∧ (9 = 0 ∨ 8 < 9) := by decide

/-- A muster resumed with nobody unmustered; a beam that reads BROKEN, and one that does not; and a store found UNUSABLE. -/
theorem witness_PartResetLeavesResetValues :
    let found := fun facts : ControlFacts => { ship with store := { running.store with
        control := .written true facts, blocks := (List.range 128).map fun b => (b, .entries []) } }.putLane 3
      { Lane.reset with inner := ⟨false, true, none, some 130000⟩, openAtStart := some true, saturationReported := true }
    let resumed := found { blankFacts with musterActive := true, musterId := 12 }
    let spent := found { blankFacts with unusable := true }
    (((resumed.lane 3).beam .inner).high = false ∧ ((resumed.lane 3).beam .outer).high = true)
    ∧ ((did (.partReset .brownOut 5) resumed).map fun t =>
        (t.muster.active, t.muster.id, t.muster.unmustered, t.store.unusable)) = some (true, 12, 0, false)
    ∧ ((did (.partReset .brownOut 5) spent).map fun t => (t.muster.active, t.store.unusable)) = some (false, true) := by
  decide +kernel

/-- The store of `browned` with another control block, and with a write in flight. -/
def brownedAs (control : StoredControl) (inFlight : Option Flight) : State :=
  { browned with store := { browned.store with control, inFlight } }

/-- A store that each judgement finds: GOOD with a muster ACTIVE and with none, BLANK by an erased control block and by a wrong
format mark, CONTROL_LOST by a failing block and by a write of it in flight, and a person block's write in flight. -/
def found : List State :=
  [browned, brownedAs (.written true blankFacts) none, brownedAs .erased none, brownedAs (.written false blankFacts) none,
    brownedAs .failing none, brownedAs (.written true blankFacts) (some ⟨128, 99998, .control blankFacts⟩),
    brownedAs (.written true blankFacts) (some ⟨23, 99998, .person []⟩)]

/-- Block 23 is good, with a mustered flag for an IDLE muster to clear, block 18 fails its check, and block 41 is listed FAILED;
the last index is 8,191, unoccupied; and one block more is left erased. -/
theorem witness_RestoreRebuildsTheRecords :
    (∀ s ∈ found, s.store.blocks.wf .erased)
    ∧ (∀ s ∈ found, ∀ b l, b < 128 → s.store.blockFound b = .entries l → EntriesOf b l)
    ∧ found.map (fun s => s.store.controlFound) = [browned.store.control, .written true blankFacts, .erased,
        .written false blankFacts, .failing, .failing, .written true blankFacts]
    ∧ (browned.store.control = .written true { blankFacts with
        boot := 56, musterActive := true, musterId := 12, failedList := [41] })
    ∧ found.map (fun s => s.store.blockFound 18) = List.replicate 7 .failing
    ∧ (found.take 6).map (fun s => s.store.blockFound 23) = List.replicate 6 (.entries
        [(1480, ⟨.guest, 0, .aboard, true⟩), (1481, ⟨.guest, 0, .aboard, false⟩), (1500, ⟨.guest, 0, .ashore, false⟩)])
    ∧ (found.drop 6).map (fun s => s.store.blockFound 23) = [.failing]
    ∧ (∀ s ∈ found, s.store.blockFound (blockOf 8191) = .entries []) ∧ 8191 < 8192 ∧ blockOf 2624 = 41
    ∧ { Store.reset with control := .failing, inFlight := none }.blockFound 0 = .erased := by
  have entries : ∀ s ∈ found, ∀ b < 128, (match s.store.blockFound b with
      | .entries l => decide (l.Pairwise (fun x y => x.1 < y.1) ∧ ∀ e ∈ l, blockOf e.1 = b)
      | _ => true) = true := by decide +kernel
  refine ⟨by decide +kernel, fun s hs b l hb h => ?_, by decide +kernel, rfl, by decide +kernel, by decide +kernel,
    by decide +kernel, by decide +kernel, by decide, by decide, rfl⟩
  have := entries s hs b hb
  rw [h] at this
  have : l.Pairwise (fun x y => x.1 < y.1) ∧ ∀ e ∈ l, blockOf e.1 = b := by simpa using this
  exact this

/-! ### Encodings: the greatest values -/

theorem witness_HostBodiesDecodeAsEncoded :
    LoadPerson.valid
      { index := 8191, cls := .crew, generation := 15, location := some .departed, cabin := some 4095,
        rights := some (0, 4095), sweep := true, account := some ⟨10000000, some 10000000, true, true⟩,
        posted := some (-99999999) } = true
    ∧ balanceInRange 99999999 = true ∧ AccountTerms.valid ⟨0, none, false, false⟩ = true
    ∧ Station.valid ⟨.bar, true, some 31⟩ = true ∧ Station.valid ⟨.lane, true, some 3⟩ = true
    ∧ Station.valid ⟨.muster, true, some 31⟩ = true ∧ Station.valid ⟨.unused, false, none⟩ = true
    ∧ 7 < 8 ∧ 127 < 128 ∧ 3 < 4 ∧ 31 < 32 ∧ 511 < 512 ∧ 4095 < 4096 ∧ 8191 < 8192 ∧ 255 < 256 ∧ 65535 < 65536
    ∧ 4294967295 < 4294967296 ∧ 9 ≤ 9 ∧ 7 ≤ 7 ∧ 8 < membersOfGroup 9 := by decide +kernel

theorem witness_StationBodiesDecodeAsEncoded :
    purchaseValid [⟨99999, 99, 3, true⟩] 99999 = true ∧ purchaseValid (List.replicate 8 (Line.mk 0 1 0 false)) 0 = true
    ∧ 4095 < 4096 ∧ 127 < 128 ∧ 511 < 512 ∧ 100 ≤ 100 ∧ 1000000 ≤ 1000000 ∧ 4294967295 < 4294967296 := by decide

/-! ### The links -/

/-- The longest body, and the last place of each queue. -/
theorem witness_FramesAreReceivedAsSent :
    (List.replicate 1024 (0 : Byte)).length ≤ 1024 ∧ ∀ link : Link,
      let s := ship.putPort link { Port.reset with requests := List.replicate (requestCapacity link - 1) (Frame.mk 0 0 []) }
      s.isStarting = false ∧ (s.port link).receiver = .hunting ∧ (s.port link).requests.length < requestCapacity link := by
  refine ⟨by rw [List.length_replicate], fun link => ?_⟩
  cases link <;> decide

/-- A full queue, and start-up, each with room for the reply and without. -/
def crowded (link : Link) (replies : Nat) : State :=
  let s := { ship with
    host := { ship.host with replies := List.replicate replies ⟨0, 0, .busy, []⟩ }
    station := { ship.station with replies := List.replicate replies ⟨0, 0, .busy, StationGroups.empty⟩ } }
  s.putPort link { Port.reset with requests := List.replicate (requestCapacity link) (Frame.mk 0 0 []) }

/-- With room and without, of an ASLEEP host whose wake output is asserted too; the last part also at the least length that is
too long, and the greatest. -/
theorem witness_FramesWithoutRoomOrCheck :
    (∀ link : Link, requestCapacity link ≤ ((crowded link 0).port link).requests.length
      ∧ ((crowded link 0).port link).receiver = .hunting ∧ (crowded link 15).replyRoom link = true
      ∧ (crowded link 32).replyRoom link = false)
    ∧ (∀ replies ∈ [15, 16], let s := crowded .host replies
      let t : State := { s with host := { s.host with asleep := true, wake := true } }
      requestCapacity .host ≤ (t.port .host).requests.length ∧ (t.port .host).receiver = .hunting ∧ t.host.asleep = true
        ∧ t.host.wake = true ∧ t.replyRoom .host = decide (replies = 15))
    ∧ (State.reset.isStarting = true ∧ ∀ link : Link, (State.reset.port link).receiver = .hunting)
    ∧ (0 < 65536 ∧ 0 ≠ (frameCheck (frameCore 0x27 1 [])).toNat)
    ∧ (1024 < 1025 ∧ 1025 < 65536 ∧ 1024 < 65535 ∧ 65535 < 65536 ∧ 0xA5#8 ∉ [0x27#8, 1, 0]) := by
  refine ⟨fun link => ?_, by decide +kernel, ⟨rfl, fun link => ?_⟩, ⟨by decide, by decide +kernel⟩, by decide⟩ <;> cases link <;>
    decide +kernel

/-- A start byte inside a frame that it does not complete, taken 50 milliseconds after the last byte. -/
theorem witness_ReceiversStartAndTimeOut :
    (∀ link : Link, (ship.port link).receiver = .hunting)
    ∧ ∀ link : Link, ∀ bs ∈ [[], [4, 0, 0x27]],
      let s := ship.setReceiver link (.inFrame bs 99950)
      (s.port link).receiver = .inFrame bs 99950 ∧ s.clock.mono ≤ 99950 + 50
        ∧ (bs = [] ∨ (lengthOf (bs ++ [0xA5]) ≤ 1024 ∧ bs.length + 1 ≠ lengthOf (bs ++ [0xA5]) + 6)) := by
  refine ⟨fun link => by cases link <;> decide, fun link => ?_⟩
  cases link <;> decide

theorem witness_RequestsAreAnsweredOnce :
    (offerHost 0x27 [] ship).takes .host ⟨0x27, 1, []⟩ = true
    ∧ (offerStation 0x03 (StationTap.encode ⟨10, guestCard 300⟩) ship).takes .station
        ⟨0x03, 1, StationTap.encode ⟨10, guestCard 300⟩⟩ = true := by decide +kernel

/-- An unknown kind, and a body that is too long, on each link. -/
theorem witness_UnfitRequestsChangeNothing :
    ((offerHost 0x2C [] ship).takes .host ⟨0x2C, 1, []⟩ = true ∧ isRequestKind .host 0x2C = false)
    ∧ ((offerStation 0x00 [] ship).takes .station ⟨0x00, 1, []⟩ = true ∧ isRequestKind .station 0x00 = false)
    ∧ ((offerHost 0x27 [0] ship).takes .host ⟨0x27, 1, [0]⟩ = true ∧ isRequestKind .host 0x27 = true
        ∧ (commandFor .host ⟨0x27, 1, [0]⟩).wellFormed = false)
    ∧ ((offerStation 0x08 [] ship).takes .station ⟨0x08, 1, []⟩ = true ∧ isRequestKind .station 0x08 = true
        ∧ (commandFor .station ⟨0x08, 1, []⟩).wellFormed = false) := by decide +kernel

theorem witness_ReadingsAnswerTheState :
    HostAt ship 0x21 decodeIndex (encodeIndex 8191) 8191 (fun _ => True) ∧ HostAt ship 0x27 decodeEmpty [] () (fun _ => True)
    ∧ HostAt ship 0x29 decodeReadDecoder [7] 7 (fun _ => True) ∧ HostAt ship 0x2B decodeReadStation [127] 127 (fun _ => True)
    ∧ HostAt ship 0x32 decodeEmpty [] () (fun _ => True) ∧ HostAt ship 0x3A decodeLane [3] 3 (fun _ => True)
    ∧ HostAt ship 0x41 decodeCabin (encodeCabin 4095) 4095 (fun _ => True)
    ∧ HostAt ship 0x49 decodeReadOutlet [31] 31 (fun _ => True)
    ∧ HostAt ship 0x51 decodeIndex (encodeIndex 1480) 1480 (fun _ => True)
    ∧ HostAt ship 0x53 decodeEmpty [] () (fun _ => True) ∧ HostAt ship 0x5B decodeIndex (encodeIndex 0) 0 (fun _ => True)
    ∧ HostAt ship 0x69 decodeEmpty [] () (fun _ => True) ∧ HostAt ship 0x70 decodeEmpty [] () (fun _ => True) := by
  refine ⟨?_, ?_, ?_, ?_, ?_, ?_, ?_, ?_, ?_, ?_, ?_, ?_, ?_⟩ <;> exact hostAt (by decide +kernel)

theorem witness_LinkMessagesAndMovements :
    HostAt ship 0x72 decodeClearFlag [1] true (fun _ => True) ∧ HostAt ship 0x72 decodeClearFlag [0] false (fun _ => True)
    ∧ HostAt ship 0x3D decodeReadMovements [1] 1 (fun _ => True) ∧ HostAt ship 0x3D decodeReadMovements [16] 16 (fun _ => True)
    ∧ HostAt ship 0x65 decodeEmpty [] () (fun _ => True) ∧ HostAt ship 0x71 decodeEmpty [] () (fun _ => True)
    ∧ { ship with host := { ship.host with takingStopped := true } }.host.takingStopped = true := by
  refine ⟨?_, ?_, ?_, ?_, ?_, ?_, rfl⟩ <;> exact hostAt (by decide +kernel)

/-- Each transmitter free with a frame to send, and each reason that holds a start back. -/
theorem witness_TransmittersSendTheFirst :
    (∃ report, let s : State := { ship with host := { ship.host with started := some report } }
      s.isStarting = false ∧ s.host.sending = none ∧ s.host.started = some report)
    ∧ (let s : State := { ship with host := { ship.host with replies := [⟨0x27, 1, .ok, []⟩] } }
      s.isStarting = false ∧ s.host.sending = none ∧ s.host.started = none ∧ s.host.replies = ⟨0x27, 1, .ok, []⟩ :: [])
    ∧ (let s : State := { ship with station := { ship.station with replies := [⟨0x02, 1, .ack, StationGroups.empty⟩] } }
      s.station.sending = none ∧ s.station.replies = ⟨0x02, 1, .ack, StationGroups.empty⟩ :: [])
    ∧ (HostReply.frame ⟨0x27, 1, .ok, []⟩).resets = false ∧ (HostReply.frame ⟨0x71, 1, .ok, []⟩).resets = true
    ∧ (let s : State := { ship with station := { ship.station with sending := some ⟨[], false⟩ } }
      s.station.sending = some ⟨[], false⟩)
    ∧ (State.reset.isStarting = true ∧ ship.host.sending = none ∧ ship.host.started = none ∧ ship.host.replies = []
      ∧ ship.station.replies = [] ∧ ship.station.sending = none)
    ∧ ({ HostLink.reset with sending := some ⟨[], false⟩, started := some StartedReport.blank } : HostLink).sending ≠ none := by
  refine ⟨⟨StartedReport.blank, by decide⟩, by decide, by decide, by decide +kernel, by decide +kernel, rfl, by decide, nofun⟩

/-! ### Persons -/

/-- No account at an index meets a condition that its account, if it has one, fails. -/
theorem no_account {s : State} {i : Nat} {r : Option Account} (h : s.accountOf i = r) {P : Account → Prop}
    (hp : ∀ a, r = some a → ¬ P a) : ¬ ∃ a, s.accountOf i = some a ∧ P a :=
  fun ⟨a, ha, hpa⟩ => hp a (h ▸ ha) hpa

/-- A load that carries nothing optional. -/
def loading (index : Nat) : LoadPerson :=
  { index, cls := .guest, generation := 0, location := none, cabin := none, rights := none, sweep := false, account := none,
    posted := none }

/-- The tests of LOAD_PERSON. -/
def loadTests (q : LoadPerson) (s : State) : List (Prop × Result) :=
  [(s.store.state ≠ .opened, .powerFail),
   (q.account = none ∧ ∃ a, s.accountOf q.index = some a ∧ 0 < a.held, .hasHolds),
   (q.account = none ∧ ∃ a, s.accountOf q.index = some a ∧ 0 < a.unposted, .hasUnposted),
   (∃ c, q.cabin = some c ∧ 8 ≤ (s.cabin c).occupants ∧ cabinOf (s.person q.index) ≠ some c, .cabinFull)]

theorem witness_LoadPersonReplacesTheRecord_refused :
    HostAt (closing ship) 0x20 decodeLoadPerson (loading 300).encode (loading 300)
      (fun s => FirstFailing (loadTests (loading 300) s) (some .powerFail))
    ∧ HostAt (selling { account 50000 0 with held := 1 }) 0x20 decodeLoadPerson (loading 1480).encode (loading 1480)
      (fun s => FirstFailing (loadTests (loading 1480) s) (some .hasHolds))
    ∧ HostAt (selling { account 50000 0 with unposted := 1 }) 0x20 decodeLoadPerson (loading 1480).encode (loading 1480)
      (fun s => FirstFailing (loadTests (loading 1480) s) (some .hasUnposted))
    ∧ HostAt (ship.putCabin 2214 { cabin2214 with occupants := 8 }) 0x20 decodeLoadPerson
      { loading 300 with cabin := some 2214 : LoadPerson }.encode { loading 300 with cabin := some 2214 }
      (fun s => FirstFailing (loadTests { loading 300 with cabin := some 2214 } s) (some .cabinFull)) := by
  refine ⟨hostAt_of (by decide +kernel) (.inl ⟨by decide, rfl⟩),
    hostAt_of (by decide +kernel) (.inr ⟨by decide, .inl ⟨⟨rfl, _, by rfl, by decide⟩, rfl⟩⟩),
    hostAt_of (by decide +kernel) (.inr ⟨by decide, .inr ⟨?_, .inl ⟨⟨rfl, _, by rfl, by decide⟩, rfl⟩⟩⟩),
    hostAt_of (by decide +kernel) (.inr ⟨by decide, .inr ⟨?_, .inr ⟨?_, .inl ⟨⟨2214, rfl, by decide, by decide⟩, rfl⟩⟩⟩⟩)⟩
  · rintro ⟨-, h⟩; exact no_account (r := some { account 50000 0 with unposted := 1 }) (by rfl) (by rintro a ⟨⟩; decide) h
  · rintro ⟨-, h⟩; exact no_account (r := none) (by rfl) nofun h
  · rintro ⟨-, h⟩; exact no_account (r := none) (by rfl) nofun h

/-- A new record; a record without an account that gets one; a record whose account is replaced in its limits; and a record
whose account is removed. -/
theorem witness_LoadPersonReplacesTheRecord :
    let allowed := fun (q : LoadPerson) (s : State) => s.store.state = .opened
      ∧ (q.account = none → ∀ a, s.accountOf q.index = some a → a.held = 0 ∧ a.unposted = 0)
      ∧ (∀ c, q.cabin = some c → (s.cabin c).occupants < 8 ∨ cabinOf (s.person q.index) = some c)
    let q : LoadPerson := { loading 300 with
      cabin := some 2214, account := some ⟨50000, none, false, false⟩, posted := some 5 }
    HostAt ship 0x20 decodeLoadPerson (loading 5990).encode (loading 5990)
      (fun s => allowed (loading 5990) s ∧ s.person 5990 = none)
    ∧ HostAt (ship.putCabin 2214 { cabin2214 with occupants := 7 }) 0x20 decodeLoadPerson q.encode q
      (fun s => allowed q s ∧ s.person 300 = some (person .guest .ashore))
    ∧ HostAt (ship.putCabin 2214 { cabin2214 with occupants := 8 }) 0x20 decodeLoadPerson
      { q with index := 1480 : LoadPerson }.encode { q with index := 1480 }
      (fun s => allowed { q with index := 1480 } s ∧ ∃ p, s.person 1480 = some p ∧ p.account = some (account 100000 0))
    ∧ HostAt ship 0x20 decodeLoadPerson (loading 1480).encode (loading 1480)
      (fun s => allowed (loading 1480) s ∧ ∃ p, s.person 1480 = some p) := by
  refine ⟨hostAt_of (by decide +kernel) ⟨⟨rfl, fun _ a h => ?_, nofun⟩, by decide +kernel⟩,
    hostAt_of (by decide +kernel) ⟨⟨rfl, nofun, ?_⟩, by decide +kernel⟩,
    hostAt_of (by decide +kernel) ⟨⟨rfl, nofun, ?_⟩, _, by rfl, rfl⟩,
    hostAt_of (by decide +kernel) ⟨⟨rfl, fun _ a h => ?_, nofun⟩, _, by rfl⟩⟩
  · have h0 : (none : Option Account) = some a := by rw [← h]; rfl
    cases h0
  · rintro c ⟨⟩; exact .inl (by decide +kernel)
  · rintro c ⟨⟩; exact .inr (by decide +kernel)
  · have : some (account 100000 0) = some a := by rw [← h]; rfl
    cases this; decide

/-- Both refusals, an idle muster and an ACTIVE one. -/
theorem witness_LocationAndGenerationAreSet :
    HostAt (closing ship) 0x22 decodeSetLocation (encodeSetLocation 300 .departed) (300, .departed)
      (fun s => s.store.state ≠ .opened)
    ∧ HostAt ship 0x22 decodeSetLocation (encodeSetLocation 8191 .aboard) (8191, .aboard)
      (fun s => s.store.state = .opened ∧ s.person 8191 = none)
    ∧ HostAt ship 0x22 decodeSetLocation (encodeSetLocation 300 .aboard) (300, .aboard)
      (fun s => s.store.state = .opened ∧ s.person 300 = some (person .guest .ashore))
    ∧ HostAt mustering 0x22 decodeSetLocation (encodeSetLocation 300 .aboard) (300, .aboard)
      (fun s => s.store.state = .opened ∧ s.person 300 = some (person .guest .ashore) ∧ s.muster.active = true)
    ∧ HostAt (closing ship) 0x23 decodeIndex (encodeIndex 300) 300 (fun s => s.store.state ≠ .opened)
    ∧ HostAt ship 0x23 decodeIndex (encodeIndex 8191) 8191 (fun s => s.store.state = .opened ∧ s.person 8191 = none)
    ∧ HostAt ship 0x23 decodeIndex (encodeIndex 300) 300
      (fun s => s.store.state = .opened ∧ s.person 300 = some (person .guest .ashore)) := by
  refine ⟨?_, ?_, ?_, ?_, ?_, ?_, ?_⟩ <;> exact hostAt (by decide +kernel)

/-- A change of location that brings the last guest aboard, and one that takes away the last UNMUSTERED. -/
theorem witness_OnePersonChanged_notices :
    let lastAshore := { ship with
      deadline := .passed, persons := ship.persons.write none 1210 none, tally := ship.tally.write 0 2 1 }
    let lastUnmustered := { mustering with muster := { mustering.muster with unmustered := 1 } }
    HostAt lastAshore 0x22 decodeSetLocation (encodeSetLocation 300 .aboard) (300, .aboard)
      (fun s => s.person 300 = some (person .guest .ashore) ∧ s.deadline = .passed ∧ s.guestsReported = false)
    ∧ ((asked .setLocation 0x22 (encodeSetLocation 300 .aboard) lastAshore).map fun t => t.tallyCount .guest .ashore) = some 0
    ∧ HostAt lastUnmustered 0x22 decodeSetLocation (encodeSetLocation 412 .ashore) (412, .ashore)
      (fun s => s.person 412 = some { person .guest .aboard with muster := .unmustered } ∧ 0 < s.muster.unmustered)
    ∧ ((asked .setLocation 0x22 (encodeSetLocation 412 .ashore) lastUnmustered).map fun t => t.muster.unmustered) = some 0 := by
  refine ⟨hostAt (by decide +kernel), by decide +kernel, hostAt (by decide +kernel), by decide +kernel⟩

/-- A balance that reaches its bound, and one that would pass it. -/
theorem witness_AccountMessages :
    let p := fun a : Account => { person .guest .aboard with cabin := some 2214, account := some a : Person }
    let terms : AccountTerms := ⟨10000000, some 0, true, true⟩
    HostAt ship 0x24 decodeAdjustBalance (encodeAdjustBalance 8191 5) (8191, 5) (fun s => s.person 8191 = none)
    ∧ HostAt ship 0x24 decodeAdjustBalance (encodeAdjustBalance 1210 5) (1210, 5)
      (fun s => s.person 1210 = some { person .guest .ashore with loaded := false })
    ∧ HostAt ship 0x24 decodeAdjustBalance (encodeAdjustBalance 300 5) (300, 5)
      (fun s => s.person 300 = some (person .guest .ashore))
    ∧ HostAt (selling (account 0 1)) 0x24 decodeAdjustBalance (encodeAdjustBalance 1480 99999999) (1480, 99999999)
      (fun s => s.person 1480 = some (p (account 0 1)) ∧ ¬ (-99999999 ≤ (1 : Int) + 99999999 ∧ (1 : Int) + 99999999 ≤ 99999999))
    ∧ HostAt (selling (account 0 1)) 0x24 decodeAdjustBalance (encodeAdjustBalance 1480 99999998) (1480, 99999998)
      (fun s => s.person 1480 = some (p (account 0 1)) ∧ -99999999 ≤ (1 : Int) + 99999998 ∧ (1 : Int) + 99999998 ≤ 99999999)
    ∧ HostAt ship 0x25 decodeUpdateAccount (encodeUpdateAccount 8191 terms) (8191, terms) (fun s => s.person 8191 = none)
    ∧ HostAt ship 0x25 decodeUpdateAccount (encodeUpdateAccount 1210 terms) (1210, terms)
      (fun s => s.person 1210 = some { person .guest .ashore with loaded := false })
    ∧ HostAt ship 0x25 decodeUpdateAccount (encodeUpdateAccount 300 terms) (300, terms)
      (fun s => s.person 300 = some (person .guest .ashore))
    ∧ HostAt (selling (account 0 1)) 0x25 decodeUpdateAccount (encodeUpdateAccount 1480 terms) (1480, terms)
      (fun s => s.person 1480 = some (p (account 0 1))) := by
  refine ⟨?_, ?_, ?_, ?_, ?_, ?_, ?_, ?_, ?_⟩ <;> exact hostAt (by decide +kernel)

theorem witness_ClearPersonEmptiesTheRecord :
    let at_ := fun (base : State) (i : Nat) (p : Option Person) =>
      HostAt base 0x26 decodeIndex (encodeIndex i) i (fun s => s.store.state = .opened ∧ s.person i = p)
    let left := fun a : Account => { person .guest .departed with account := some a : Person }
    HostAt (closing ship) 0x26 decodeIndex (encodeIndex 300) 300 (fun s => s.store.state ≠ .opened)
    ∧ at_ ship 8191 none ∧ at_ ship 412 (some (person .guest .aboard))
    ∧ at_ (ship |> withPerson 300 { person .guest .ashore with gatePermit := some 0 }) 300
        (some { person .guest .ashore with gatePermit := some 0 })
    ∧ at_ (ship |> withPerson 300 (left { account 0 0 with held := 1 })) 300 (some (left { account 0 0 with held := 1 }))
    ∧ at_ (ship |> withPerson 300 (left { account 0 0 with unposted := 1 })) 300
        (some (left { account 0 0 with unposted := 1 }))
    ∧ at_ (ship |> withPerson 300 (left (account 0 5))) 300 (some (left (account 0 5))) := by
  refine ⟨?_, ?_, ?_, ?_, ?_, ?_, ?_⟩ <;> exact hostAt (by decide +kernel)

/-- A lane bound elsewhere, and a binding that no other entry has. -/
theorem witness_SettingsHoldWhatWasSet :
    let lane : Station := ⟨.lane, true, some 0⟩
    let bar : Station := ⟨.bar, false, some 31⟩
    let bound := fun (e : Station) (a : Nat) (s : State) =>
      e.kind = .lane ∧ ∃ b, b ≠ a ∧ (s.stationEntry b).kind = .lane ∧ (s.stationEntry b).binding = e.binding
    HostAt ship 0x28 decodeSetDecoder (encodeSetDecoder 7 Decoder.reset) (7, Decoder.reset) (fun _ => True)
    ∧ HostAt ship 0x2A decodeConfigureStation (encodeConfigureStation 127 lane) (127, lane) (bound lane 127)
    ∧ HostAt ship 0x2A decodeConfigureStation (encodeConfigureStation 127 bar) (127, bar) (fun s => ¬ bound bar 127 s)
    ∧ HostAt ship 0x48 decodeConfigureOutlet (encodeConfigureOutlet 31 outlet5) (31, outlet5) (fun _ => True)
    ∧ HostAt ship 0x43 decodeDoorSettings (DoorSettings.encode ⟨0, 65535, 255, 0⟩) ⟨0, 65535, 255, 0⟩ (fun _ => True) := by
  refine ⟨hostAt (by decide +kernel), hostAt_of (by decide +kernel) ⟨rfl, 10, by decide, by decide, by decide⟩,
    hostAt_of (by decide +kernel) (fun h => absurd h.1 (by decide)), hostAt (by decide +kernel), hostAt (by decide +kernel)⟩

/-! ### Cards -/

/-- A number that decoders 0 and 1 both match, one that decoder 7 alone matches, and one that none matches. -/
theorem witness_LowestMatchingDecoderDecides :
    let last : State := { ship with decoders := [(7, (Decoder.mk true 5 0xFFFFFFFF .guest 0))] }
    let agrees := fun (s : State) (number : BitVec 32) (k : Nat) => (s.decoder k).enabled = true ∧
      ∀ b < 32, (s.decoder k).mask.getLsbD b = true → number.getLsbD b = (s.decoder k).compare.getLsbD b
    (agrees ship 0x0010F010 0 ∧ agrees ship 0x0010F010 1)
    ∧ (agrees last 5 7 ∧ ∀ j < 7, ¬ agrees last 5 j)
    ∧ ∀ k < 8, ¬ agrees ship 0x7A000001 k := by
  decide +kernel

/-- The ends of the generation tests: ahead by 7 and by 8. -/
theorem witness_DecodeTestsInOrder :
    ship.decidingDecoder 0x0010F900 = some (ship.decoder 1)
    ∧ 8192 ≤ ((0x0010F900#32).toNat + (ship.decoder 1).offset.toNat) % 4294967296
    ∧ ship.decidingDecoder 0x0010012C = some (ship.decoder 1)
    ∧ ship.decidingDecoder 0x7A000001 = none
    ∧ ((0x0010012C#32).toNat + (ship.decoder 1).offset.toNat) % 4294967296 = 300
    ∧ ship.person 300 = some (person .guest .ashore) ∧ ship.person 301 = none
    ∧ ((7#4).toNat + 16 - (0#4).toNat) % 16 = 7 ∧ ((8#4).toNat + 16 - (0#4).toNat) % 16 = 8 := by decide +kernel

theorem witness_UnconfiguredSourcesAreRefused :
    let card := guestCard 1480
    let lines : List Line := [⟨1, 1, 0, false⟩]
    let tap : StationTap := ⟨127, card⟩
    let offered := fun {α : Type} (kind : Byte) (decode : List Byte → Option α) (body : List Byte) (q : α) (unserved : State → Prop) =>
      StationAt ship kind decode body q unserved
    offered 0x03 decodeStationTap tap.encode tap (fun s => s.doesNotServe .lane 127)
    ∧ offered 0x04 decodeSale (Sale.encode ⟨10, card, 0, lines⟩) ⟨10, card, 0, lines⟩ (fun s => s.doesNotServe .bar 10)
    ∧ offered 0x05 decodeOpenTab (OpenTab.encode ⟨10, card, 100⟩) ⟨10, card, 100⟩ (fun s => s.doesNotServe .bar 10)
    ∧ offered 0x06 decodeCloseTab (CloseTab.encode ⟨10, 0, 0, 0, lines⟩) ⟨10, 0, 0, 0, lines⟩ (fun s => s.doesNotServe .bar 10)
    ∧ offered 0x07 decodeVoid (VoidCharge.encode ⟨10, 1⟩) ⟨10, 1⟩ (fun s => s.doesNotServe .bar 10)
    ∧ offered 0x08 decodeStationTap tap.encode tap (fun s => s.doesNotServe .muster 127)
    ∧ offered 0x01 decodeDoorTap (DoorTap.encode ⟨4095, card⟩) ⟨4095, card⟩ (fun s => (s.cabin 4095).configured = false)
    ∧ offered 0x02 decodeDoorReport (DoorReport.encode ⟨4095, .tamper⟩) ⟨4095, .tamper⟩
      (fun s => (s.cabin 4095).configured = false) := by
  refine ⟨?_, ?_, ?_, ?_, ?_, ?_, ?_, ?_⟩ <;> refine stationAt_of (by decide +kernel) ?_
  · exact .inl (by decide)
  · exact .inl (by decide)
  · exact .inl (by decide)
  · exact .inl (by decide)
  · exact .inl (by decide)
  · exact .inl (by decide)
  · exact (by decide : (ship.cabin 4095).configured = false)
  · exact (by decide : (ship.cabin 4095).configured = false)

/-! ### Time -/

/-- A setting from an UNSET clock, with a deadline and a hold that it reaches; an offset in both clock states; and the last
second but one. -/
theorem witness_ClockMessagesAndAdvance :
    let held : State := { tabOpen (account 50000 0) with deadline := .set 35604000 }
    HostAt held 0x30 decodeTime (encodeTime 4294967295) 4294967295 (fun s => s.muster.active = false)
    ∧ HostAt mustering 0x30 decodeTime (encodeTime 0) 0 (fun s => s.muster.active = true)
    ∧ HostAt running 0x31 decodeTime (encodeTime 86400) 86400 (fun s => s.clock.running = false)
    ∧ HostAt ship 0x31 decodeTime (encodeTime 86399) 86399 (fun s => s.clock.running = true)
    ∧ (tidy ship = true ∧ ship.clock.running = true ∧ ship.clock.shipTime < 4294967295) := by
  refine ⟨hostAt (by decide +kernel), hostAt (by decide +kernel), hostAt (by decide +kernel), hostAt (by decide +kernel), ?_⟩
  decide +kernel

theorem witness_TimeNeverRunsBack :
    (∃ t, exec .shipTimeAdvance ship = .next t) ∧ restarts .shipTimeAdvance ship = false
    ∧ (∃ t, exec (.frameSent .station) ship = .next t) ∧ restarts (.frameSent .host) ship = false :=
  ⟨completes (by decide +kernel), rfl, completes (by decide +kernel), rfl⟩

/-! ### Lanes -/

/-- A polarity change with a queue of runs and one without a change of polarity; a run of the outer beam that has lasted its
time to the millisecond, and both, the outer's the earlier and both at once; a polarity change with filter time 0 that leaves no
beam, one and both to be taken at once; and a mode that cancels a permit. -/
theorem witness_LaneSetupMessages :
    let u : LaneSetup := ⟨.brokenHigh, 255, 255, 65535⟩
    HostAt crossingIn 0x38 decodeConfigureLane (encodeConfigureLane 0 u) (0, u)
      (fun s => u.polarity ≠ (s.lane 0).setup.polarity)
    ∧ HostAt crossingIn 0x38 decodeConfigureLane (encodeConfigureLane 3 Lane.reset.setup) (3, Lane.reset.setup)
      (fun s => Lane.reset.setup.polarity = (s.lane 3).setup.polarity)
    ∧ (let run := fun (outer inner : Option Nat) =>
        ship.putLane 0 { Lane.reset with
          outer := { Lane.reset.outer with high := false, filterEnd := outer }
          inner := { Lane.reset.inner with high := false, filterEnd := inner } }
      let level := fun (outer inner : Bool) =>
        ship.putLane 0 { Lane.reset with outer := { Lane.reset.outer with high := outer, filterEnd := none }
                                         inner := { Lane.reset.inner with high := inner, filterEnd := none } }
      let v : LaneSetup := ⟨.brokenHigh, 0, 10, 30⟩
      let offered := fun (base : State) (condition : State → Prop) =>
        HostAt base 0x38 decodeConfigureLane (encodeConfigureLane 0 v) (0, v) condition
      let unhurried := fun s : State => (s.lane 0).outer.filterEnd = none ∧ (s.lane 0).inner.filterEnd = none
        ∧ (s.lane 0).outer.broken = false ∧ (s.lane 0).inner.broken = false ∧ v.polarity ≠ (s.lane 0).setup.polarity
      offered (run (some 100000) (some 100001)) (fun s =>
        (s.lane 0).outer.filterEnd = some 100000 ∧ (s.lane 0).inner.filterEnd = some 100001 ∧ s.clock.mono = 100000)
      ∧ offered (run (some 99999) (some 100000)) (fun s =>
        (s.lane 0).outer.filterEnd = some 99999 ∧ (s.lane 0).inner.filterEnd = some 100000 ∧ s.clock.mono = 100000)
      ∧ offered (run (some 100000) (some 100000)) (fun s =>
        (s.lane 0).outer.filterEnd = some 100000 ∧ (s.lane 0).inner.filterEnd = some 100000 ∧ s.clock.mono = 100000)
      ∧ offered (level false false) (fun s => unhurried s ∧ (s.lane 0).outer.high = false ∧ (s.lane 0).inner.high = false)
      ∧ offered (level false true) (fun s => unhurried s ∧ (s.lane 0).outer.high = false ∧ (s.lane 0).inner.high = true)
      ∧ offered (level true true) (fun s => unhurried s ∧ (s.lane 0).outer.high = true ∧ (s.lane 0).inner.high = true))
    ∧ HostAt crossingIn 0x39 decodeSetLaneMode (encodeSetLaneMode 0 .inbound) (0, .inbound)
      (fun s => (s.lane 0).permits.length = 2) := by
  refine ⟨?_, ?_, ⟨?_, ?_, ?_, ?_, ?_, ?_⟩, ?_⟩ <;> exact hostAt (by decide +kernel)

theorem witness_LaneCountersReset :
    HostAt lateOut 0x3B decodeLane [0] 0 (fun s => (s.lane 0).occupiedSince ≠ none)
    ∧ HostAt lateOut 0x3B decodeLane [3] 3 (fun s => (s.lane 3).occupiedSince = none)
    ∧ ((offerHost 0x3B [4] lateOut).hostTakes ⟨0x3B, 1, [4]⟩ = true ∧ 4 ≤ (4 : Byte).toNat) := by
  refine ⟨?_, ?_, by decide +kernel⟩ <;> exact hostAt (by decide +kernel)

/-- What a lane tap finds before its tests. -/
abbrev LaneServed (s : State) : Prop :=
  (s.stationEntry 10).kind = .lane ∧ (s.stationEntry 10).enabled = true ∧ (s.stationEntry 10).binding = some 0
    ∧ s.muster.active = false ∧ s.store.state = .opened ∧ (s.lane 0).mode ≠ .closed ∧ (s.lane 0).blocked = false

/-- An inward tap, an outward tap of a guest while the deadline is SET, and of a crew member when it is PASSED, each with the
last free place in the queue and in the log. -/
theorem witness_LaneTapGrantsAPermit :
    let near : State := { ship with
      movementLog := List.replicate 255 ⟨0, 300, 0, .inward, .aboard, false, none⟩, deadline := .set 35618400 }.putLane 0
        { Lane.reset with mode := .both, permits := [⟨5016, .inward, 99000, 109000⟩] }
    let passed := fun (s : State) (i : Nat) (p : Person) (d : Direction) (c : Card) =>
      LaneServed s ∧ s.decodeCard c = .passed i p
      ∧ ((p.location = .expected ∨ p.location = .ashore) ∧ d = .inward ∨ p.location = .aboard ∧ d = .outward)
      ∧ admits (s.lane 0).mode d = true ∧ (d = .outward → p.cls = .crew ∨ s.deadline ≠ .passed)
      ∧ p.gatePermit = none ∧ (s.lane 0).permits.length < 2 ∧ s.movementLog.length < 256
    let tap := fun card : Card => (⟨10, card⟩ : StationTap)
    StationAt near 0x03 decodeStationTap (tap (guestCard 300)).encode (tap (guestCard 300))
      (fun s => passed s 300 (person .guest .ashore) .inward (guestCard 300))
    ∧ StationAt near 0x03 decodeStationTap (tap (guestCard 412)).encode (tap (guestCard 412))
      (fun s => passed s 412 (person .guest .aboard) .outward (guestCard 412))
    ∧ StationAt { near with deadline := .passed } 0x03 decodeStationTap (tap (crewCard 6230)).encode (tap (crewCard 6230))
      (fun s => passed s 6230 { person .crew .aboard with rights := some (3000, 3999), sweep := true } .outward
        (crewCard 6230)) := by
  refine ⟨?_, ?_, ?_⟩ <;> refine stationAt_of (by decide +kernel) ?_ <;> decide +kernel

/-- One tap for each refusal. -/
theorem witness_LaneTapRefusalsInOrder :
    let tap := fun card : Card => (⟨10, card⟩ : StationTap)
    let bound := fun s : State =>
      (s.stationEntry 10).kind = .lane ∧ (s.stationEntry 10).enabled = true ∧ (s.stationEntry 10).binding = some 0
    let offered := fun (base : State) (card : Card) (condition : State → Prop) =>
      StationAt base 0x03 decodeStationTap (tap card).encode (tap card) (fun s => bound s ∧ condition s)
    let guest := guestCard 300
    let ashore := person .guest .ashore
    offered mustering guest (fun s => s.muster.active = true)
    ∧ offered (closing ship) guest (fun s => s.muster.active = false ∧ s.store.state ≠ .opened)
    ∧ offered (ship.putLane 0 Lane.reset) guest
      (fun s => s.muster.active = false ∧ s.store.state = .opened ∧ (s.lane 0).mode = .closed)
    ∧ offered (ship.putLane 0 { Lane.reset with mode := .both, blocked := true }) guest
      (fun s => s.muster.active = false ∧ s.store.state = .opened ∧ (s.lane 0).mode ≠ .closed ∧ (s.lane 0).blocked = true)
    ∧ offered ship { guest with generation := 7 }
      (fun s => LaneServed s ∧ s.decodeCard { guest with generation := 7 } = .failed .futureCard 300)
    ∧ offered ship { guest with generation := 8 }
      (fun s => LaneServed s ∧ s.decodeCard { guest with generation := 8 } = .failed .staleCard 300)
    ∧ offered ship ⟨0x0010F010, 0⟩
      (fun s => LaneServed s ∧ s.decodeCard ⟨0x0010F010, 0⟩ = .passed 5016 (person .visitor .departed))
    ∧ offered (ship.putLane 0 { Lane.reset with mode := .outbound }) guest
      (fun s => LaneServed s ∧ s.decodeCard guest = .passed 300 ashore ∧ admits (s.lane 0).mode .inward = false)
    ∧ offered { ship with deadline := .passed } (guestCard 412) (fun s => LaneServed s
        ∧ s.decodeCard (guestCard 412) = .passed 412 (person .guest .aboard) ∧ admits (s.lane 0).mode .outward = true)
    ∧ offered (ship |> withPerson 300 { ashore with gatePermit := some 3 }) guest
      (fun s => LaneServed s ∧ s.decodeCard guest = .passed 300 { ashore with gatePermit := some 3 })
    ∧ offered (ship.putLane 0 { Lane.reset with
        mode := .both, permits := [⟨5016, .inward, 99000, 109000⟩, ⟨1480, .outward, 99000, 109000⟩] }) guest
      (fun s => LaneServed s ∧ s.decodeCard guest = .passed 300 ashore ∧ 2 ≤ (s.lane 0).permits.length)
    ∧ offered { ship with movementLog := List.replicate 256 ⟨0, 300, 0, .inward, .aboard, false, none⟩ } guest
      (fun s => LaneServed s ∧ s.decodeCard guest = .passed 300 ashore ∧ (s.lane 0).permits.length < 2
        ∧ 256 ≤ s.movementLog.length) := by
  refine ⟨?_, ?_, ?_, ?_, ?_, ?_, ?_, ?_, ?_, ?_, ?_, ?_⟩ <;> refine stationAt_of (by decide +kernel) ?_ <;> decide +kernel

/-- A level that is held, a run that is abandoned in its last millisecond, one that has lasted its time to the millisecond, a run
that begins, and a filter time of 0. -/
theorem witness_BeamLevelsStartFilterRuns :
    let run := ship.putLane 3 { Lane.reset with outer := ⟨false, false, some 100001, none⟩ }
    let quick := ship.putLane 3 { Lane.reset with setup := { Lane.reset.setup with filterTime := 0 } }
    (tidy ship = true ∧ 3 < 4 ∧ ((ship.lane 3).beam .outer).high = true)
    ∧ (tidy run = true ∧ ((run.lane 3).beam .outer).high ≠ true ∧ ((run.lane 3).beam .outer).filterEnd = some 100001
      ∧ run.clock.mono < 100001 ∧ (!true) = ((run.lane 3).beam .outer).broken)
    ∧ (tidy (atMono 100001 run) = true ∧ (((atMono 100001 run).lane 3).beam .outer).filterEnd = some 100001
      ∧ 100001 ≤ (atMono 100001 run).clock.mono)
    ∧ ((!false) ≠ ((ship.lane 3).beam .outer).broken ∧ 0 < (ship.lane 3).setup.filterTime
      ∧ ((ship.lane 3).beam .outer).filterEnd = none)
    ∧ (tidy quick = true ∧ (quick.lane 3).setup.filterTime = 0) := by decide +kernel

/-- A passage; a balk, over an empty queue and over one that is not; and a blocked lane, one of its beams broken still, then
none. -/
theorem witness_BeamEventsDriveTheRecognizer :
    let stuck := fun inner : Bool => ship.putLane 3 { Lane.reset with
      blocked := true, recognizer := .outer, outer := ⟨true, true, some 100000, none⟩
      inner := { BeamState.reset with broken := inner } }
    let balk := fun reported : Bool => ship.putLane 3 { Lane.reset with
      recognizer := .outer, openAtStart := some false, outer := ⟨true, true, some 100000, none⟩
      counts := { LaneCounts.zero with balks := 65534 }, saturationReported := reported, occupiedSince := some 90000 }
    (tidy crossingIn = true ∧ ((crossingIn.lane 0).beam .inner).filterEnd = some 103500 ∧ (crossingIn.lane 0).blocked = false
      ∧ (crossingIn.lane 0).recognizer = .leavingIn ∧ recognize .leavingIn .inner false = .clear)
    ∧ (∀ reported, tidy (balk reported) = true ∧ (((balk reported).lane 3).beam .outer).filterEnd = some 100000
      ∧ ((balk reported).lane 3).blocked = false ∧ recognize .outer .outer false = .clear
      ∧ ((did (.beamEvent 3 .outer) (balk reported)).map fun t => ((t.lane 3).counts.balks, (t.lane 3).counts.occupancy))
        = some (65535, 10000))
    ∧ (∀ permits ∈ [[], [⟨412, .outward, 101500, 111500⟩]],
      let s := (balk true).putLane 3 { (balk true).lane 3 with flapOpen := true, permits }
      tidy s = true ∧ ((did (.beamEvent 3 .outer) s).map fun t => ((t.lane 3).recognizer, (t.lane 3).permits))
        = some (.clear, permits))
    ∧ (∀ inner, tidy (stuck inner) = true ∧ (((stuck inner).lane 3).beam .outer).filterEnd = some 100000
      ∧ ((stuck inner).lane 3).blocked = true ∧ (((stuck inner).lane 3).beam .inner).broken = inner) := by decide +kernel

/-- The recognizer leaves CLEAR, and stays away from it. -/
theorem witness_RecognizerTransitions :
    let leaves := ship.putLane 0 { Lane.reset with mode := .both, outer := ⟨false, false, some 100000, none⟩ }
    (tidy leaves = true ∧ (leaves.lane 0).blocked = false ∧ ((leaves.lane 0).beam .outer).filterEnd = some 100000
      ∧ ∃ t, exec (.beamEvent 0 .outer) leaves = .next t)
    ∧ (tidy crossingIn = true ∧ (crossingIn.lane 0).blocked = false
      ∧ ∃ t, exec (.beamEvent 0 .inner) crossingIn = .next t) :=
  ⟨⟨by decide +kernel, by decide +kernel, by decide +kernel, completes (by decide +kernel)⟩, by decide +kernel,
    by decide +kernel, completes (by decide +kernel)⟩

/-- Inward, with the log empty, a place short of full, and a guest the last ashore; and outward through a full log. -/
theorem witness_PermittedPassagesMoveThePerson :
    let near := { crossingIn with movementLog := List.replicate 255 ⟨0, 300, 0, .inward, .aboard, false, none⟩ }
    let last := { crossingIn with deadline := .passed, tally := crossingIn.tally.write 0 2 1 }
    let out : State := { lateOut with movementLog := List.replicate 256 ⟨0, 300, 0, .inward, .aboard, false, none⟩ }.putLane 0
      { lateOut.lane 0 with permits := [⟨412, .outward, 101500, 111500⟩] }
    (tidy crossingIn = true ∧ ((crossingIn.lane 0).beam .inner).filterEnd = some 103500
      ∧ ((crossingIn.lane 0).beam .inner).broken = true ∧ (crossingIn.lane 0).recognizer = .leavingIn
      ∧ (crossingIn.lane 0).permits.find? (fun q => decide (q.direction = .inward)) = some ⟨300, .inward, 100000, 110000⟩
      ∧ crossingIn.person 300 = some { person .guest .ashore with gatePermit := some 0 }
      ∧ crossingIn.movementLog = [])
    ∧ (tidy near = true ∧ near.movementLog.length < 256 ∧ 255 ≤ near.movementLog.length)
    ∧ (tidy last = true ∧ last.guestsReported = false
      ∧ ((did (.beamEvent 0 .inner) last).map fun t => t.tallyCount .guest .ashore) = some 0)
    ∧ (tidy out = true ∧ ((out.lane 0).beam .outer).filterEnd = some 112400 ∧ ((out.lane 0).beam .outer).broken = true
      ∧ (out.lane 0).recognizer = .leavingOut
      ∧ (out.lane 0).permits.find? (fun q => decide (q.direction = .outward)) = some ⟨412, .outward, 101500, 111500⟩
      ∧ out.person 412 = some (person .guest .aboard) ∧ 256 ≤ out.movementLog.length) := by
  refine ⟨?_, ?_, ?_, ?_⟩ <;> decide +kernel

/-- A Late passage, a Contrary one and a Forced one. -/
theorem witness_OtherPassagesMoveNobody :
    let with_ := fun (note : Option Bool) (permits : List Permit) =>
      lateOut.putLane 0 { lateOut.lane 0 with openAtStart := note, permits }
    ∀ s ∈ [lateOut, with_ (some true) [⟨5016, .inward, 112000, 122000⟩], with_ (some false) []],
      tidy s = true ∧ ((s.lane 0).beam .outer).filterEnd = some 112400 ∧ (s.lane 0).blocked = false
      ∧ ((s.lane 0).beam .outer).broken = true ∧ (s.lane 0).recognizer = .leavingOut
      ∧ ∀ q ∈ (s.lane 0).permits, q.direction ≠ .outward := by decide +kernel

theorem witness_LaneTimingsEnd :
    let timed := ship.putLane 3 { Lane.reset with outer := ⟨false, true, none, some 130000⟩ }
    (tidy timed = true ∧ ((timed.lane 3).beam .outer).blockEnd = some 130000 ∧ (timed.lane 3).blocked = false)
    ∧ (tidy crossingIn = true ∧ (crossingIn.lane 0).permits.find? (fun q => decide (q.person = 412))
        = some ⟨412, .outward, 101500, 111500⟩)
    ∧ ((did (.permitExpiry 0 412) (crossingIn.putLane 0 { crossingIn.lane 0 with
        counts := { LaneCounts.zero with noShows := 65534 } })).map fun t => (t.lane 0).counts.noShows) = some 65535 := by
  decide +kernel

/-- Before the clock runs; then cleared, a second ahead, and at this second; and a deadline that has arrived. -/
theorem witness_AllAboardDeadline :
    HostAt running 0x3C decodeSetAllAboard (encodeSetAllAboard none) none (fun s => s.clock.running = false)
    ∧ HostAt ship 0x3C decodeSetAllAboard (encodeSetAllAboard none) none (fun s => s.clock.running = true)
    ∧ HostAt ship 0x3C decodeSetAllAboard (encodeSetAllAboard (some 35600001)) (some 35600001)
      (fun s => s.clock.running = true ∧ s.clock.shipTime < 35600001)
    ∧ HostAt ship 0x3C decodeSetAllAboard (encodeSetAllAboard (some 35600000)) (some 35600000)
      (fun s => s.clock.running = true ∧ 35600000 ≤ s.clock.shipTime)
    ∧ tidy { ship with deadline := .set 35600000, deadlineArrived := true } = true := by
  refine ⟨?_, ?_, ?_, ?_, by decide +kernel⟩ <;> exact hostAt (by decide +kernel)

end Sys2Proof.Tests
end

