-- ==== Sys2Proof/Tests/WitnessesLater.lean ====
section
/-!
SUPPORT. The same of the statements on doors, charging, musters, notices, the store, and on what every step keeps.
-/

-- Theorems one after the other: every kernel evaluation waits for the theorems before it, and would hold a thread meanwhile.
set_option Elab.async false

namespace Sys2Proof.Tests

open Sys2Proof.Machine

/-! ### Doors -/

/-- A guest at a LOCKED door, crew at a RELEASED one at the end of their rights, and a sweeper at an UNSWEPT cabin and at one
already SWEPT. -/
theorem witness_DoorTapsThatPassAreGranted :
    let guest : Card := { guestCard 1480 with generation := 3 }
    let tap := fun (c : Nat) (card : Card) => (⟨c, card⟩ : DoorTap)
    let swept := fun sweep : Sweep => mustering.putCabin 3010
      { Cabin.reset with configured := true, privacy := true, lockoutUntil := some 4150000, sweep }
    StationAt (evening cabin2214 500000) 0x01 decodeDoorTap (tap 2214 guest).encode (tap 2214 guest)
      (fun s => (s.cabin 2214).configured = true ∧ s.muster.active = false ∧ (s.cabin 2214).lockoutUntil = none
        ∧ (s.cabin 2214).releasedUntil = none
        ∧ s.decodeCard guest = .passed 1480 { person .guest .aboard with cabin := some 2214, generation := 3 })
    ∧ StationAt (ship.putCabin 3999 { Cabin.reset with configured := true, releasedUntil := some 100001 }) 0x01 decodeDoorTap
      (tap 3999 (crewCard 6230)).encode (tap 3999 (crewCard 6230))
      (fun s => (s.cabin 3999).configured = true ∧ s.muster.active = false ∧ (s.cabin 3999).lockoutUntil = none
        ∧ (s.cabin 3999).privacy = false ∧ (s.cabin 3999).releasedUntil = some 100001
        ∧ s.decodeCard (crewCard 6230)
          = .passed 6230 { person .crew .aboard with rights := some (3000, 3999), sweep := true })
    ∧ ∀ sweep, StationAt (swept sweep) 0x01 decodeDoorTap (tap 3010 (crewCard 6230)).encode (tap 3010 (crewCard 6230))
      (fun s => (s.cabin 3010).configured = true ∧ s.muster.active = true ∧ (s.cabin 3010).sweep = sweep
        ∧ s.decodeCard (crewCard 6230) = .passed 6230
          { person .crew .aboard with rights := some (3000, 3999), sweep := true, muster := .unmustered }) := by
  refine ⟨stationAt (by decide +kernel), stationAt (by decide +kernel), fun sweep => ?_⟩
  cases sweep <;> exact stationAt (by decide +kernel)

/-- One tap for each refusal; the counted ones below the threshold, at it, and during a lockout. -/
theorem witness_DoorRefusalsAreCounted :
    let tap := fun (c : Nat) (card : Card) => (⟨c, card⟩ : DoorTap)
    let offered := fun (base : State) (card : Card) (condition : State → Prop) =>
      StationAt base 0x01 decodeDoorTap (tap 2214 card).encode (tap 2214 card)
        (fun s => (s.cabin 2214).configured = true ∧ condition s)
    let guest := guestCard 1480
    let with_ := fun p : Person => ship |> withPerson 1480 p
    let found := fun (p : Person) (s : State) => s.decodeCard guest = .passed 1480 p ∧ s.muster.active = false
      ∧ (s.cabin 2214).lockoutUntil = none
    let here := fun location : Location => { person .guest location with cabin := some 2214 : Person }
    let crew := fun first last : Nat => { person .crew .aboard with rights := some (first, last) : Person }
    let crewFound := fun (p : Person) (s : State) => s.decodeCard (crewCard 6100) = .passed 6100 p ∧ s.muster.active = false
      ∧ (s.cabin 2214).lockoutUntil = none
    offered (ship.putCabin 2214 { cabin2214 with failures := 4 }) { guest with generation := 1 }
      (fun s => s.decodeCard { guest with generation := 1 } = .failed .futureCard 1480
        ∧ s.doorSettings.lockoutThreshold ≤ (s.cabin 2214).failures + 1)
    ∧ offered (ship.putCabin 2214 { cabin2214 with lockoutUntil := some 200000 }) ⟨0x7A000001, 0⟩
      (fun s => s.decodeCard ⟨0x7A000001, 0⟩ = .failed .unknownCard 0 ∧ (s.cabin 2214).lockoutUntil ≠ none)
    ∧ offered ((with_ (here .aboard)).putCabin 2214 { cabin2214 with lockoutUntil := some 200000 }) guest
      (fun s => s.decodeCard guest = .passed 1480 (here .aboard) ∧ s.muster.active = false
        ∧ (s.cabin 2214).lockoutUntil = some 200000)
    ∧ offered (with_ { here .aboard with loaded := false, cabin := none }) guest
      (found { here .aboard with loaded := false, cabin := none })
    ∧ offered (with_ (person .guest .aboard)) guest (found (person .guest .aboard))
    ∧ offered (with_ (here .expected)) guest (found (here .expected))
    ∧ offered (with_ (here .ashore)) guest (found (here .ashore))
    ∧ offered (with_ (here .departed)) guest (found (here .departed))
    ∧ offered (ship |> withPerson 6100 (crew 2215 2299)) (crewCard 6100) (crewFound (crew 2215 2299))
    ∧ offered ((ship |> withPerson 6100 (crew 2214 2214)).putCabin 2214 { cabin2214 with privacy := true }) (crewCard 6100)
      (fun s => crewFound (crew 2214 2214) s ∧ (s.cabin 2214).privacy = true) := by
  refine ⟨?_, ?_, ?_, ?_, ?_, ?_, ?_, ?_, ?_, ?_⟩ <;> refine stationAt_of (by decide +kernel) ?_ <;> decide +kernel

theorem witness_DoorTimingsEnd :
    let s := ship.putCabin 4095 { Cabin.reset with
      configured := true, releasedUntil := some 105000, lockoutUntil := some 400000, sensedOpen := true
      ajarEnd := some 220000 }
    tidy s = true ∧ 4095 < 4096 ∧ (s.cabin 4095).releasedUntil = some 105000 ∧ (s.cabin 4095).lockoutUntil = some 400000
    ∧ (s.cabin 4095).ajarEnd = some 220000 ∧ (s.cabin 4095).sensedOpen = true := by decide +kernel

theorem witness_DoorReportsSetTheirFields :
    ∀ event ∈ [DoorEvent.opened .unexplained, .opened .released, .opened .egress, .closed, .privacyOn, .privacyOff, .tamper],
      StationAt ship 0x02 decodeDoorReport (DoorReport.encode ⟨2214, event⟩) ⟨2214, event⟩
        (fun s => (s.cabin 2214).configured = true) := by
  intro event h
  simp only [List.mem_cons, List.not_mem_nil, or_false] at h
  rcases h with rfl | rfl | rfl | rfl | rfl | rfl | rfl <;> exact stationAt (by decide +kernel)

theorem witness_CabinMessages :
    let at_ := fun (base : State) (c : Nat) (v old : Bool) => HostAt base 0x40 decodeConfigureCabin
      (encodeConfigureCabin c v) (c, v) (fun s => (s.cabin c).configured = old)
    at_ ship 2214 true true ∧ at_ ship 4095 false false ∧ at_ ship 4095 true false
    ∧ (at_ mustering 2214 false true ∧ mustering.muster.active = true)
    ∧ (at_ ship 2214 false true ∧ ship.muster.active = false)
    ∧ HostAt (ship.putCabin 2214 { cabin2214 with lockoutUntil := some 200000 }) 0x42 decodeCabin (encodeCabin 2214) 2214
      (fun s => (s.cabin 2214).lockoutUntil = some 200000)
    ∧ HostAt ship 0x42 decodeCabin (encodeCabin 4095) 4095 (fun s => (s.cabin 4095).lockoutUntil = none) := by
  refine ⟨?_, ?_, ?_, ⟨?_, rfl⟩, ⟨?_, rfl⟩, ?_, ?_⟩ <;> exact hostAt (by decide +kernel)

/-! ### Charging -/

/-- The rates at their maxima, a purchase of the greatest amount, and a service rate of 0. -/
theorem witness_PurchaseArithmetic :
    let o : Outlet := { outlet5 with serviceRate := 250, taxRate0 := 3000, taxRate1 := 3000, taxRate2 := 3000, taxRate3 := 3000 }
    purchaseValid (List.replicate 8 ⟨99999, 99, 3, true⟩) 99999 = true ∧ o.serviceRate ≤ 250 ∧ o.taxRate0 ≤ 3000
    ∧ o.taxRate1 ≤ 3000 ∧ o.taxRate2 ≤ 3000 ∧ o.taxRate3 ≤ 3000
    ∧ (priceOf o (List.replicate 8 ⟨99999, 99, 3, true⟩) 99999).total = 122858771 ∧ Outlet.reset.serviceRate = 0 := by
  decide +kernel

/-- The station table serves a bar request at station 40 for outlet 5. -/
abbrev BarServed (s : State) : Prop :=
  (s.stationEntry 40).kind = .bar ∧ (s.stationEntry 40).enabled = true ∧ (s.stationEntry 40).binding = some 5

/-- A bar that serves, then one for each early refusal. -/
def bars : List (State × Option Result) :=
  [(ship, none), (mustering, some .muster), ({ ship with clock := { ship.clock with running := false } }, some .clockUnset),
   (closing ship, some .powerFail), ({ ship with outlets := [] }, some .outletClosed)]

theorem barTests_of {s : State} {r : Option Result} (h : barRefusal s 5 = r) : FirstFailing (s.barTests 5) r :=
  (barTests_iff s 5 r).mpr h

/-- The tests of a capture against an account, by what they compute. -/
theorem captureTests {s : State} {a : Account} {o : Outlet} {lines : List Line} {total increase : Nat} {r : Option Result}
    (h : a.suspended = true ∧ r = some .suspended ∨ a.suspended = false ∧
      (authorization o a lines total increase 412).or (if 1024 ≤ s.journal.length then some .journalFull else none) = r) :
    FirstFailing (a.tests o 412 lines total increase ++ [(1024 ≤ s.journal.length, .journalFull)]) r := by
  rw [Account.tests_iff]
  rcases h with h | ⟨h, e⟩
  · exact .inl h
  · refine .inr ⟨h, ?_⟩
    cases ha : authorization o a lines total increase 412 with
    | some x => rw [ha] at e; exact .inl ⟨x, rfl, by rw [← e]; rfl⟩
    | none =>
      rw [ha] at e
      refine .inr ⟨rfl, ?_⟩
      by_cases hj : 1024 ≤ s.journal.length
      · exact .inl ⟨hj, by rw [← e]; simp [hj]⟩
      · exact .inr ⟨hj, by rw [← e]; simp [hj, FirstFailing]⟩

/-- The accounts of a purchase of 4,148 with alcohol, and how each is judged: one that just suffices, and one that each test
refuses. -/
def judged : List (Account × Option Result) :=
  [(account 4148 0, none), ({ account 50000 0 with suspended := true }, some .suspended),
   ({ account 50000 0 with noAlcohol := true }, some .alcohol), (account 4147 0, some .credit),
   ({ account 50000 0 with dailyLimit := some 4147 }, some .daily)]

theorem witness_SalesAreJudgedAndCaptured :
    let offered := fun (base : State) (card : Card) (condition : State → Prop) =>
      StationAt base 0x04 decodeSale (Sale.encode ⟨40, card, 200, purchase⟩) ⟨40, card, 200, purchase⟩
        (fun s => BarServed s ∧ condition s)
    let card := guestCard 1480
    let tests := fun (a : Account) (s : State) =>
      a.tests (s.outlet 5) s.clock.currentDay purchase 4148 4148 ++ [(1024 ≤ s.journal.length, Result.journalFull)]
    let full : State := { selling (account 4148 0) with journal := List.replicate 1024 (entry 1 300 1) }
    (∀ b ∈ bars, offered b.1 card (fun s => FirstFailing (s.barTests 5) b.2))
    ∧ offered ship { card with generation := 1 } (fun s => s.decodeCard { card with generation := 1 } = .failed .futureCard 1480)
    ∧ offered ship (guestCard 300) (fun s => s.decodeCard (guestCard 300) = .passed 300 (person .guest .ashore))
    ∧ (∀ j ∈ judged, offered (selling j.1) card (fun s => s.accountOf 1480 = some j.1 ∧ FirstFailing (tests j.1 s) j.2))
    ∧ offered full card (fun s => s.accountOf 1480 = some (account 4148 0)
        ∧ FirstFailing (tests (account 4148 0) s) (some .journalFull)) := by
  refine ⟨?_, stationAt (by decide +kernel), stationAt (by decide +kernel), ?_, stationAt_of (by decide +kernel) ?_⟩
  · intro b hb
    simp only [bars, List.mem_cons, List.not_mem_nil, or_false] at hb
    rcases hb with rfl | rfl | rfl | rfl | rfl <;>
      exact stationAt_of (by decide +kernel) ⟨by decide +kernel, barTests_of (by decide +kernel)⟩
  · intro j hj
    simp only [judged, List.mem_cons, List.not_mem_nil, or_false] at hj
    rcases hj with rfl | rfl | rfl | rfl | rfl <;>
      exact stationAt_of (by decide +kernel) ⟨by decide +kernel, by decide +kernel, captureTests (by decide +kernel)⟩
  · exact ⟨by decide +kernel, by decide +kernel, captureTests (by decide +kernel)⟩

/-- A hold of one person. -/
def holdOf (i : Nat) : Hold := ⟨i, 5, 40, 100, 35600000, 35603600, false⟩

/-- Four holds of person 1,480 in the slots 1 to 4. -/
def fourHolds : Table Slot := (List.range 4).map fun k => (k + 1, ⟨1, some (holdOf 1480)⟩)

/-- A hold table with 511 holds, the last slot FREE, and one without a FREE slot. -/
def manyHolds (n : Nat) : Table Slot := (List.range n).map fun k => (k, ⟨1, some (holdOf 412)⟩)

/-- The ship where the account of person 1,480 has a limit of 500, with a hold table. -/
def opening (slots : Table Slot) : State := { selling (account 500 0) with slots }

/-- The tests of an opening, by what they compute. -/
theorem openTests {s : State} {amount : Nat} {rest : List (Prop × Result)} {r : Option Result}
    (h : authorization (s.outlet 5) (account 500 0) [] amount amount s.clock.currentDay = none) (hr : FirstFailing rest r) :
    FirstFailing ((account 500 0).tests (s.outlet 5) s.clock.currentDay [] amount amount ++ rest) r :=
  (Account.tests_iff ..).mpr (.inr ⟨rfl, .inr ⟨h, hr⟩⟩)

/-- The tests that follow those of the account. -/
def holdTests (s : State) : List (Prop × Result) :=
  [(4 ≤ (s.holdsOf 1480).length, Result.holdLimit), (∀ k < 512, (s.slot k).hold ≠ none, .holdsFull)]

theorem manyHolds_wf (n : Nat) : (manyHolds n).wf Slot.reset := by
  refine ⟨List.pairwise_map.mpr List.pairwise_lt_range, fun e he => ?_⟩
  obtain ⟨k, -, rfl⟩ := List.mem_map.mp he
  simp [Slot.reset]

theorem manyHolds_held {n k : Nat} (h : k < n) : ((manyHolds n).read Slot.reset k).hold ≠ none := by
  rw [Table.read_of_mem (manyHolds_wf n) (List.mem_map.mpr ⟨k, List.mem_range.mpr h, rfl⟩)]
  simp

theorem manyHolds_free (n : Nat) : ((manyHolds n).read Slot.reset n).hold = none := by
  by_cases h : (manyHolds n).read Slot.reset n = Slot.reset
  · rw [h]; rfl
  · obtain ⟨k, hk, e⟩ := List.mem_map.mp (Table.mem_of_read h)
    have := List.mem_range.mp hk
    simp only [Prod.mk.injEq] at e
    omega

/-- The condition under which an opening of an amount is judged. -/
def OpeningAt (base : State) (amount : Nat) (condition : State → Prop) : Prop :=
  StationAt base 0x05 decodeOpenTab (OpenTab.encode ⟨40, guestCard 1480, amount⟩) ⟨40, guestCard 1480, amount⟩
    (fun s => BarServed s ∧ condition s)

theorem openingAt_of {slots : Table Slot} {amount : Nat} {condition : State → Prop} (hw : slots.wf Slot.reset)
    (hd : decodeOpenTab (OpenTab.encode ⟨40, guestCard 1480, amount⟩) = some ⟨40, guestCard 1480, amount⟩)
    (hc : condition (offerStation 0x05 (OpenTab.encode ⟨40, guestCard 1480, amount⟩) (opening slots))) :
    OpeningAt (opening slots) amount condition := by
  have ht : (opening []).Tidy := tidy_sound (by decide +kernel)
  have hs : BarServed (opening []) := by decide +kernel
  have hr : (offerStation 0x05 (OpenTab.encode ⟨40, guestCard 1480, amount⟩) (opening slots)).stationTakes
      ⟨0x05, 1, OpenTab.encode ⟨40, guestCard 1480, amount⟩⟩ = true := by
    rw [State.stationTakes, Bool.and_eq_true, Bool.and_eq_true, decide_eq_true_iff, decide_eq_true_iff]
    exact ⟨⟨rfl, (by decide : 0 < 32)⟩, rfl⟩
  exact ⟨{ ht with slots := hw }, ⟨hr, (by decide : (1 : Byte) ≠ 0), hd⟩, hs, hc⟩

theorem witness_TabOpeningsAreJudgedAndHeld :
    let tests := fun (amount : Nat) (s : State) =>
      (account 500 0).tests (s.outlet 5) s.clock.currentDay [] amount amount ++ holdTests s
    (∀ b ∈ bars, StationAt b.1 0x05 decodeOpenTab (OpenTab.encode ⟨40, guestCard 1480, 100⟩) ⟨40, guestCard 1480, 100⟩
      (fun s => BarServed s ∧ FirstFailing (s.barTests 5) b.2))
    ∧ OpeningAt (opening []) 501 (fun s => FirstFailing (tests 501 s) (some .credit))
    ∧ OpeningAt (opening fourHolds) 500 (fun s => FirstFailing (tests 500 s) (some .holdLimit))
    ∧ OpeningAt (opening (manyHolds 512)) 500 (fun s => FirstFailing (tests 500 s) (some .holdsFull))
    ∧ OpeningAt (opening (manyHolds 511)) 500 (fun s => FirstFailing (tests 500 s) none ∧ 511 < 512
        ∧ (s.slot 511).hold = none ∧ ∀ j < 511, (s.slot j).hold ≠ none) := by
  have few : ∀ n kind body, ¬ 4 ≤ ((offerStation kind body (opening (manyHolds n))).holdsOf 1480).length := by
    intro n kind body
    have : (offerStation kind body (opening (manyHolds n))).holdsOf 1480 = [] := by
      refine List.filter_eq_nil_iff.mpr fun e he => ?_
      obtain ⟨k, -, rfl⟩ := List.mem_map.mp he
      simp [holdOf]
    rw [this]; decide
  have full : ∀ n, ∀ k < n, ((offerStation 0x05 (OpenTab.encode ⟨40, guestCard 1480, 500⟩) (opening (manyHolds n))).slot
      k).hold ≠ none := fun _ _ h => manyHolds_held h
  have last : ∀ n, ((offerStation 0x05 (OpenTab.encode ⟨40, guestCard 1480, 500⟩) (opening (manyHolds n))).slot n).hold
      = none := fun n => manyHolds_free n
  refine ⟨?_, openingAt_of ⟨.nil, nofun⟩ (by decide +kernel) ?_, openingAt_of (by decide +kernel) (by decide +kernel) ?_,
    openingAt_of (manyHolds_wf _) (by decide +kernel) ?_, openingAt_of (manyHolds_wf _) (by decide +kernel) ?_⟩
  · intro b hb
    simp only [bars, List.mem_cons, List.not_mem_nil, or_false] at hb
    rcases hb with rfl | rfl | rfl | rfl | rfl <;>
      exact stationAt_of (by decide +kernel) ⟨by decide +kernel, barTests_of (by decide +kernel)⟩
  · exact (Account.tests_iff ..).mpr (.inr ⟨rfl, .inl ⟨.credit, by decide +kernel, rfl⟩⟩)
  · exact openTests (by decide +kernel) (Or.inl ⟨by decide +kernel, rfl⟩)
  · exact openTests (by decide +kernel) (Or.inr ⟨few 512 _ _, Or.inl ⟨full 512, rfl⟩⟩)
  · exact ⟨openTests (by decide +kernel)
      (Or.inr ⟨few 511 _ _, Or.inr ⟨fun h => h 511 (by decide) (last 511), rfl⟩⟩), by decide, last 511, full 511⟩

theorem witness_TabClosesAreJudgedAndCaptured :
    let lines : List Line := [⟨3500, 4, 1, true⟩]
    let q := fun (station : Nat) (tag : BitVec 8) => (⟨station, 0, tag, 1000, lines⟩ : CloseTab)
    let offered := fun (base : State) (tag : BitVec 8) (condition : State → Prop) =>
      StationAt base 0x06 decodeCloseTab (q 40 tag).encode (q 40 tag) (fun s => BarServed s ∧ condition s)
    let hold : Hold := ⟨1480, 5, 40, 15000, 35600000, 35603600, false⟩
    let tests := fun (a : Account) (s : State) => { a with held := 15000 : Account }.tests (s.outlet 5) s.clock.currentDay lines
      18115 (18115 - 15000) ++ [(1024 ≤ s.journal.length, Result.journalFull)]
    let full : State := { tabOpen (account 18115 0) with journal := List.replicate 1024 (entry 1 300 1) }
    (∀ b ∈ bars, offered b.1 7 (fun s => FirstFailing (s.barTests 5) b.2))
    ∧ offered ship 7 (fun s => (s.slot 0).hold = none)
    ∧ offered (tabOpen (account 18115 0)) 8 (fun s => (s.slot 0).tag ≠ 8)
    ∧ StationAt (tabOpen (account 18115 0)) 0x06 decodeCloseTab (q 41 7).encode (q 41 7)
      (fun s => (s.stationEntry 41).binding = some 9 ∧ (s.slot 0).hold = some hold ∧ (s.slot 0).tag = 7 ∧ hold.outlet ≠ 9)
    ∧ (∀ a ∈ [(account 18115 0, none), (account 18114 0, some Result.credit)], offered (tabOpen a.1) 7 (fun s =>
        (s.slot 0).hold = some hold ∧ (s.slot 0).tag = 7 ∧ s.accountOf 1480 = some { a.1 with held := 15000 }
        ∧ FirstFailing (tests a.1 s) a.2))
    ∧ offered full 7 (fun s => s.accountOf 1480 = some { account 18115 0 with held := 15000 }
        ∧ FirstFailing (tests (account 18115 0) s) (some .journalFull)) := by
  refine ⟨?_, stationAt (by decide +kernel), stationAt (by decide +kernel), stationAt (by decide +kernel), ?_,
    stationAt_of (by decide +kernel) ⟨by decide +kernel, by decide +kernel, captureTests (by decide +kernel)⟩⟩
  · intro b hb
    simp only [bars, List.mem_cons, List.not_mem_nil, or_false] at hb
    rcases hb with rfl | rfl | rfl | rfl | rfl <;>
      exact stationAt_of (by decide +kernel) ⟨by decide +kernel, barTests_of (by decide +kernel)⟩
  · intro a ha
    simp only [List.mem_cons, List.not_mem_nil, or_false] at ha
    rcases ha with rfl | rfl <;>
      exact stationAt_of (by decide +kernel)
        ⟨by decide +kernel, by decide +kernel, by decide +kernel, by decide +kernel, captureTests (by decide +kernel)⟩

/-- The last second of the window, and the first after it; another outlet; a window of 0; a muster; a charge not there. -/
theorem witness_VoidsWithdrawEntries :
    let offered := fun (base : State) (charge : Nat) (condition : State → Prop) =>
      StationAt base 0x07 decodeVoid (VoidCharge.encode ⟨40, charge⟩) ⟨40, charge⟩ (fun s => BarServed s ∧ condition s)
    let at_ := fun (o : Outlet) (shipTime outlet : Nat) => { waiting with
      clock := { waiting.clock with shipTime }, outlets := [(5, o)]
      journal := [entry 1001 1480 4148, { entry 1002 1602 2500 with outlet }] }
    let early := fun s : State =>
      [(s.muster.active = true, Result.muster), (∀ e ∈ s.journal, e.charge ≠ 1004, .notInJournal)]
    let tests := fun (outlet : Nat) (s : State) => [(outlet ≠ 5, Result.wrongOutlet),
      ((s.outlet 5).voidWindow = 0 ∨ 35605000 + (s.outlet 5).voidWindow < s.clock.shipTime, .voidWindow)]
    offered mustering 1004 (fun s => FirstFailing (early s) (some .muster))
    ∧ offered waiting 1004 (fun s => FirstFailing (early s) (some .notInJournal))
    ∧ (∀ c ∈ [(outlet5, 35605300, 5, none), (outlet5, 35605301, 5, some Result.voidWindow),
          ({ outlet5 with voidWindow := 0 }, 35605000, 5, some .voidWindow), (outlet5, 35605000, 9, some .wrongOutlet)],
        offered (at_ c.1 c.2.1 c.2.2.1) 1002 (fun s => s.muster.active = false
          ∧ s.journal = [entry 1001 1480 4148] ++ { entry 1002 1602 2500 with outlet := c.2.2.1 } :: []
          ∧ FirstFailing (tests c.2.2.1 s) c.2.2.2)) := by
  refine ⟨stationAt_of (by decide +kernel) ⟨by decide +kernel, .inl ⟨rfl, rfl⟩⟩,
    stationAt_of (by decide +kernel) ⟨by decide +kernel, .inr ⟨by decide, .inl ⟨by decide +kernel, rfl⟩⟩⟩, ?_⟩
  intro c hc
  simp only [List.mem_cons, List.not_mem_nil, or_false] at hc
  rcases hc with rfl | rfl | rfl | rfl
  · exact stationAt_of (by decide +kernel) ⟨by decide +kernel, rfl, rfl,
      .inr ⟨by decide, .inr ⟨by decide +kernel, rfl⟩⟩⟩
  · exact stationAt_of (by decide +kernel) ⟨by decide +kernel, rfl, rfl, .inr ⟨by decide, .inl ⟨by decide +kernel, rfl⟩⟩⟩
  · exact stationAt_of (by decide +kernel) ⟨by decide +kernel, rfl, rfl, .inr ⟨by decide, .inl ⟨by decide +kernel, rfl⟩⟩⟩
  · exact stationAt_of (by decide +kernel) ⟨by decide +kernel, rfl, rfl, .inl ⟨by decide, rfl⟩⟩

theorem witness_HoldsExpireAndAreReleased :
    let hold : Hold := ⟨1480, 5, 40, 15000, 35600000, 35603600, true⟩
    let at_ := fun base : State => { base with slots := [(511, ⟨7, some hold⟩)] }
    (tidy (at_ ship) = true ∧ ((at_ ship).slot 511).hold = some hold ∧ hold.arrived = true ∧ ship.muster.active = false)
    ∧ (tidy (at_ mustering) = true ∧ mustering.muster.active = true)
    ∧ HostAt (at_ ship) 0x52 decodeReleaseHold (encodeReleaseHold 0 7) (0, 7) (fun s => (s.slot 0).hold = none)
    ∧ HostAt (at_ ship) 0x52 decodeReleaseHold (encodeReleaseHold 511 8) (511, 8) (fun s => (s.slot 511).tag ≠ 8)
    ∧ HostAt (at_ ship) 0x52 decodeReleaseHold (encodeReleaseHold 511 7) (511, 7)
      (fun s => (s.slot 511).hold = some hold ∧ (s.slot 511).tag = 7) := by
  refine ⟨by decide +kernel, by decide +kernel, ?_, ?_, ?_⟩ <;> exact hostAt (by decide +kernel)

/-- The last allowed post, one that clamps, and one of a person without an account; and each reason that holds a post back. -/
theorem witness_PostingTakesTheOldest :
    let clamping := { waiting with allowance := 1 } |> withPerson 1480
      { person .guest .aboard with account := some { account 0 99999999 with unposted := 4148 } }
    let orphan := waiting |> withPerson 1480 (person .guest .aboard)
    HostAt ship 0x50 decodeGrantPosting (natBytes 2 1024) 1024 (fun _ => True)
    ∧ (∀ s ∈ [waiting, clamping, orphan], tidy s = true ∧ s.isStarting = false ∧ s.host.sending = none
      ∧ s.host.started = none ∧ s.host.replies = [] ∧ (∀ g < 10, s.notices.isPending g = false)
      ∧ s.host.asleep = false ∧ 0 < s.allowance
      ∧ s.journal = entry 1001 1480 4148 :: [entry 1002 1602 2500, entry 1003 1480 18115])
    ∧ (State.reset.isStarting = true ∧ ship.journal = [] ∧ { waiting with allowance := 0 }.allowance = 0)
    ∧ ({ HostLink.reset with asleep := true }.asleep = true
      ∧ { HostLink.reset with sending := some ⟨[], false⟩ }.sending ≠ none
      ∧ { HostLink.reset with started := some StartedReport.blank }.started ≠ none
      ∧ { HostLink.reset with replies := [⟨0x27, 1, .ok, []⟩] }.replies ≠ [])
    ∧ ∃ g < 10, { waiting with notices := { Notices.reset with pending := [(9, true)] } }.mayDeliver g := by
  refine ⟨hostAt (by decide +kernel), by decide +kernel, by decide, by decide, 9, by decide, ?_⟩
  unfold State.mayDeliver
  decide +kernel

/-! ### The muster -/

theorem witness_MustersStartAndEnd :
    let starts := fun s : State =>
      [(s.muster.active = true, Result.musterActive), (s.store.state ≠ .opened, .powerFail)]
    let ends := fun s : State =>
      [(s.muster.active = false, Result.notActive), (s.store.state ≠ .opened, .powerFail)]
    HostAt mustering 0x58 decodeMusterId (natBytes 2 65535) 65535 (fun s => FirstFailing (starts s) (some .musterActive))
    ∧ HostAt (closing ship) 0x58 decodeMusterId (natBytes 2 0) 0 (fun s => FirstFailing (starts s) (some .powerFail))
    ∧ HostAt ship 0x58 decodeMusterId (natBytes 2 7) 7 (fun s => s.muster.active = false ∧ s.store.state = .opened)
    ∧ HostAt ship 0x59 decodeEmpty [] () (fun s => FirstFailing (ends s) (some .notActive))
    ∧ HostAt (closing mustering) 0x59 decodeEmpty [] () (fun s => FirstFailing (ends s) (some .powerFail))
    ∧ HostAt { mustering with slots := [(10, ⟨1, some ⟨1480, 5, 40, 5000, 35590000, 35600000, false⟩⟩)] } 0x59 decodeEmpty [] ()
      (fun s => s.muster.active = true ∧ s.store.state = .opened
        ∧ s.overdueHolds = (10, ⟨1480, 5, 40, 5000, 35590000, 35600000, false⟩) :: [])
    ∧ HostAt mustering 0x59 decodeEmpty [] ()
      (fun s => s.muster.active = true ∧ s.store.state = .opened ∧ s.overdueHolds = []) := by
  refine ⟨hostAt_of (by decide +kernel) (.inl ⟨rfl, rfl⟩), hostAt_of (by decide +kernel) (.inr ⟨by decide, .inl ⟨by decide, rfl⟩⟩),
    hostAt (by decide +kernel), hostAt_of (by decide +kernel) (.inl ⟨rfl, rfl⟩),
    hostAt_of (by decide +kernel) (.inr ⟨by decide, .inl ⟨by decide, rfl⟩⟩), hostAt (by decide +kernel),
    hostAt (by decide +kernel)⟩

/-- What holds of every listed record holds of every record. -/
theorem persons_all {s : State} {P : Nat → Person → Prop} (h : ∀ e ∈ s.persons, ∀ p, e.2 = some p → P e.1 p) :
    ∀ i p, s.person i = some p → P i p := by
  intro i p hp
  have hm := Table.mem_of_read (d := none) (t := s.persons) (k := i)
    (by rw [show Table.read none s.persons i = some p from hp]; simp)
  exact h _ hm p hp

/-- The same of the records that a test which runs picks out. -/
theorem persons_checked {s : State} {P : Nat → Person → Prop} [∀ i p, Decidable (P i p)]
    (h : (s.persons.all fun e => e.2.all fun p => decide (P e.1 p)) = true) : ∀ i p, s.person i = some p → P i p := by
  refine persons_all fun e he p hp => ?_
  have := List.all_eq_true.mp h e he
  rw [hp] at this
  exact of_decide_eq_true this

/-- A listed record of a table, or what an unlisted number holds, meets a condition. -/
theorem read_all {α : Type} {d : α} {t : Table α} {P : α → Prop} (hd : P d) (h : ∀ e ∈ t, P e.2) (k : Nat) :
    P (t.read d k) := by
  by_cases hk : t.read d k = d
  · rw [hk]; exact hd
  · exact h _ (Table.mem_of_read hk)

theorem ship_heldBack {s : State} (hl : s.lanes = ship.lanes) (hs : s.stations = ship.stations) : s.PermitsHeldBack := by
  refine ⟨hl ▸ by decide +kernel, hs ▸ by decide +kernel, hl ▸ by decide +kernel, fun a l hk hb => ?_, fun _ l => ?_⟩
  · have := read_all (d := Station.reset) (t := ship.stations)
      (P := fun e => e.kind = .lane → ∀ l, e.binding = some l → l < 4) nofun (by decide +kernel) a
    rw [State.stationEntry, hs] at hk hb
    exact this hk l hb
  · rw [State.lane, hl]
    exact read_all (d := Lane.reset) (t := ship.lanes) (P := fun v => v.permits = []) rfl (by decide +kernel) l

/-- What a record and a cabin show of whether a muster is ACTIVE. -/
def showsMuster (active : Bool) (p : Person) : Bool :=
  if active then decide (p.location = .aboard ↔ p.muster ≠ .none) else p.muster == .none

/-- What a cabin shows of whether a muster is ACTIVE. -/
def showsSweep (active : Bool) (v : Cabin) : Bool :=
  if active then decide (v.configured = true ↔ v.sweep ≠ .none) else v.sweep == .none

/-- The agreement of a muster whose points are 0 to 31, by a check that runs. -/
def musterCheck (s : State) : Bool :=
  decide (s.persons.wf none ∧ s.cabins.wf Cabin.reset ∧ s.muster.points.wf 0)
    && decide (s.muster.unmustered = s.countPersons fun p => p.muster == .unmustered)
    && decide (s.muster.unrecorded = s.countPersons fun p => p.muster == .unrecorded)
    && decide (s.muster.unswept = (s.cabins.filter fun e => e.2.sweep == .unswept).length)
    && ((List.range 32).all fun q => s.muster.points.read 0 q == s.countPersons fun p => p.muster == .mustered q)
    && decide (∀ e ∈ s.muster.points, e.1 < 32)
    && (s.persons.all fun e => e.2.all fun p => match p.muster with
        | .mustered q => decide (q < 32)
        | _ => true)
    && (s.persons.all fun e => e.2.all (showsMuster s.muster.active))
    && (s.cabins.all fun e => showsSweep s.muster.active e.2)

theorem agrees_of {s : State} (hl : s.lanes = ship.lanes) (hs : s.stations = ship.stations) (h : musterCheck s = true) :
    s.MusterAgrees := by
  simp only [musterCheck, Bool.and_eq_true, decide_eq_true_iff] at h
  obtain ⟨⟨⟨⟨⟨⟨⟨⟨⟨hp, hc, hq⟩, a⟩, b⟩, c⟩, d⟩, e⟩, f⟩, g⟩, i⟩ := h
  have person : ∀ i p, s.person i = some p → showsMuster s.muster.active p = true :=
    persons_all fun x hx p h => by have := List.all_eq_true.mp g x hx; rw [h] at this; exact this
  have cabin : ∀ k, showsSweep s.muster.active (s.cabin k) = true :=
    read_all (P := fun v => showsSweep s.muster.active v = true) (by cases s.muster.active <;> rfl)
      (fun x hx => List.all_eq_true.mp i x hx)
  refine ⟨ship_heldBack hl hs, hp, hc, hq, a, b, fun q => ?_, c, fun h i p hi => ?_, fun h i p hi => ?_, fun h k => ?_,
    fun h k => ?_⟩
  · by_cases hlt : q < 32
    · exact beq_iff_eq.mp (List.all_eq_true.mp d q (List.mem_range.mpr hlt))
    · have hz : s.muster.points.read 0 q = 0 := by
        by_cases hr : s.muster.points.read 0 q = 0
        · exact hr
        · exact absurd (e _ (Table.mem_of_read hr)) hlt
      rw [hz, State.countPersons, eq_comm, List.length_eq_zero_iff, List.filter_eq_nil_iff]
      intro x hx hm
      have := List.all_eq_true.mp f x hx
      cases hv : x.2 with
      | none => rw [hv] at hm; cases hm
      | some p =>
        rw [hv] at hm this
        simp only [Option.any_some, beq_iff_eq] at hm
        simp only [Option.all_some, hm, decide_eq_true_iff] at this
        exact hlt this
  · have := person i p hi
    rw [showsMuster, if_neg (by simp [h])] at this
    exact beq_iff_eq.mp this
  · have := person i p hi
    rw [showsMuster, if_pos h] at this
    exact of_decide_eq_true this
  · have := cabin k
    rw [showsSweep, if_neg (by simp [h])] at this
    exact beq_iff_eq.mp this
  · have := cabin k
    rw [showsSweep, if_pos h] at this
    exact of_decide_eq_true this

/-- The muster with person 412 credited at point 3. -/
def credited : State :=
  { mustering with muster := { mustering.muster with unmustered := 2, points := [(3, 1)] } }
    |> withPerson 412 { person .guest .aboard with muster := .mustered 3 }

/-- The tests of a credit in turn, a card that fails, a person UNMUSTERED, one not ABOARD, one MUSTERED there already, and one
MUSTERED at another point. -/
theorem witness_MusterCredits :
    let tap := fun (station : Nat) (card : Card) => (⟨station, card⟩ : StationTap)
    let offered := fun (base : State) (station point : Nat) (card : Card) (condition : State → Prop) =>
      StationAt base 0x08 decodeStationTap (tap station card).encode (tap station card) (fun s => s.MusterAgrees
        ∧ ((s.stationEntry station).kind = .muster ∧ (s.stationEntry station).enabled = true
          ∧ (s.stationEntry station).binding = some point)
        ∧ condition s)
    let early := fun s : State => [(s.muster.active = false, Result.notActive), (s.store.state ≠ .opened, .powerFail)]
    let found := fun (card : Card) (s : State) (d : CardDecode) =>
      s.muster.active = true ∧ s.store.state = .opened ∧ s.decodeCard card = d
    let person412 := fun muster : MusterState => { person .guest .aboard with muster : Person }
    offered ship 90 3 (guestCard 412) (fun s => FirstFailing (early s) (some .notActive))
    ∧ offered (closing mustering) 90 3 (guestCard 412) (fun s => FirstFailing (early s) (some .powerFail))
    ∧ offered mustering 90 3 { guestCard 412 with generation := 1 }
      (fun s => found { guestCard 412 with generation := 1 } s (.failed .futureCard 412))
    ∧ offered mustering 90 3 (guestCard 412) (fun s => found (guestCard 412) s (.passed 412 (person412 .unmustered)))
    ∧ offered mustering 90 3 (guestCard 300) (fun s => found (guestCard 300) s (.passed 300 (person .guest .ashore)))
    ∧ offered credited 90 3 (guestCard 412) (fun s => found (guestCard 412) s (.passed 412 (person412 (.mustered 3))))
    ∧ offered credited 95 9 (guestCard 412) (fun s => found (guestCard 412) s (.passed 412 (person412 (.mustered 3)))) := by
  refine ⟨?_, ?_, ?_, ?_, ?_, ?_, ?_⟩ <;>
    refine stationAt_of (by decide +kernel) ⟨agrees_of rfl rfl (by decide +kernel), by decide +kernel, ?_⟩
  · exact .inl ⟨rfl, rfl⟩
  · exact .inr ⟨by decide, .inl ⟨by decide, rfl⟩⟩
  all_goals decide +kernel

/-- The same from the host, whose third test is for a record. -/
theorem witness_MusterCredits_host :
    let offered := fun (base : State) (i point : Nat) (condition : State → Prop) =>
      HostAt base 0x5A decodeMusterPerson (encodeMusterPerson i point) (i, point) (fun s => s.MusterAgrees ∧ condition s)
    let tests := fun (i : Nat) (s : State) => [(s.muster.active = false, Result.notActive),
      (s.store.state ≠ .opened, .powerFail), (s.person i = none, .noRecord)]
    let found := fun (s : State) (muster : MusterState) => s.muster.active = true ∧ s.store.state = .opened
      ∧ s.person 412 = some { person .guest .aboard with muster }
    offered ship 412 31 (fun s => FirstFailing (tests 412 s) (some .notActive))
    ∧ offered (closing mustering) 412 31 (fun s => FirstFailing (tests 412 s) (some .powerFail))
    ∧ offered mustering 8191 31 (fun s => FirstFailing (tests 8191 s) (some .noRecord))
    ∧ offered mustering 412 31 (fun s => found s .unmustered)
    ∧ offered credited 412 3 (fun s => found s (.mustered 3))
    ∧ offered credited 412 31 (fun s => found s (.mustered 3)) := by
  refine ⟨?_, ?_, ?_, ?_, ?_, ?_⟩ <;>
    refine hostAt_of (by decide +kernel) ⟨agrees_of rfl rfl (by decide +kernel), ?_⟩
  · exact .inl ⟨rfl, rfl⟩
  · exact .inr ⟨by decide, .inl ⟨by decide, rfl⟩⟩
  · exact .inr ⟨by decide, .inr ⟨by decide, .inl ⟨by decide +kernel, rfl⟩⟩⟩
  all_goals decide +kernel

/-! ### Notices -/

/-- The message forms at their ends; an event of a member with its flag clear, enabled and not, and of one with its flag set, its
count below 255 and at it; ALARM against a full room of levels; and the last place of the stack. No group is
deliverable with the host ASLEEP, with the stack full, or at a level that is not above the service level or is 0. -/
theorem witness_NoticeMessagesAndDelivery :
    let alarm : State := { ship with notices := { Notices.reset with
      serviceLevel := 7, stack := [5, 3, 0], pending := [(0, true), (8, true)] } }
    HostAt ship 0x60 decodeSetGroupLevel (encodePair 0 3) (0, 3) (fun _ => True)
    ∧ HostAt ship 0x60 decodeSetGroupLevel (encodePair 9 7) (9, 7) (fun _ => True)
    ∧ HostAt ship 0x61 decodeSetMemberEnable [9, 8, 1] (9, 8, true) (fun _ => True)
    ∧ HostAt ship 0x62 decodeServiceLevel [7] 7 (fun _ => True)
    ∧ HostAt ship 0x63 decodeEmpty [] () (fun s => s.notices.stack = [])
    ∧ HostAt inService 0x63 decodeEmpty [] () (fun s => s.notices.stack = 3 :: [0])
    ∧ HostAt inService 0x64 decodeAckNotice (encodePair 9 8) (9, 8) (fun _ => True)
    ∧ (∀ old ∈ [Member.reset, ⟨false, 0, 0, false⟩, ⟨true, 254, 7, true⟩, ⟨true, 255, 7, true⟩],
      let n := ship.notices.putMember ⟨9, 8⟩ old
      n.members.wf Member.reset ∧ n.pending.wf false ∧ n.member ⟨9, 8⟩ = old)
    ∧ tidy alarm = true ∧ alarm.isStarting = false ∧ alarm.host.sending = none ∧ alarm.host.started = none
    ∧ alarm.host.replies = [] ∧ alarm.mayDeliver 0
    ∧ (∀ k < 10, alarm.mayDeliver k → alarm.notices.level k < alarm.notices.level 0
        ∨ (alarm.notices.level k = alarm.notices.level 0 ∧ 0 ≤ k))
    ∧ ∀ s ∈ [{ alarm with host := { alarm.host with asleep := true } },
        { alarm with notices := { alarm.notices with stack := [5, 3, 2, 0] } },
        { ship with notices := { Notices.reset with serviceLevel := 5, pending := [(9, true)] } },
        { ship with notices := { Notices.reset with levels := [(0, 7)], pending := [(9, true)] } }],
      ∀ g < 10, ¬ s.mayDeliver g := by
  refine ⟨?_, ?_, ?_, ?_, ?_, ?_, ?_, by decide +kernel, ?_⟩
  iterate 7 exact hostAt (by decide +kernel)
  unfold State.mayDeliver
  decide +kernel

/-! ### The retention store -/

theorem witness_StoreFollowsThePower :
    let tests := fun s : State =>
      [(s.store.unusable = true, Result.storeUnusable), (s.store.state ≠ .opened, .powerFail)]
    let at_ := fun state : StoreState => { ship with powerFailLevel := true, store := { ship.store with state } }
    HostAt { ship with store := { ship.store with unusable := true } } 0x68 decodeEmpty [] ()
      (fun s => FirstFailing (tests s) (some .storeUnusable))
    ∧ HostAt (closing ship) 0x68 decodeEmpty [] () (fun s => FirstFailing (tests s) (some .powerFail))
    ∧ HostAt dip 0x68 decodeEmpty [] ()
      (fun s => s.store.unusable = false ∧ s.store.state = .opened ∧ s.store.dirty.Pairwise (· < ·))
    ∧ (tidy dip = true ∧ dip.powerFailLevel = false ∧ dip.phase = .running ∧ dip.store.state = .opened)
    ∧ ({ at_ .reopening with powerFailLevel := false }.store.state = .reopening)
    ∧ (tidy State.reset = true ∧ State.reset.powerFailLevel = false ∧ State.reset.isStarting = true)
    ∧ (tidy { dip with phase := .assertionDue, powerFailLevel := true } = true)
    ∧ (∀ state, (at_ state).powerFailLevel = true ∧ (at_ state).phase = .running ∧ (at_ state).store.state = state)
    ∧ { State.reset with powerFailLevel := true }.isStarting = true := by
  refine ⟨hostAt_of (by decide +kernel) (.inl ⟨rfl, rfl⟩), hostAt_of (by decide +kernel) (.inr ⟨by decide, .inl ⟨by decide, rfl⟩⟩),
    hostAt (by decide +kernel), by decide +kernel, rfl, by decide +kernel, by decide +kernel, fun state => ⟨rfl, rfl, rfl⟩, rfl⟩

/-- The shortest and the longest write; a write that agrees, of a person block and of the control block, the second closing the
store and, REOPENING, opening it; a first fault and a third, with room in the list and without; and the step 4 write, before
a fault and before its third. -/
theorem witness_WritesLandOrFault :
    let with_ := fun (f : Flight) (faults : Table Nat) (failedList dirty : List Nat) (state : StoreState) => { dip with
      store := { dip.store with inFlight := some f, faults, failedList, dirty, state, orderly := true } }
    let block : Flight := ⟨18, 10000, .person []⟩
    let control := fun orderly : Bool => (⟨128, 10000, .control { blankFacts with orderly }⟩ : Flight)
    (1 ≤ 1 ∧ 1 ≤ 8 ∧ 8 ≤ 8)
    ∧ (∀ s ∈ [with_ block [] [] [] .opened, with_ (control true) [] [] [] .closing, with_ (control false) [] [] [] .reopening,
        with_ block [(18, 2)] (List.range 7) [6] .opened, with_ block [(18, 2)] (List.range 8) [6] .opened,
        with_ (control false) [(128, 2)] [] [6] .opened], tidy s = true ∧ s.isStarting = false ∧ s.store.inFlight ≠ none)
    ∧ (with_ block [(18, 1)] [] [] .opened).store.faultCount 18 + 1 < 3
    ∧ 3 ≤ (with_ block [(18, 2)] (List.range 7) [6] .opened).store.faultCount 18 + 1
    ∧ (List.range 7).length < 8 ∧ 8 ≤ (List.range 8).length ∧ block.block ≠ 128
    ∧ (tidy State.reset = true ∧ State.reset.phase = .starting StartedReport.blank
      ∧ State.reset.store.inFlight = some ⟨128, 0, .control blankFacts⟩)
    ∧ (State.reset.store.unusable = false ∧ State.reset.store.faultCount 128 + 1 < 3 ∧ State.reset.store.writer = .normal
      ∧ State.reset.store.isFailed 128 = false)
    ∧ (let third := { State.reset with store := { Store.reset with faults := [(128, 2)] } }
      tidy third = true ∧ third.phase = .starting StartedReport.blank ∧ 3 ≤ third.store.faultCount 128 + 1) := by
  refine ⟨by decide, ?_, by decide, by decide, by decide, by decide, by decide, ⟨by decide +kernel, rfl, rfl⟩,
    by decide +kernel, by decide +kernel⟩
  decide +kernel

/-- The writer's turn: a write in flight; nothing to write; the control block among others; the person blocks waiting, and one
last write owed; the next block above the last written, and the lowest after block 127; a stopped writer; and a drained store. -/
theorem witness_WritesLandOrFault_turn :
    let t := fun (dirty : List Nat) (lastWritten : Nat) => { dip.store with inFlight := none, dirty, lastWritten : Store }
    let above := fun (t : Store) (b : Nat) => t.dirty.Pairwise (· < ·) ∧ 128 ∉ t.dirty ∧ b ∈ t.dirty
      ∧ t.lastWritten < b ∧ ∀ c ∈ t.dirty, t.lastWritten < c → b ≤ c
    let wraps := fun (t : Store) (b : Nat) => t.dirty.Pairwise (· < ·) ∧ 128 ∉ t.dirty ∧ b ∈ t.dirty
      ∧ ∀ c ∈ t.dirty, c ≤ t.lastWritten ∧ b ≤ c
    dip.store.inFlight ≠ none ∧ (t [] 22).dirty = [] ∧ (t [] 22).state ≠ .closing
    ∧ ((t [6, 128] 22).inFlight = none ∧ 128 ∈ (t [6, 128] 22).dirty ∧ (t [6, 128] 22).writer ≠ .stopped)
    ∧ (128 ∉ (t [6] 22).dirty ∧ (t [6] 22).dirty ≠ [] ∧ Writer.lastOwed ≠ .normal)
    ∧ (t [6, 18, 95] 22).writer = .normal
    ∧ above (t [6, 18, 95] 22) 95 ∧ above (t [6, 18, 95] 17) 18 ∧ above (t [0, 127] 126) 127
    ∧ wraps (t [6, 18, 95] 95) 6 ∧ wraps (t [0, 127] 127) 0 ∧ wraps (t [18] 18) 18
    ∧ (let u := { t [] 22 with state := .closing }
      u.state = .closing ∧ u.dirty = [] ∧ u.inFlight = none ∧ u.orderly = false ∧ u.unusable = false ∧ u.writer = .normal)
    ∧ records.wf none := by
  refine ⟨?_, ?_, ?_, ?_, ?_, ?_, ?_, ?_, ?_, ?_, ?_, ?_, ?_, ?_⟩ <;> (try dsimp only) <;> decide +kernel

/-! ### What every step keeps -/

/-- A step of a state with a command at the front of its queue. -/
theorem steps {c : Instr} {s : State} {rest : List Instr} (hq : s.pending = c :: rest)
    (h : (did c { s with pending := rest }).isSome = true) : ∃ t, step s = .next t := by
  obtain ⟨t, ht⟩ := completes h
  exact ⟨t, by rw [step, hq]; exact ht⟩

/-- The tests' state with a tab, its close waiting to be taken. -/
def closingTab : State :=
  let q : CloseTab := ⟨40, 0, 7, 0, [⟨100, 1, 0, false⟩]⟩
  { offerStation 0x06 q.encode (tabOpen (account 50000 0)) with pending := [.barCloseTab ⟨1, q.encode⟩] }

theorem closingTab_steps : ∃ t, step closingTab = .next t := steps rfl (by decide +kernel)

theorem witness_StepsKeepTablesAndCapacities :
    closingTab.Tidy ∧ closingTab.WithinCapacity ∧ closingTab.LevelsInRange ∧ ∃ t, step closingTab = .next t := by
  refine ⟨tidy_sound (by decide +kernel), ?_, ?_, closingTab_steps⟩
  · constructor <;> decide +kernel
  · refine ⟨by decide +kernel, by decide +kernel, fun g => ?_, by decide, by decide, by decide, fun m => ?_⟩
    · exact read_all (d := 0) (t := closingTab.notices.levels) (P := fun l => l ≤ 7) (by decide) (by decide +kernel) g
    · exact read_all (d := Member.reset) (t := closingTab.notices.members) (P := fun v => v.count ≤ 255) (by decide)
        (by decide +kernel) m.key

theorem witness_StepsKeepThePersonTableAgreed :
    closingTab.TallyAgrees ∧ closingTab.RecordsWellFormed ∧ closingTab.OccupantsAgree ∧ ∃ t, step closingTab = .next t := by
  refine ⟨⟨by decide +kernel, by decide +kernel, ?_⟩, ⟨by decide +kernel, persons_all fun e he p hp => ?_⟩,
    ⟨by decide +kernel, by decide +kernel, fun c => ?_, fun c => ?_⟩, closingTab_steps⟩
  · intro cls loc; cases cls <;> cases loc <;> decide +kernel
  · have := (by decide +kernel : ∀ e ∈ closingTab.persons, e.2.all (fun p =>
        decide (p.loaded = false → p.cabin = none ∧ p.rights = none ∧ p.sweep = false ∧ p.account = none)
        && decide (p.cls = .visitor → p.cabin = none) && decide (p.rights.isSome → p.cls = .crew)
        && decide (p.sweep = true → p.cls = .crew) && p.rights.all (fun r => decide (r.1 ≤ r.2))
        && p.account.all (fun a => decide (a.creditLimit ≤ maxLimit) && a.dailyLimit.isNone
            && balanceInRange a.posted && decide (a.spentToday ≤ maxBalance))) = true) e he
    rw [hp] at this
    simp only [Option.all_some, Bool.and_eq_true, decide_eq_true_iff] at this
    obtain ⟨⟨⟨⟨⟨a, b⟩, c⟩, d⟩, r⟩, x⟩ := this
    have x : ∀ v, p.account = some v → ((v.creditLimit ≤ maxLimit ∧ v.dailyLimit = none)
        ∧ balanceInRange v.posted = true) ∧ v.spentToday ≤ maxBalance := by
      intro v hv; rw [hv] at x; simpa using x
    refine ⟨a, b, c, d, fun w hw => ?_, fun v hv => ⟨(x v hv).1.1.1, fun l hl => ?_⟩, fun v hv => ⟨(x v hv).1.2, (x v hv).2⟩⟩
    · rw [hw] at r; simpa using r
    · rw [(x v hv).1.1.2] at hl; cases hl
  · by_cases h : c = 2214
    · subst h; decide +kernel
    · have : closingTab.countPersons (fun p => p.cabin == some c) = 0 := by
        rw [State.countPersons, List.length_eq_zero_iff, List.filter_eq_nil_iff]
        intro e he hq
        have hall := (by decide +kernel : ∀ e ∈ closingTab.persons,
          e.2.all (fun p => decide (p.cabin = none ∨ p.cabin = some 2214)) = true) e he
        cases hv : e.2 with
        | none => rw [hv] at hq; cases hq
        | some p =>
          rw [hv] at hq hall
          simp only [Option.any_some, beq_iff_eq] at hq
          simp only [Option.all_some, decide_eq_true_iff, hq] at hall
          rcases hall with hall | hall
          · cases hall
          · exact h (Option.some.inj hall)
      rw [this, State.cabin]
      have hr : ∀ e ∈ closingTab.cabins, e.1 = 2214 ∨ e.2.occupants = 0 := by decide +kernel
      by_cases hk : closingTab.cabins.read Cabin.reset c = Cabin.reset
      · rw [hk]; rfl
      · exact (hr _ (Table.mem_of_read hk)).resolve_left h
  · exact read_all (d := Cabin.reset) (t := closingTab.cabins) (P := fun v => v.occupants ≤ 8) (by decide) (by decide +kernel) c

/-- The lane of example 3-1 with its two permits, the passage of the first about to complete. -/
def crossingNext : State := { crossingIn with pending := [.beamEvent 0 .inner] }

theorem witness_StepsKeepPermitsAgreed :
    crossingNext.PermitsHeldBack ∧ crossingNext.PermitsAgree ∧ ∃ t, step crossingNext = .next t := by
  have lanes : crossingNext.lanes.map Prod.fst = [0] := by decide +kernel
  refine ⟨⟨by decide +kernel, by decide +kernel, by decide +kernel, fun a l hk hb => ?_, ?_⟩,
    ⟨by decide +kernel, by decide +kernel, fun i l => ⟨fun h => ?_, fun h => ?_⟩, fun l => ?_, fun l => ?_⟩,
    steps rfl (by decide +kernel)⟩
  · exact read_all (d := Station.reset) (t := crossingNext.stations)
      (P := fun e => e.kind = .lane → ∀ l, e.binding = some l → l < 4) nofun (by decide +kernel) a hk l hb
  · rintro (h | h)
    · exact absurd h (by decide)
    · exact absurd h (by decide)
  · cases hp : crossingNext.person i with
    | none => rw [hp] at h; cases h
    | some p =>
      rw [hp] at h
      have := persons_checked (s := crossingNext) (P := fun i p => p.gatePermit = none ∨
        (p.gatePermit = some 0 ∧ ∃ q ∈ (crossingNext.lane 0).permits, q.person = i)) (by decide +kernel) i p hp
      rcases this with this | ⟨e, this⟩
      · rw [Option.bind_some, this] at h; cases h
      · rw [Option.bind_some, e] at h; cases h; exact this
  · by_cases hl : l = 0
    · subst hl
      obtain ⟨q, hq, rfl⟩ := h
      have : ∀ q ∈ (crossingNext.lane 0).permits, (crossingNext.person q.person).bind Person.gatePermit = some 0 := by
        decide +kernel
      exact this q hq
    · obtain ⟨q, hq, -⟩ := h
      have hr : ∀ e ∈ crossingNext.lanes, e.1 = 0 ∨ e.2.permits = [] := by decide +kernel
      rw [State.lane] at hq
      by_cases hk : crossingNext.lanes.read Lane.reset l = Lane.reset
      · rw [hk] at hq; cases hq
      · rw [(hr _ (Table.mem_of_read hk)).resolve_left hl] at hq; cases hq
  · exact read_all (d := Lane.reset) (t := crossingNext.lanes) (P := fun v => v.permits.length ≤ 2) (by decide)
      (by decide +kernel) l
  · exact read_all (d := Lane.reset) (t := crossingNext.lanes) (P := fun v => (v.permits.map Permit.person).Nodup) (by decide)
      (by decide +kernel) l

/-- A credit waits to be taken during a muster. -/
theorem witness_StepsKeepTheMusterAgreed :
    let q : StationTap := ⟨90, guestCard 412⟩
    let s : State := { offerStation 0x08 q.encode mustering with pending := [.musterTap ⟨1, q.encode⟩] }
    s.MusterAgrees ∧ ∃ t, step s = .next t :=
  ⟨agrees_of rfl rfl (by decide +kernel), steps rfl (by decide +kernel)⟩

theorem witness_StepsKeepAccountsAgreed : closingTab.AccountsAgree ∧ ∃ t, step closingTab = .next t := by
  refine ⟨⟨by decide +kernel, by decide +kernel, fun i a h => ?_, fun i a h => ?_, fun k h => ?_, nofun⟩, closingTab_steps⟩
  · cases hp : closingTab.person i with
    | none => rw [State.accountOf, hp] at h; cases h
    | some p =>
      rw [State.accountOf, hp] at h
      have := persons_checked (s := closingTab) (P := fun i p => (p.account.all fun a =>
        decide (a.held = closingTab.heldAmounts i)) = true) (by decide +kernel) i p hp
      rw [show p.account = some a from h] at this
      exact of_decide_eq_true this
  · cases hp : closingTab.person i with
    | none => rw [State.accountOf, hp] at h; cases h
    | some p =>
      rw [State.accountOf, hp] at h
      have := persons_checked (s := closingTab) (P := fun i p => (p.account.all fun a =>
        decide (a.unposted = closingTab.unpostedAmounts i)) = true) (by decide +kernel) i p hp
      rw [show p.account = some a from h] at this
      exact of_decide_eq_true this
  · intro hk
    have := read_all (d := Slot.reset) (t := closingTab.slots) (P := fun v => (v.hold.all fun h =>
      decide (0 < h.amount) && (closingTab.accountOf h.person).isSome) = true) rfl (by decide +kernel) k
    rw [show (closingTab.slots.read Slot.reset k).hold = some h from hk] at this
    simpa using this

/-- A ship whose block 23 is stored and whose other blocks are dirty, a write about to land. -/
def storing : State :=
  { ship with
    pending := [.storeWriteComplete 5 true]
    store := { running.store with
      blocks := [(23, .entries (personCopy ship.persons 23))]
      dirty := (List.range 128).filter fun b => b != 23 && b != 25
      inFlight := some ⟨25, 99995, .person (personCopy ship.persons 25)⟩, lastWritten := 24 } }

theorem storing_heldBack : storing.PermitsHeldBack := by
  refine ⟨by decide +kernel, by decide +kernel, by decide +kernel, fun a l hk hb => ?_, ?_⟩
  · exact read_all (d := Station.reset) (t := storing.stations)
      (P := fun e => e.kind = .lane → ∀ l, e.binding = some l → l < 4) nofun (by decide +kernel) a hk l hb
  · intro _ l
    exact read_all (d := Lane.reset) (t := storing.lanes) (P := fun v => v.permits = []) rfl (by decide +kernel) l

theorem storing_stored (b : Nat) (l : List (Nat × StoredEntry)) (h : storing.store.blocks.read .erased b = .entries l) :
    EntriesOf b l := by
  have hm := Table.mem_of_read (d := StoredBlock.erased) (t := storing.store.blocks) (k := b) (by rw [h]; simp)
  rw [h] at hm
  rcases List.mem_singleton.mp hm with e
  cases e
  exact ⟨by decide +kernel, by decide +kernel⟩

theorem witness_StepsKeepTheStoreFaithful :
    (storing.StoreFaithful ∧ ∃ t, step storing = .next t)
    ∧ ((closing storing).PermitsHeldBack ∧ (closing storing).persons.wf none ∧ (closing storing).store.state ≠ .opened
      ∧ restarts (.storeWriteComplete 5 true) (closing storing) = false
      ∧ ∃ t, exec (.storeWriteComplete 5 true) (closing storing) = .next t) := by
  refine ⟨⟨⟨storing_heldBack, by decide +kernel, by decide +kernel, ⟨by decide +kernel, by decide +kernel⟩, by decide +kernel,
      fun _ => ?_, storing_stored, ?_, fun b hb hd _ => ?_, nofun,
      fun h => absurd rfl h, fun h => absurd rfl h⟩, steps rfl (by decide +kernel)⟩,
    ⟨storing_heldBack.lanes, storing_heldBack.stations, storing_heldBack.numbered, storing_heldBack.bound, fun _ l => ?_⟩,
    by decide +kernel, by decide, rfl, completes (by decide +kernel)⟩
  · exact persons_checked (s := storing) (P := fun _ p => p.muster = .none) (by decide +kernel)
  · rintro f ⟨⟩
    exact ⟨by decide, by decide +kernel, by decide +kernel⟩
  · have all : ∀ b < 128, b ≠ 23 → b ≠ 25 → b ∈ storing.store.dirty := by decide +kernel
    by_cases h : b = 23
    · subst h
      have : storing.store.coming 23 = .entries (personCopy storing.persons 23) := by decide +kernel
      rw [this]; rfl
    · by_cases h' : b = 25
      · subst h'
        have : storing.store.coming 25 = .entries (personCopy storing.persons 25) := by decide +kernel
        rw [this]; rfl
      · exact absurd (all b hb h h') hd
  · exact read_all (d := Lane.reset) (t := storing.lanes) (P := fun v => v.permits = []) rfl (by decide +kernel) l

end Sys2Proof.Tests
end

section
/-!
PROOFS. The card decode (R2 to R4): which decoder decides, what a decode answers at each of its tests, and the statements of
Sys2Proof/Certificates/Slice0/Obligations.lean on cards.
-/

namespace Sys2Proof.Machine

/-! ### The deciding decoder (R2) -/

/-- A match, bit by bit as R2 states it. -/
theorem Decoder.matchesCard_iff {d : Decoder} {number : BitVec 32} :
    Decoder.matchesCard d number = true ↔
      d.enabled = true ∧ ∀ b < 32, d.mask.getLsbD b = true → number.getLsbD b = d.compare.getLsbD b := by
  have masked_bit : ∀ b, (number &&& d.mask).getLsbD b = (d.compare &&& d.mask).getLsbD b ↔
      (d.mask.getLsbD b = true → number.getLsbD b = d.compare.getLsbD b) := fun b => by
    cases hm : d.mask.getLsbD b <;> simp [hm]
  simp only [Decoder.matchesCard, Bool.and_eq_true, beq_iff_eq, BitVec.eq_of_getLsbD_eq_iff, masked_bit]

theorem State.decidingDecoder_eq_lowest {s : State} {number : BitVec 32} {k : Nat} (hk : k < 8)
    (hmatch : Decoder.matchesCard (s.decoder k) number = true)
    (hlower : ∀ j < k, ¬ Decoder.matchesCard (s.decoder j) number = true) :
    s.decidingDecoder number = some (s.decoder k) := by
  have hfind : (List.range 8).find? (fun j => Decoder.matchesCard (s.decoder j) number) = some k :=
    List.find?_range_eq_some.mpr ⟨hmatch, List.mem_range.mpr hk, fun j hj => by simpa using hlower j hj⟩
  rw [State.decidingDecoder, hfind, Option.map_some]

theorem State.decidingDecoder_eq_none {s : State} {number : BitVec 32}
    (hnone : ∀ k < 8, ¬ Decoder.matchesCard (s.decoder k) number = true) : s.decidingDecoder number = none := by
  have hfind : (List.range 8).find? (fun j => Decoder.matchesCard (s.decoder j) number) = none :=
    List.find?_range_eq_none.mpr fun k hk => by simpa using hnone k hk
  rw [State.decidingDecoder, hfind, Option.map_none]

/-! ### The answer of a decode at each test (R3, R4) -/

theorem State.decodeCard_unknownCard {s : State} {c : Card} (hd : s.decidingDecoder c.number = none) :
    s.decodeCard c = .failed .unknownCard 0 := by
  simp only [State.decodeCard, hd]

/-- The index, as R3 computes it. -/
theorem Decoder.index_toNat (d : Decoder) (number : BitVec 32) :
    (number + d.offset).toNat = (number.toNat + d.offset.toNat) % 4294967296 := BitVec.toNat_add number d.offset

/-- How far a card's generation is ahead of a record's, as R4 computes it. -/
theorem generation_ahead_toNat (card record : BitVec 4) :
    (card - record).toNat = (card.toNat + 16 - record.toNat) % 16 := by
  rw [BitVec.toNat_sub]
  omega

section Tests

variable {s : State} {c : Card} {d : Decoder} {p : Person}

section Decided

variable (hd : s.decidingDecoder c.number = some d)
include hd

theorem State.decodeCard_outOfTable (hrange : 8192 ≤ (c.number + d.offset).toNat) :
    s.decodeCard c = .failed .outOfTable (c.number + d.offset).toNat := by
  simp only [State.decodeCard, hd, if_pos hrange]

variable (hrange : (c.number + d.offset).toNat < 8192)
include hrange

theorem State.decodeCard_noRecord (hrecord : s.person (c.number + d.offset).toNat = none) :
    s.decodeCard c = .failed .noRecord (c.number + d.offset).toNat := by
  simp only [State.decodeCard, hd, if_neg (Nat.not_le.mpr hrange), hrecord]

variable (hrecord : s.person (c.number + d.offset).toNat = some p)
include hrecord

theorem State.decodeCard_classMismatch (hcls : p.cls ≠ d.cls) :
    s.decodeCard c = .failed .classMismatch (c.number + d.offset).toNat := by
  simp only [State.decodeCard, hd, if_neg (Nat.not_le.mpr hrange), hrecord, if_pos hcls]

variable (hcls : p.cls = d.cls)
include hcls

/-- Past the class test the generations alone decide. -/
theorem State.decodeCard_generation :
    s.decodeCard c =
      if c.generation - p.generation = 0 then .passed (c.number + d.offset).toNat p
      else if (c.generation - p.generation).toNat ≤ 7 then .failed .futureCard (c.number + d.offset).toNat
      else .failed .staleCard (c.number + d.offset).toNat := by
  simp only [State.decodeCard, hd, if_neg (Nat.not_le.mpr hrange), hrecord, if_neg (not_not_intro hcls)]

theorem State.decodeCard_passed (hgen : c.generation = p.generation) :
    s.decodeCard c = .passed (c.number + d.offset).toNat p := by
  rw [State.decodeCard_generation hd hrange hrecord hcls, if_pos (sub_eq_zero.mpr hgen)]

theorem State.decodeCard_futureCard (hahead : 1 ≤ (c.generation - p.generation).toNat)
    (hnear : (c.generation - p.generation).toNat ≤ 7) :
    s.decodeCard c = .failed .futureCard (c.number + d.offset).toNat := by
  have hne : c.generation - p.generation ≠ 0 := fun h => absurd hahead (by simp [h])
  rw [State.decodeCard_generation hd hrange hrecord hcls, if_neg hne, if_pos hnear]

theorem State.decodeCard_staleCard (hfar : 8 ≤ (c.generation - p.generation).toNat) :
    s.decodeCard c = .failed .staleCard (c.number + d.offset).toNat := by
  have hne : c.generation - p.generation ≠ 0 := fun h => absurd hfar (by simp [h])
  rw [State.decodeCard_generation hd hrange hrecord hcls, if_neg hne, if_neg (by omega)]

end Decided

/-- Once a decoder decides, the decode passes with its index and class or fails at a later test: no other decoder is tried,
so the reason is not UNKNOWN_CARD. -/
theorem State.decodeCard_of_decider (hd : s.decidingDecoder c.number = some d) :
    (∃ p, p.cls = d.cls ∧ s.decodeCard c = .passed (c.number + d.offset).toNat p)
      ∨ ∃ reason, reason ≠ .unknownCard ∧ s.decodeCard c = .failed reason (c.number + d.offset).toNat := by
  by_cases hrange : (c.number + d.offset).toNat < 8192
  case neg => exact .inr ⟨.outOfTable, nofun, State.decodeCard_outOfTable hd (Nat.not_lt.mp hrange)⟩
  cases hrecord : s.person (c.number + d.offset).toNat with
  | none => exact .inr ⟨.noRecord, nofun, State.decodeCard_noRecord hd hrange hrecord⟩
  | some p =>
    by_cases hcls : p.cls = d.cls
    case neg => exact .inr ⟨.classMismatch, nofun, State.decodeCard_classMismatch hd hrange hrecord hcls⟩
    rw [State.decodeCard_generation hd hrange hrecord hcls]
    split
    · exact .inl ⟨p, hcls, rfl⟩
    · split
      · exact .inr ⟨.futureCard, nofun, rfl⟩
      · exact .inr ⟨.staleCard, nofun, rfl⟩

end Tests

/-! ### The statements -/

/-- Settles O22: the first match of the search over 0 to 7 is the lowest, and no test after it goes back to the search. -/
theorem lowestMatchingDecoderDecides : Obligations.LowestMatchingDecoderDecides := by
  intro s number agrees
  have agrees_iff : ∀ k, agrees k ↔ Decoder.matchesCard (s.decoder k) number = true := fun _ => Decoder.matchesCard_iff.symm
  simp only [agrees_iff]
  refine ⟨fun k hk hmatch hlower => ?_, fun hnone => ?_⟩
  · have hd := State.decidingDecoder_eq_lowest hk hmatch hlower
    refine ⟨hd, fun generation => ?_⟩
    obtain ⟨p, hcls, hpassed⟩ | ⟨reason, hreason, hfailed⟩ := State.decodeCard_of_decider (c := ⟨number, generation⟩) hd
    · rw [hpassed]
      exact ⟨rfl, hcls⟩
    · rw [hfailed]
      exact ⟨rfl, hreason⟩
  · have hd := State.decidingDecoder_eq_none hnone
    exact ⟨hd, fun _ => State.decodeCard_unknownCard hd⟩

/-- Settles O23: one equation of the decode for each test, the index and the generation difference read as R3 and R4
compute them. -/
theorem decodeTestsInOrder : Obligations.DecodeTestsInOrder := by
  intro s c
  refine ⟨State.decodeCard_unknownCard, fun d hd => ?_⟩
  simp only [← Decoder.index_toNat, ← generation_ahead_toNat]
  exact ⟨State.decodeCard_outOfTable hd, State.decodeCard_noRecord hd, fun _ hrange hrecord =>
    ⟨State.decodeCard_classMismatch hd hrange hrecord, State.decodeCard_passed hd hrange hrecord,
      State.decodeCard_futureCard hd hrange hrecord, State.decodeCard_staleCard hd hrange hrecord⟩⟩

end Sys2Proof.Machine
end

section
/-!
PROOFS. The gangway lanes: the reset of a lane's counters (R61), and the statements of
Sys2Proof/Certificates/Slice0/Obligations.lean on lanes.
-/

namespace Sys2Proof.Machine

/-! ### Bodies of one byte -/

/-- A body of one byte is that byte's number, when it lies below the bound. -/
theorem decodeNumber_one_byte (bound : Nat) (b : Byte) :
    decodeNumber 1 bound [b] = if b.toNat < bound then some b.toNat else none := by
  simp [decodeNumber, takeNat, whole]

/-- Lanes are numbered 0 to 3. -/
theorem decodeLane_eq_none {lane : Byte} (h : 4 ≤ lane.toNat) : decodeLane [lane] = none := by
  rw [decodeLane, decodeNumber_one_byte, if_neg (Nat.not_lt.mpr h)]

/-! ### What the taking of a host request leaves -/

section Taking

variable {α : Type} {kind : Byte} {decode : List Byte → Option α} {r : Request} {q : α} {s : State} {c : Instr}
  {act : α → State → State × HostAnswer}

/-- A host request with tag 0, or whose body does not decode, is answered MALFORMED, and nothing else changes (R173). -/
theorem host_malformed (ht : s.hostTakes ⟨kind, r.tag, r.body⟩ = true) (hd : r.tag = 0 ∨ decode r.body = none)
    (hx : exec c s = takeHost kind decode act r s) :
    ∃ t, exec c s = .next t ∧ HostAnswered s t ⟨kind, r.tag, .malformed, []⟩ ∧ Keeps [.host] s t := by
  refine ⟨_, hx.trans (takeHost_malformed ht hd act), by simp [HostAnswered], fun p hp => ?_⟩
  cases p <;> simp_all [Part.kept]

/-- A host request whose owner writes one lane and answers: that lane holds what was written, every other lane and every
unit but the lanes is as it was. -/
theorem host_puts_lane {l : Nat} {v : Lane} {answer : HostAnswer} (hw : s.lanes.wf Lane.reset)
    (h : HostOffer s kind decode r q) (hx : exec c s = takeHost kind decode act r s)
    (ha : act q s.dropHostRequest = (s.dropHostRequest.putLane l v, answer)) :
    ∃ t, exec c s = .next t ∧ HostAnswered s t ⟨kind, r.tag, answer.result, answer.fields⟩
      ∧ (∀ j, t.lane j = if j = l then v else s.lane j) ∧ Keeps [.host, .lanes] s t := by
  refine takeHost_done h hx ?_
  rw [ha]
  refine ⟨by simp [HostAnswered], lane_putLane hw l v, fun p hp => ?_⟩
  cases p <;> simp_all [Part.kept]

end Taking

/-! ### RESET_LANE_COUNTERS (R61) -/

theorem exec_resetLaneCounters (r : Request) (s : State) :
    exec (.resetLaneCounters r) s = takeHost 0x3B decodeLane doResetLaneCounters r s := rfl

/-- What RESET_LANE_COUNTERS leaves in its lane, as R61 states it: a period in progress goes on, and counts from here
(R44). -/
theorem doResetLaneCounters_eq (l : Nat) (s : State) :
    doResetLaneCounters l s = (s.putLane l { s.lane l with
      counts := LaneCounts.zero
      saturationReported := false
      occupiedSince := if (s.lane l).occupiedSince = none then none else some s.clock.mono }, .plain .ok) := by
  cases h : (s.lane l).occupiedSince <;> simp [doResetLaneCounters, h]

/-! ### The statements -/

/-- Settles O28: the owner's act writes the one lane, and a number above 3 does not decode. -/
theorem laneCountersReset : Obligations.LaneCountersReset := by
  refine ⟨fun s r l htidy hoffer => ?_, fun s r lane htakes _ hbody habove => ?_⟩
  · exact host_puts_lane htidy.lanes hoffer (exec_resetLaneCounters r s) (doResetLaneCounters_eq l s.dropHostRequest)
  · have hnone : decodeLane r.body = none := by rw [hbody, decodeLane_eq_none habove]
    exact host_malformed htakes (.inr hnone) (exec_resetLaneCounters r s)

end Sys2Proof.Machine
end

section
/-!
PROOFS. Sums over the sparse tables: the weight of a table's records in total, how a write and a change of every record move
it, and the counts and sums of Sys2Proof/Safety.lean as such totals.
-/

namespace Sys2Proof

section Totals

variable {α : Type} {d : α} {w : α → Nat}

/-- The weight of the listed records in total. -/
def Table.total (w : α → Nat) (t : Table α) : Nat := (t.map fun e => w e.2).sum

@[simp] theorem Table.total_nil : Table.total w ([] : Table α) = 0 := rfl

@[simp] theorem Table.total_cons (e : Nat × α) (t : Table α) : Table.total w (e :: t) = w e.2 + Table.total w t := by
  simp [Table.total]

/-- A total is 0 exactly when every record weighs nothing. -/
theorem Table.total_eq_zero {t : Table α} (h : t.wf d) (hd : w d = 0) :
    Table.total w t = 0 ↔ ∀ k, w (t.read d k) = 0 := by
  refine ⟨fun hz k => ?_, fun hr => ?_⟩
  · by_cases hk : t.read d k = d
    · rw [hk, hd]
    · exact List.sum_eq_zero_iff.mp hz _ (List.mem_map.mpr ⟨_, Table.mem_of_read hk, rfl⟩)
  · refine List.sum_eq_zero_iff.mpr fun n hn => ?_
    obtain ⟨⟨k, v⟩, he, rfl⟩ := List.mem_map.mp hn
    exact Table.read_of_mem h he ▸ hr k

/-- The weight of one record is at most the total. -/
theorem Table.le_total {t : Table α} (hd : w d = 0) (k : Nat) : w (t.read d k) ≤ Table.total w t := by
  by_cases hk : t.read d k = d
  · rw [hk, hd]; exact Nat.zero_le _
  · exact List.single_le_sum (fun _ _ => Nat.zero_le _) _ (List.mem_map.mpr ⟨_, Table.mem_of_read hk, rfl⟩)

/-- Weights that agree on every record give one total. -/
theorem Table.total_congr {t : Table α} {w' : α → Nat} (h : t.wf d) (hr : ∀ k, w (t.read d k) = w' (t.read d k)) :
    Table.total w t = Table.total w' t := by
  refine congrArg List.sum (List.map_congr_left fun e he => ?_)
  have := hr e.1
  rwa [Table.read_of_mem h he] at this

/-- The number of the listed records that a test picks is the total of the weights 1 and 0. -/
theorem Table.length_filter_eq_total (g : α → Bool) (t : Table α) :
    (t.filter fun e => g e.2).length = Table.total (fun v => (g v).toNat) t := by
  induction t with
  | nil => rfl
  | cons e t ih => cases hg : g e.2 <;> simp [hg, ih, Nat.add_comm]

/-- A record that reads as other than `d` is listed by its number, and conversely in a canonical table. -/
theorem Table.mem_iff_read {t : Table α} (h : t.wf d) {k : Nat} {v : α} : (k, v) ∈ t ↔ t.read d k = v ∧ v ≠ d :=
  ⟨fun hm => ⟨Table.read_of_mem h hm, h.2 _ hm⟩, fun ⟨hr, hv⟩ => hr ▸ Table.mem_of_read (hr.symm ▸ hv)⟩

/-- A number that every listed one differs from reads as `d`. -/
theorem Table.read_unlisted {t : Table α} {k : Nat} (h : ∀ e ∈ t, e.1 ≠ k) : t.read d k = d := by
  by_contra hr
  exact h _ (Table.mem_of_read hr) rfl

variable [DecidableEq α]

/-- A write takes the weight of the former record out of the total and puts that of the written one in. -/
theorem Table.total_write {t : Table α} (h : t.wf d) (hd : w d = 0) (k : Nat) (v : α) :
    Table.total w (t.write d k v) + w (t.read d k) = Table.total w t + w v := by
  induction t with
  | nil => by_cases hv : v = d <;> simp [Table.write, hv, hd]
  | cons e t ih =>
    obtain ⟨k', v'⟩ := e
    obtain ⟨hlt, -, ht⟩ := Table.wf_cons.mp h
    rcases Nat.lt_trichotomy k k' with hk | rfl | hk
    · have below : Table.read d ((k', v') :: t : Table α) k = d := Table.read_below fun x hx => by
        rcases List.mem_cons.mp hx with rfl | hx
        · exact hk
        · exact hk.trans (hlt x hx)
      rw [below, hd, Table.write, if_pos hk]
      split <;> simp_all [Nat.add_comm]
    · rw [Table.write, if_neg (Nat.lt_irrefl k), if_pos rfl, Table.read_cons, if_pos rfl]
      split <;> simp_all <;> omega
    · rw [Table.write, if_neg (by omega), if_neg (by omega), Table.read_cons, if_neg (by omega), Table.total_cons,
        Table.total_cons, Nat.add_assoc, ih ht, Nat.add_assoc]

/-- The change of every record changes every weight. -/
theorem Table.total_mapRecords (t : Table α) (f : α → α) (hd : w d = 0) :
    Table.total w (t.mapRecords d f) = Table.total (w ∘ f) t := by
  induction t with
  | nil => rfl
  | cons e t ih =>
    have hcons : Table.mapRecords d f (e :: t)
        = if f e.2 = d then Table.mapRecords d f t else (e.1, f e.2) :: Table.mapRecords d f t := by
      by_cases hv : f e.2 = d <;> simp [Table.mapRecords, hv]
    rw [hcons]
    split <;> simp_all

end Totals

namespace Machine

variable {s : State}

theorem State.countPersons_eq_total (s : State) (f : Person → Bool) :
    s.countPersons f = Table.total (fun v : Option Person => (v.any f).toNat) s.persons :=
  Table.length_filter_eq_total (fun v : Option Person => v.any f) s.persons

/-- The weight of a slot for a person: the amount of the hold in it, where it is the person's. -/
def Slot.heldFor (i : Nat) (k : Slot) : Nat :=
  match k.hold with
  | some h => if h.person = i then h.amount else 0
  | none => 0

theorem State.heldAmounts_eq_total (s : State) (i : Nat) : s.heldAmounts i = Table.total (Slot.heldFor i) s.slots := rfl

/-- How a count of records follows the write of one. -/
theorem State.countPersons_write (h : s.persons.wf none) (f : Person → Bool) (i : Nat) (new : Option Person) {t : State}
    (ht : t.persons = s.persons.write none i new) :
    t.countPersons f + ((s.person i).any f).toNat = s.countPersons f + (new.any f).toNat := by
  rw [State.countPersons_eq_total, State.countPersons_eq_total, ht]
  exact Table.total_write h rfl i new

/-- A record that a test picks is counted. -/
theorem State.countPersons_pos {f : Person → Bool} {i : Nat} {p : Person} (hp : s.person i = some p) (hf : f p = true) :
    0 < s.countPersons f := by
  have hle := Table.le_total (d := none) (w := fun v : Option Person => (v.any f).toNat) (t := s.persons) rfl i
  rw [← State.countPersons_eq_total] at hle
  have hi : Table.read none s.persons i = some p := hp
  simp [hi, hf] at hle
  omega

/-- No record is counted exactly when the test picks none. -/
theorem State.countPersons_eq_zero (h : s.persons.wf none) {f : Person → Bool} :
    s.countPersons f = 0 ↔ ∀ i p, s.person i = some p → f p = false := by
  rw [State.countPersons_eq_total, Table.total_eq_zero (d := none) h rfl]
  refine ⟨fun hz i p hp => ?_, fun hz i => ?_⟩
  · have := hz i
    have hi : Table.read none s.persons i = some p := hp
    rw [hi] at this
    simpa using this
  · change ((s.person i).any f).toNat = 0
    cases hp : s.person i with
    | none => rfl
    | some p => simp [hz i p hp]

/-- Tests that agree on every record count alike. -/
theorem State.countPersons_congr (h : s.persons.wf none) {f g : Person → Bool}
    (hfg : ∀ i p, s.person i = some p → f p = g p) : s.countPersons f = s.countPersons g := by
  rw [State.countPersons_eq_total, State.countPersons_eq_total]
  refine Table.total_congr (d := none) h fun i => ?_
  change ((s.person i).any f).toNat = ((s.person i).any g).toNat
  cases hp : s.person i with
  | none => rfl
  | some p => simp [hfg i p hp]

/-- A count after a change of every record. -/
theorem State.countPersons_mapRecords {t : State} {f : Person → Bool} {g : Person → Person}
    (ht : t.persons = s.persons.mapRecords none (Option.map g)) : t.countPersons f = s.countPersons (f ∘ g) := by
  rw [State.countPersons_eq_total, State.countPersons_eq_total, ht, Table.total_mapRecords (d := none) _ _ rfl]
  congr 1
  funext v
  cases v <;> rfl

end Machine

end Sys2Proof
end

section
/-!
PROOFS. What a body that decodes is known to satisfy: the range tests of its request (R173 test 3).
-/

namespace Sys2Proof

/-- A value that comes from a whole body has passed its range tests. -/
theorem whole_eq_some {α : Type} {valid : α → Bool} {a q : α} {rest : List Byte} :
    whole valid a rest = some q ↔ rest = [] ∧ valid a = true ∧ a = q := by
  simp only [whole, Bool.and_eq_true, List.isEmpty_iff, Option.ite_none_right_eq_some, Option.some.injEq, and_assoc]

theorem whole_valid {α : Type} {valid : α → Bool} {a q : α} {rest : List Byte} (h : whole valid a rest = some q) :
    valid q = true := by
  obtain ⟨-, hv, rfl⟩ := whole_eq_some.mp h
  exact hv

theorem decodeNumber_lt {n bound v : Nat} {bs : List Byte} (h : decodeNumber n bound bs = some v) : v < bound := by
  simp only [decodeNumber, Option.bind_eq_bind, Option.bind_eq_some_iff, Prod.exists] at h
  obtain ⟨_, _, -, h⟩ := h
  simpa only [decide_eq_true_eq] using whole_valid h

theorem decodeLane_lt {bs : List Byte} {l : Nat} (h : decodeLane bs = some l) : l < 4 := decodeNumber_lt h

theorem decodeServiceLevel_lt {bs : List Byte} {l : Nat} (h : decodeServiceLevel bs = some l) : l < 8 := decodeNumber_lt h

theorem decodeLoadPerson_valid {bs : List Byte} {q : LoadPerson} (h : decodeLoadPerson bs = some q) : q.valid = true := by
  simp only [decodeLoadPerson, Option.bind_eq_bind, Option.bind_eq_some_iff, Prod.exists] at h
  obtain ⟨_, _, -, _, _, -, _, _, -, _, _, -, _, _, -, _, _, -, _, _, -, _, _, -, _, _, -, h⟩ := h
  exact whole_valid h

theorem decodeUpdateAccount_valid {bs : List Byte} {q : Nat × AccountTerms} (h : decodeUpdateAccount bs = some q) : q.1 < 8192 ∧ q.2.valid = true := by
  simp only [decodeUpdateAccount, Option.bind_eq_bind, Option.bind_eq_some_iff, Prod.exists] at h
  obtain ⟨_, _, -, _, _, -, h⟩ := h
  simpa only [Bool.and_eq_true, decide_eq_true_eq] using whole_valid h

theorem decodeConfigureStation_valid {bs : List Byte} {q : Nat × Station} (h : decodeConfigureStation bs = some q) : q.1 < 128 ∧ q.2.valid = true := by
  simp only [decodeConfigureStation, Option.bind_eq_bind, Option.bind_eq_some_iff, Prod.exists] at h
  obtain ⟨_, _, -, _, _, -, _, _, -, _, _, -, h⟩ := h
  simpa only [Bool.and_eq_true, decide_eq_true_eq] using whole_valid h

theorem decodeConfigureLane_lt {bs : List Byte} {q : Nat × LaneSetup} (h : decodeConfigureLane bs = some q) : q.1 < 4 := by
  simp only [decodeConfigureLane, Option.bind_eq_bind, Option.bind_eq_some_iff, Prod.exists] at h
  obtain ⟨_, _, -, _, _, -, _, _, -, _, _, -, _, _, -, h⟩ := h
  simpa only [decide_eq_true_eq] using whole_valid h

theorem decodeSetLaneMode_lt {bs : List Byte} {q : Nat × LaneMode} (h : decodeSetLaneMode bs = some q) : q.1 < 4 := by
  simp only [decodeSetLaneMode, Option.bind_eq_bind, Option.bind_eq_some_iff, Prod.exists] at h
  obtain ⟨_, _, -, _, _, -, h⟩ := h
  simpa only [decide_eq_true_eq] using whole_valid h

theorem decodeOpenTab_amount {bs : List Byte} {q : OpenTab} (h : decodeOpenTab bs = some q) : 100 ≤ q.amount ∧ q.amount ≤ 1000000 := by
  simp only [decodeOpenTab, Option.bind_eq_bind, Option.bind_eq_some_iff, Prod.exists] at h
  obtain ⟨_, _, -, _, _, -, _, _, -, h⟩ := h
  have hv := whole_valid h
  simp only [Bool.and_eq_true, decide_eq_true_eq] at hv
  exact ⟨hv.1.2, hv.2⟩

theorem decodeSetGroupLevel_le {bs : List Byte} {q : Nat × Nat} (h : decodeSetGroupLevel bs = some q) : q.1 ≤ 9 ∧ q.2 ≤ 7 := by
  simp only [decodeSetGroupLevel, Option.bind_eq_bind, Option.bind_eq_some_iff, Prod.exists] at h
  obtain ⟨_, _, -, _, _, -, h⟩ := h
  simpa only [Bool.and_eq_true, decide_eq_true_eq] using whole_valid h

end Sys2Proof
end

section
/-!
PROOFS. What a command can do, as a chain of changes of a few kinds: each kind is one operation of the model together with what
its use in a command is known to satisfy. Sys2Proof/Certificates/Slice0/Obligations.lean's statements on every step are then
shown of the kinds of change, not of the commands.
-/

namespace Sys2Proof.Machine

/-! ### Changes that the agreements between the tables do not read -/

/-- A change of the links, the notices, the clock and the registers: the records that agree with one another stand, time does
not run back, and canonical tables, capacities and levels are kept. -/
structure Aside (s t : State) : Prop where
  pending : t.pending = s.pending
  persons : t.persons = s.persons
  tally : t.tally = s.tally
  stations : t.stations = s.stations
  lanes : t.lanes = s.lanes
  cabins : t.cabins = s.cabins
  slots : t.slots = s.slots
  journal : t.journal = s.journal
  muster : t.muster = s.muster
  store : t.store = s.store
  mono : s.clock.mono ≤ t.clock.mono
  day : s.clock.currentDay ≤ t.clock.currentDay
  tidy : s.Tidy → t.Tidy
  capacity : s.WithinCapacity → t.WithinCapacity
  levels : s.LevelsInRange → t.LevelsInRange

/-- A change of registers that no invariant reads, and of the clock. -/
theorem Aside.registers {s t : State} (h : { t with
      phase := s.phase, unitAddressPins := s.unitAddressPins, unitAddress := s.unitAddress
      powerFailLevel := s.powerFailLevel, clock := s.clock, tallySequence := s.tallySequence, deadline := s.deadline
      deadlineArrived := s.deadlineArrived, guestsReported := s.guestsReported, doorSettings := s.doorSettings
      nextCharge := s.nextCharge, journalFullReported := s.journalFullReported, freeIndex := s.freeIndex
      host := { t.host with
        sending := s.host.sending, started := s.host.started, takingStopped := s.host.takingStopped
        asleep := s.host.asleep, wake := s.host.wake }
      station := { t.station with sending := s.station.sending } } = s)
    (hmono : s.clock.mono ≤ t.clock.mono) (hday : s.clock.currentDay ≤ t.clock.currentDay) : Aside s t where
  pending := (congrArg State.pending h :)
  persons := (congrArg State.persons h :)
  tally := (congrArg State.tally h :)
  stations := (congrArg State.stations h :)
  lanes := (congrArg State.lanes h :)
  cabins := (congrArg State.cabins h :)
  slots := (congrArg State.slots h :)
  journal := (congrArg State.journal h :)
  muster := (congrArg State.muster h :)
  store := (congrArg State.store h :)
  mono := hmono
  day := hday
  tidy hs := by rw [← h] at hs; exact { hs with }
  capacity hs := by rw [← h] at hs; exact { hs with }
  levels hs := by rw [← h] at hs; exact { hs with }

theorem Aside.trans {s t u : State} (h : Aside s t) (h' : Aside t u) : Aside s u where
  pending := h'.pending.trans h.pending
  persons := h'.persons.trans h.persons
  tally := h'.tally.trans h.tally
  stations := h'.stations.trans h.stations
  lanes := h'.lanes.trans h.lanes
  cabins := h'.cabins.trans h.cabins
  slots := h'.slots.trans h.slots
  journal := h'.journal.trans h.journal
  muster := h'.muster.trans h.muster
  store := h'.store.trans h.store
  mono := h.mono.trans h'.mono
  day := h.day.trans h'.day
  tidy := h'.tidy ∘ h.tidy
  capacity := h'.capacity ∘ h.capacity
  levels := h'.levels ∘ h.levels

/-- A change of the notice unit and of the wake output. -/
theorem Aside.notices {s : State} {n : Notices} (wake : Bool)
    (htidy : s.Tidy → n.levels.wf 0 ∧ n.pending.wf false ∧ n.members.wf Member.reset)
    (hstack : n.stack.length ≤ 4 ∨ n.stack.length ≤ s.notices.stack.length)
    (hlevels : s.LevelsInRange → ({ s with notices := n } : State).LevelsInRange) :
    Aside s { s with notices := n, host := { s.host with wake } } where
  pending := rfl
  persons := rfl
  tally := rfl
  stations := rfl
  lanes := rfl
  cabins := rfl
  slots := rfl
  journal := rfl
  muster := rfl
  store := rfl
  mono := le_rfl
  day := le_rfl
  tidy h :=
    let ⟨hl, hp, hm⟩ := htidy h
    { h with levels := hl, groupsPending := hp, members := hm }
  capacity h := { h with stack := hstack.elim id fun hs => hs.trans h.stack }
  levels h := { hlevels h with }

theorem Notices.wf_pending_raise {n : Notices} (h : n.pending.wf false) (m : MemberId) (d : Nat) :
    (n.raise m d).pending.wf false := Table.wf_write h _ _

/-- A raising keeps levels and counts in range. -/
theorem State.LevelsInRange.raise {s : State} (h : s.LevelsInRange) (m : MemberId) (d : Nat) :
    ({ s with notices := s.notices.raise m d } : State).LevelsInRange :=
  { h with
    members := Notices.wf_raise h.members m d
    counts := fun m' => by
      dsimp only
      rw [Notices.member_raise h.members]
      split
      · exact Nat.min_le_right _ _
      · exact h.counts m' }

theorem Aside.raiseWhen (s : State) (c : Bool) (m : MemberId) (d : Nat) : Aside s (s.raiseWhen c m d) := by
  refine Aside.notices _ (fun h => ?_) (.inr ?_) fun h => ?_
  · cases c
    · exact ⟨h.levels, h.groupsPending, h.members⟩
    · exact ⟨h.levels, Notices.wf_pending_raise h.groupsPending m d, Notices.wf_raise h.members m d⟩
  · cases c <;> exact le_rfl
  · cases c
    · exact h
    · exact h.raise m d

/-! ### The kinds of change -/

/-- A record that may replace that at an index: what each agreement asks of the change of one record. -/
structure State.Fits (s : State) (i : Nat) (new : Option Person) : Prop where
  index : (s.person i).isSome ∨ i < 8192
  wellFormed : (∀ p, s.person i = some p → p.WellFormed) → ∀ p, new = some p → p.WellFormed
  opened : s.store.state = .opened ∨ retained (s.person i) = retained new
  permit : new.bind Person.gatePermit = (s.person i).bind Person.gatePermit
  cabin : ∀ c, cabinOf new = some c → cabinOf (s.person i) = some c ∨ (s.cabin c).occupants < 8
  idle : s.muster.active = false → musterOf (s.person i) = .none → musterOf new = .none
  active : s.muster.active = true → (∀ p, s.person i = some p → (p.location = .aboard ↔ p.muster ≠ .none)) →
    ∀ p, new = some p → (p.location = .aboard ↔ p.muster ≠ .none)
  account : ∀ a, new.bind Person.account = some a →
    (∃ b, s.accountOf i = some b ∧ b.held = a.held ∧ b.unposted = a.unposted)
      ∨ (s.accountOf i = none ∧ a.held = 0 ∧ a.unposted = 0)
  closed : new.bind Person.account = none → ∀ a, s.accountOf i = some a → a.held = 0 ∧ a.unposted = 0

/-- A change of an account within the ranges of its amounts, its limits standing. -/
def KeepsRanges (f : Account → Account) : Prop :=
  ∀ a, (f a).creditLimit = a.creditLimit ∧ (f a).dailyLimit = a.dailyLimit
    ∧ (balanceInRange a.posted = true ∧ a.spentToday ≤ maxBalance →
        balanceInRange (f a).posted = true ∧ (f a).spentToday ≤ maxBalance)

/-- What is known of a command beforehand: whether it may make the store OPEN, and whether the tables of lanes and of slots are
canonical where it begins, so that a lane or a slot written is the one read afterwards. -/
structure Setting where
  opens : Prop
  lanes : Prop
  slots : Prop

/-- The requests that wait, and the replies that wait, on both links. -/
def State.queues (s : State) : (List Frame × List HostReply) × List Frame × List StationReply :=
  ((s.host.port.requests, s.host.replies), s.station.port.requests, s.station.replies)

/-- One change, of the kinds of which commands are made. -/
inductive Change (c : Setting) : State → State → Prop
  /-- Links, notices, clock and registers; no request or reply joins or leaves a queue. -/
  | aside {s t : State} (h : Aside s t) (queues : t.queues = s.queues) : Change c s t
  /-- A station entry is set; a lane's names one of the four lanes. -/
  | station {s : State} (a : Nat) (e : Station) (bound : e.kind = .lane → ∀ l, e.binding = some l → l < 4) :
      Change c s { s with stations := s.stations.write Station.reset a e }
  /-- A lane changes but for its queue of permits. -/
  | lane {s : State} (l : Nat) (v : Lane) (hl : l < 4)
      (permits : c.lanes → v.permits = (s.lane l).permits) : Change c s (s.putLane l v)
  /-- Permits leave a lane's queue, with the gate permit fields of their persons. -/
  | remove {s : State} (l : Nat) (gone : Permit → Bool) (hl : l < 4) : Change c s (s.removePermits l gone)
  /-- A permit is granted. -/
  | grant {s : State} (l i : Nat) (p : Person) (hl : s.PermitsHeldBack → l < 4) (idle : s.muster.active = false)
      (opened : s.store.state = .opened) (record : s.person i = some p) (without : p.gatePermit = none)
      (room : (s.lane l).permits.length < 2) : Change c s (s.grantPermit l i p)
  /-- A permit of nobody is consumed. -/
  | stray {s : State} (l : Nat) (d : Direction) (permit : Permit) (hl : l < 4)
      (first : c.lanes → (s.lane l).permits.find? (fun p => decide (p.direction = d)) = some permit)
      (nobody : s.person permit.person = none) :
      Change c s (s.putLane l { s.lane l with permits := consume d (s.lane l).permits })
  /-- A permit is consumed, and its person moved. -/
  | passage {s : State} (l : Nat) (d : Direction) (permit : Permit) (p : Person) (target : Location) (hl : l < 4)
      (first : c.lanes → (s.lane l).permits.find? (fun p => decide (p.direction = d)) = some permit)
      (record : s.person permit.person = some p) :
      Change c s ((s.putLane l { s.lane l with permits := consume d (s.lane l).permits }).changePerson permit.person
        (some { p with location := target, gatePermit := none }))
  /-- A cabin changes but for its condition, sweep state and occupant count. -/
  | cabin {s : State} (k : Nat) (v : Cabin) (same : v.configured = (s.cabin k).configured ∧ v.sweep = (s.cabin k).sweep
      ∧ v.occupants = (s.cabin k).occupants) : Change c s (s.putCabin k v)
  /-- An UNSWEPT cabin is swept. -/
  | sweep {s : State} (k : Nat) (unswept : (s.cabin k).sweep = .unswept) :
      Change c s { s.putCabin k { s.cabin k with sweep := .swept } with
        muster := { s.muster with unswept := s.muster.unswept - 1 } }
  /-- A cabin is configured. -/
  | configure {s : State} (k : Nat) (unserved : (s.cabin k).configured = false) :
      Change c s { s.putCabin k ((s.cabin k).configure s.muster.active) with
        muster := { s.muster with unswept := if s.muster.active then s.muster.unswept + 1 else s.muster.unswept } }
  /-- A cabin is made unconfigured, no muster being ACTIVE. -/
  | unconfigure {s : State} (k : Nat) (idle : s.muster.active = false) :
      Change c s (s.putCabin k (s.cabin k).unconfigure)
  /-- One record is replaced. -/
  | person {s : State} (i : Nat) (new : Option Person) (fits : s.Fits i new) : Change c s (s.changePerson i new)
  /-- Holds, journal entries and an account change together. -/
  | ledger {s : State} (slots : Table Slot) (journal : List Entry) (i : Nat) (f : Account → Account)
      (canonical : s.slots.wf Slot.reset → slots.wf Slot.reset)
      (capacity : s.journal.length ≤ 1024 → journal.length ≤ 1024) (ranges : KeepsRanges f)
      (agrees : c.slots → s.AccountsAgree → ({ s with slots, journal }.changeAccount i f).AccountsAgree) :
      Change c s ({ s with slots, journal }.changeAccount i f)
  /-- The arrival flags of holds change. -/
  | arrivals {s : State} (f : Slot → Slot) (unlisted : f Slot.reset = Slot.reset)
      (same : ∀ k, (f k).hold.map (fun h => (h.person, h.amount)) = k.hold.map fun h => (h.person, h.amount)) :
      Change c s { s with slots := s.slots.mapRecords Slot.reset f }
  /-- A muster starts, and every permit is cancelled. -/
  | muster {s : State} (id : Nat) (idle : s.muster.active = false) (opened : s.store.state = .opened) :
      Change c s ({ s with
        persons := s.persons.mapRecords none (Option.map Person.atMusterStart)
        cabins := s.cabins.mapRecords Cabin.reset Cabin.atMusterStart
        muster := { active := true, id, points := [], unrecorded := 0, unmustered := s.aboardCount
                    unswept := s.configuredCount } } : State).cancelAllPermits
  /-- A muster ends; the blocks of the MUSTERED are dirty, where they may be. -/
  | dismiss {s : State} (opened : s.store.state = .opened)
      (marked : ∀ i p, s.person i = some p → p.muster.isMustered = true →
        blockOf i ∈ s.store.dirty ∨ s.store.isFailed (blockOf i) = true) :
      Change c s { s with
        persons := s.persons.mapRecords none (Option.map Person.atMusterEnd)
        cabins := s.cabins.mapRecords Cabin.reset Cabin.atMusterEnd
        muster := { active := false, id := s.muster.id, points := [], unrecorded := 0, unmustered := 0, unswept := 0 } }
  /-- A block is marked dirty, the store not being CLOSED. -/
  | mark {s : State} (b : Nat) (hb : (∀ e ∈ s.persons, e.1 < 8192) → b ≤ 128) (unclosed : s.store.state ≠ .closed) :
      Change c s { s with store := s.store.markWhen true b }
  /-- The writer's turn. -/
  | turn {s : State} (waits : Bool) : Change c s (s.turnAs waits)
  /-- The store begins CLOSING, and every permit is cancelled. -/
  | closing {s : State} (now : Nat) :
      Change c s ({ s with store := { s.store with state := .closing, assertedAt := now } } : State).cancelAllPermits
  /-- The power-fail input is released while the store is not OPEN. -/
  | released {s : State} (state : StoreState) (may : c.opens) (unopened : s.store.state ≠ .opened)
      (after : state ≠ .closed ∧ state ≠ .closing) : Change c s { s with store := s.store.released state }
  /-- A write completes. -/
  | completed {s : State} (f : Flight) (agrees : Bool) (may : c.opens) (inFlight : s.store.inFlight = some f) :
      Change c s { s with store := s.store.completed f agrees }
  /-- Start-up ends. -/
  | started {s : State} (may : c.opens) : Change c s { s with store := { s.store with state := .opened } }

/-- A chain of changes. -/
abbrev Path (c : Setting) : State → State → Prop := Relation.ReflTransGen (Change c)

/-- A change, or one in which a link takes or loses frames and replies, within its capacities. -/
inductive Move (c : Setting) : State → State → Prop
  | act {s t : State} (h : Change c s t) : Move c s t
  | link {s t : State} (h : Aside s t) : Move c s t

/-- What a command other than a reset does. -/
abbrev Course (c : Setting) : State → State → Prop := Relation.ReflTransGen (Move c)

/-- What every change keeps, and every change aside, is kept along a course. -/
theorem Course.keeps {c : Setting} {P : State → Prop} (hc : ∀ s t, Change c s t → P s → P t)
    (ha : ∀ s t, Aside s t → P s → P t) {s t : State} (h : Course c s t) (hs : P s) : P t := by
  induction h with
  | refl => exact hs
  | tail _ hm ih =>
    cases hm with
    | act h => exact hc _ _ h ih
    | link h => exact ha _ _ h ih

theorem Path.course {c : Setting} {s t : State} (h : Path c s t) : Course c s t :=
  Relation.ReflTransGen.mono (fun _ _ => Move.act) _ _ h

/-! ### Chains, one operation at a time -/

section Chains

variable {c : Setting} {s t u : State}

theorem Path.none : Path c s s := .refl

theorem Path.one (h : Change c s t) : Path c s t := .single h

theorem Path.next (h : Path c s t) (h' : Change c t u) : Path c s u := .tail h h'

theorem Path.then (h : Path c s t) (h' : Path c t u) : Path c s u := .trans h h'

theorem Path.aside (h : Path c s t) (ha : Aside t u) (queues : u.queues = t.queues) : Path c s u :=
  h.tail (.aside ha queues)

theorem Path.raiseWhen (h : Path c s t) (b : Bool) (m : MemberId) (d : Nat) : Path c s (t.raiseWhen b m d) :=
  h.aside (.raiseWhen t b m d) rfl

theorem Path.raise (h : Path c s t) (m : MemberId) (d : Nat) : Path c s (t.raise m d) := h.raiseWhen true m d

theorem Path.writerTurn (h : Path c s t) : Path c s t.writerTurn := h.tail (.turn _)

theorem Path.advanceTo (h : Path c s t) (due : Nat) : Path c s (t.advanceTo due) :=
  h.aside (.registers rfl (Nat.le_max_left _ _) le_rfl) rfl

theorem Path.cancelling (h : Path c s t) (now : Nat) : Path c s
    ({ t with store := { t.store with state := .closing, assertedAt := now } } : State).cancelAllPermits :=
  h.tail (.closing now)

end Chains

end Sys2Proof.Machine
end

section
/-!
PROOFS. Accounts, holds and journal entries that change together (R103, R113): what each operation of the charge unit does to
an account, and that the totals follow.
-/

namespace Sys2Proof.Machine

variable {s : State}

/-! ### The account at an index -/

/-- What a change of an account leaves at every index. -/
theorem State.accountOf_changeAccount (h : s.persons.wf none) (i : Nat) (f : Account → Account) (j : Nat) :
    (s.changeAccount i f).accountOf j = if j = i then (s.accountOf j).map f else s.accountOf j := by
  unfold State.accountOf
  rw [AccountChanged.of_changeAccount h i f j]
  split
  · cases s.person j <;> rfl
  · rfl

theorem State.wf_changeAccount (h : s.persons.wf none) (i : Nat) (f : Account → Account) :
    (s.changeAccount i f).persons.wf none := by
  unfold State.changeAccount
  split
  · exact h
  · split
    · exact h
    · exact State.wf_changePerson h _ _

/-- The holds and the journal may be set before an account changes, or after. -/
theorem State.changeAccount_ledger (slots : Table Slot) (journal : List Entry) (i : Nat) (f : Account → Account) :
    ({ s with slots, journal } : State).changeAccount i f = { s.changeAccount i f with slots, journal } := by
  have hp : ({ s with slots, journal } : State).person i = s.person i := rfl
  unfold State.changeAccount
  rw [hp]
  cases s.person i with
  | none => rfl
  | some p => cases h : p.account with
    | none => simp only [h]
    | some a => simp only [h]; rfl

/-! ### The totals -/

/-- The total of an entry, where it is a person's. -/
def Entry.unpostedFor (i : Nat) (e : Entry) : Nat := if e.person = i then e.amounts.total else 0

theorem State.unpostedAmounts_eq (s : State) (i : Nat) : s.unpostedAmounts i = (s.journal.map (Entry.unpostedFor i)).sum := rfl

/-- The accounts agree after a change of one of them that follows the holds and the journal. -/
theorem State.AccountsAgree.ledger (h : s.AccountsAgree) {slots : Table Slot} {journal : List Entry} {i : Nat}
    {f : Account → Account} (canonical : slots.wf Slot.reset)
    (held : ∀ j a, s.accountOf j = some a →
      Table.total (Slot.heldFor j) slots = if j = i then (f a).held else s.heldAmounts j)
    (unposted : ∀ j a, s.accountOf j = some a →
      (journal.map (Entry.unpostedFor j)).sum = if j = i then (f a).unposted else s.unpostedAmounts j)
    (holds : ∀ k h, (slots.read Slot.reset k).hold = some h → 0 < h.amount ∧ (s.accountOf h.person).isSome)
    (entries : ∀ e ∈ journal, 0 < e.amounts.total → (s.accountOf e.person).isSome) :
    ({ s with slots, journal }.changeAccount i f).AccountsAgree := by
  have accountOf := State.accountOf_changeAccount h.persons i f
  have isSome : ∀ j, ((s.changeAccount i f).accountOf j).isSome = (s.accountOf j).isSome := fun j => by
    rw [accountOf]; split <;> simp
  have of_account : ∀ j a, (s.changeAccount i f).accountOf j = some a →
      ∃ b, s.accountOf j = some b ∧ a = if j = i then f b else b := fun j a ha => by
    rw [accountOf] at ha
    split
    · rw [if_pos ‹_›, Option.map_eq_some_iff] at ha
      obtain ⟨b, hb, rfl⟩ := ha
      exact ⟨b, hb, rfl⟩
    · rw [if_neg ‹_›] at ha
      exact ⟨a, ha, rfl⟩
  rw [State.changeAccount_ledger]
  refine ⟨State.wf_changeAccount h.persons i f, canonical, fun j a ha => ?_, fun j a ha => ?_, fun k hold hk => ?_,
    fun e he ht => ?_⟩
  · obtain ⟨b, hb, rfl⟩ := of_account j a ha
    refine Eq.trans ?_ (held j b hb).symm
    split
    · rfl
    · exact h.held j b hb
  · obtain ⟨b, hb, rfl⟩ := of_account j a ha
    refine Eq.trans ?_ (unposted j b hb).symm
    split
    · rfl
    · exact h.unposted j b hb
  · exact (holds k hold hk).imp_right fun ho => (isSome _).trans ho
  · exact (isSome _).trans (entries e he ht)

/-- The total of a person's holds after a write of one slot. -/
theorem State.heldFor_write (h : s.slots.wf Slot.reset) (k : Nat) (v : Slot) (i : Nat) :
    Table.total (Slot.heldFor i) (s.slots.write Slot.reset k v) + Slot.heldFor i (s.slot k)
      = s.heldAmounts i + Slot.heldFor i v := Table.total_write h rfl k v

theorem Slot.heldFor_none {k : Slot} (h : k.hold = none) (i : Nat) : k.heldFor i = 0 := by simp [Slot.heldFor, h]

theorem Slot.heldFor_some {k : Slot} {h : Hold} (hk : k.hold = some h) (i : Nat) :
    k.heldFor i = if h.person = i then h.amount else 0 := by simp [Slot.heldFor, hk]

/-- A slot's amount is part of its person's total. -/
theorem State.heldFor_le (i k : Nat) : Slot.heldFor i (s.slot k) ≤ s.heldAmounts i :=
  Table.le_total (d := Slot.reset) rfl k

/-- A hold of a slot that a write has left. -/
theorem State.hold_of_write {k j : Nat} {v : Slot} {h : Hold} (hw : s.slots.wf Slot.reset)
    (hj : ((s.slots.write Slot.reset k v).read Slot.reset j).hold = some h) :
    v.hold = some h ∨ (s.slot j).hold = some h := by
  rw [Table.read_write hw] at hj
  split at hj
  · exact .inl hj
  · exact .inr hj

/-! ### The operations of the charge unit -/

/-- A hold is freed (R108, R111). -/
theorem State.AccountsAgree.freeHold (h : s.AccountsAgree) {k : Nat} {hold : Hold} (hk : (s.slot k).hold = some hold) :
    (s.freeHold k hold).AccountsAgree := by
  refine h.ledger (Table.wf_write h.slots _ _) (fun j a ha => ?_) (fun j a ha => ?_) (fun j g hj => ?_) h.entryOwner
  · have hw := State.heldFor_write h.slots k { s.slot k with hold := none } j
    rw [Slot.heldFor_some hk, Slot.heldFor_none rfl] at hw
    by_cases hj : j = hold.person
    · rw [if_pos hj]; rw [if_pos hj.symm] at hw
      have := h.held j a ha
      dsimp only at hw ⊢
      omega
    · rw [if_neg hj]; rw [if_neg (Ne.symm hj)] at hw
      omega
  · split
    · exact (h.unposted j a ha).symm
    · rfl
  · rcases State.hold_of_write h.slots hj with hn | hj
    · cases hn
    · exact h.holdOwner j g hj

/-- A hold is opened in a FREE slot for a person with an account (R105). -/
theorem State.AccountsAgree.openHold (h : s.AccountsAgree) {k : Nat} {tag : BitVec 8} {hold : Hold}
    (hk : (s.slot k).hold = none) (hamount : 0 < hold.amount) (howner : (s.accountOf hold.person).isSome) :
    ((s.putSlot k { tag, hold := some hold }).changeAccount hold.person
      fun a => { a with held := a.held + hold.amount }).AccountsAgree := by
  refine h.ledger (Table.wf_write h.slots _ _) (fun j a ha => ?_) (fun j a ha => ?_) (fun j g hj => ?_) h.entryOwner
  · have hw := State.heldFor_write h.slots k { tag, hold := some hold } j
    rw [Slot.heldFor_some (k := { tag, hold := some hold }) rfl, Slot.heldFor_none hk] at hw
    have := h.held j a ha
    by_cases hj : j = hold.person
    · rw [if_pos hj]; rw [if_pos hj.symm] at hw
      dsimp only
      omega
    · rw [if_neg hj]; rw [if_neg (Ne.symm hj)] at hw
      omega
  · split
    · exact (h.unposted j a ha).symm
    · rfl
  · rcases State.hold_of_write h.slots hj with hn | hj
    · cases hn
      exact ⟨hamount, howner⟩
    · exact h.holdOwner j g hj

/-- An entry is appended for a person with an account, and an amount of the slots' holds is no longer held (R101, R107,
R115). -/
theorem State.AccountsAgree.captured (h : s.AccountsAgree) {slots : Table Slot} {e : Entry} {freed : Nat}
    (howner : (s.accountOf e.person).isSome) (canonical : slots.wf Slot.reset)
    (held : ∀ j, Table.total (Slot.heldFor j) slots + (if j = e.person then freed else 0) = s.heldAmounts j)
    (holds : ∀ k h, (slots.read Slot.reset k).hold = some h → ∃ j, (s.slot j).hold = some h) :
    ({ s with slots, journal := s.journal ++ [e] }.changeAccount e.person
      fun a => a.captured e.day e.amounts.total freed).AccountsAgree := by
  refine h.ledger canonical (fun j a ha => ?_) (fun j a ha => ?_) (fun k g hk => ?_) fun x hx ht => ?_
  · have hj := held j
    have := h.held j a ha
    split at hj
    · rw [if_pos ‹_›]; simp only [Account.captured]; omega
    · rw [if_neg ‹_›]; omega
  · have := h.unposted j a ha
    rw [State.unpostedAmounts_eq] at this ⊢
    rw [List.map_append, List.sum_append]
    by_cases hj : j = e.person
    · rw [if_pos hj]; simp [Entry.unpostedFor, hj, Account.captured, this]
    · rw [if_neg hj]; simp [Entry.unpostedFor, Ne.symm hj]
  · obtain ⟨j, hj⟩ := holds k g hk
    exact h.holdOwner j g hj
  · rcases List.mem_append.mp hx with hx | hx
    · exact h.entryOwner x hx ht
    · exact List.mem_singleton.mp hx ▸ howner

/-- An entry is taken out of the journal, and its total out of its person's unposted total (R117, R121). -/
theorem State.AccountsAgree.withdrawn (h : s.AccountsAgree) {before after : List Entry} {e : Entry}
    {f : Account → Account} (hj : s.journal = before ++ e :: after)
    (hf : ∀ a, (f a).held = a.held ∧ (f a).unposted = a.unposted - e.amounts.total) :
    ({ s with journal := before ++ after }.changeAccount e.person f).AccountsAgree := by
  refine h.ledger h.slots (fun j a ha => ?_) (fun j a ha => ?_) h.holdOwner fun x hx => ?_
  · have := h.held j a ha
    rw [(hf a).1]
    split
    · exact this.symm
    · rfl
  · have := h.unposted j a ha
    rw [(hf a).2, this, State.unpostedAmounts_eq, hj]
    simp only [List.map_append, List.map_cons, List.sum_append, List.sum_cons]
    by_cases hi : j = e.person
    · rw [if_pos hi, show e.unpostedFor j = e.amounts.total by simp [Entry.unpostedFor, hi]]; omega
    · rw [if_neg hi, show e.unpostedFor j = 0 by simp [Entry.unpostedFor, Ne.symm hi]]; omega
  · refine h.entryOwner x (hj ▸ ?_)
    simp only [List.mem_append, List.mem_cons] at hx ⊢
    tauto

/-- The entry that a search finds is the one that an erasure takes. -/
theorem eraseP_eq_of_find? {α : Type} {p : α → Bool} {l : List α} {a : α} (h : l.find? p = some a) :
    ∃ before after, l = before ++ a :: after ∧ l.eraseP p = before ++ after := by
  obtain ⟨ha, before, after, rfl, hb⟩ := List.find?_eq_some_iff_append.mp h
  refine ⟨before, after, rfl, ?_⟩
  have none : ∀ x ∈ before, ¬ p x = true := fun x hx => by simpa using hb x hx
  rw [List.eraseP_append_right _ none, List.eraseP_cons_of_pos ha]

/-! ### The ranges of an account's amounts (R8) -/

theorem keepsRanges_held (g : Account → Nat) : KeepsRanges fun a => { a with held := g a } :=
  fun _ => ⟨rfl, rfl, id⟩

theorem keepsRanges_captured (day total freed : Nat) : KeepsRanges fun a => a.captured day total freed :=
  fun _ => ⟨rfl, rfl, fun h => ⟨h.1, Nat.min_le_right _ _⟩⟩

theorem keepsRanges_voided (e : Entry) : KeepsRanges fun a => a.voided e := by
  refine fun a => ⟨rfl, rfl, fun h => ⟨h.1, ?_⟩⟩
  have := h.2
  simp only [Account.voided]
  split
  · exact (Nat.sub_le _ _).trans this
  · exact this

theorem balanceInRange_iff {z : Int} : balanceInRange z = true ↔ -99999999 ≤ z ∧ z ≤ 99999999 := by
  rw [balanceInRange, Bool.and_eq_true, decide_eq_true_iff, decide_eq_true_iff]
  rfl

theorem keepsRanges_afterPost (total : Nat) : KeepsRanges fun a => a.afterPost total := by
  refine fun a => ⟨rfl, rfl, fun ⟨hposted, hspent⟩ => ⟨?_, hspent⟩⟩
  obtain ⟨hlow, hhigh⟩ := balanceInRange_iff.mp hposted
  refine balanceInRange_iff.mpr ⟨?_, Int.min_le_right _ _⟩
  change -99999999 ≤ min (a.posted + total) 99999999
  omega

end Sys2Proof.Machine
end

section
/-!
PROOFS. The acts of the units that change person records, accounts and holds, as chains of changes.
-/

namespace Sys2Proof.Machine

variable {c : Setting} {s : State}

/-! ### A record with another account, location or muster state -/

/-- An account whose held and unposted totals stand, within its ranges, fits where there was one (R17, R18). -/
theorem State.Fits.account_replaced {i : Nat} {p : Person} {a b : Account} (hp : s.person i = some p)
    (ha : p.account = some a) (hheld : b.held = a.held) (hunposted : b.unposted = a.unposted)
    (hranges : p.WellFormed → (b.creditLimit ≤ maxLimit ∧ ∀ d, b.dailyLimit = some d → d ≤ maxLimit)
      ∧ balanceInRange b.posted = true ∧ b.spentToday ≤ maxBalance) :
    s.Fits i (some { p with account := some b }) where
  index := .inl (by simp [hp])
  wellFormed h := by
    rintro _ ⟨⟩
    have hw := h p hp
    obtain ⟨hlimits, hamounts⟩ := hranges hw
    exact { hw with
      restored := fun hl => absurd (hw.restored hl).2.2.2 (by simp [ha])
      limits := by rintro _ ⟨⟩; exact hlimits
      amounts := by rintro _ ⟨⟩; exact hamounts }
  opened := .inr (by simp [hp, retained])
  permit := by simp [hp]
  cabin _ hc := .inl (by simpa [hp, cabinOf] using hc)
  idle _ hm := by simpa [hp, musterOf] using hm
  active _ h := by rintro _ ⟨⟩; exact h p hp
  account := by rintro _ ⟨⟩; exact .inl ⟨a, by simp [State.accountOf, hp, ha], hheld.symm, hunposted.symm⟩
  closed h := by simp at h

/-- A record fits with another generation, location and muster state, while the store is OPEN (R10, R15, R16, R130). -/
theorem State.Fits.moved {i : Nat} {p : Person} {g : BitVec 4} {l : Location} {m : MusterState} (hp : s.person i = some p)
    (hopen : s.store.state = .opened) (idle : s.muster.active = false → p.muster = .none → m = .none)
    (active : s.muster.active = true → (p.location = .aboard ↔ p.muster ≠ .none) → (l = .aboard ↔ m ≠ .none)) :
    s.Fits i (some { p with generation := g, location := l, muster := m }) where
  index := .inl (by simp [hp])
  wellFormed h := by
    rintro _ ⟨⟩
    exact { h p hp with }
  opened := .inl hopen
  permit := by simp [hp]
  cabin _ hc := .inl (by simpa [hp, cabinOf] using hc)
  idle hi hm := idle hi (by simpa [hp, musterOf] using hm)
  active ha h := by rintro _ ⟨⟩; exact active ha (h p hp)
  account a ha := .inl ⟨a, by simpa [State.accountOf, hp] using ha, rfl, rfl⟩
  closed h a ha := by
    have hn : p.account = none := by simpa using h
    simp [State.accountOf, hp, hn] at ha

/-- A person whom the host places during a muster is UNMUSTERED exactly when ABOARD (R15, R135). -/
theorem placedMuster_ne_none (l : Location) : l = .aboard ↔ placedMuster l ≠ .none := by
  cases l <;> simp [placedMuster]

/-! ### The host messages on person records -/

/-- What LOAD_PERSON is known to find where it is not refused (R11). -/
theorem loadRefusal_eq_none {q : LoadPerson} (h : loadRefusal s q = none) :
    s.store.state = .opened
      ∧ (q.account = none → ∀ a, s.accountOf q.index = some a → a.held = 0 ∧ a.unposted = 0)
      ∧ ∀ k, q.cabin = some k → cabinOf (s.person q.index) = some k ∨ (s.cabin k).occupants < 8 := by
  simp only [loadRefusal] at h
  by_cases hopen : s.store.state = .opened
  case neg => rw [if_pos hopen] at h; cases h
  rw [if_neg (not_not_intro hopen)] at h
  split at h
  · cases h
  rename_i hheld
  split at h
  · cases h
  rename_i hunposted
  refine ⟨hopen, fun hnone a ha => ?_, fun k hk => ?_⟩
  · rw [State.accountOf] at ha
    rw [ha] at hheld hunposted
    simpa [hnone] using And.intro hheld hunposted
  · simp only [hk] at h
    split at h
    · cases h
    · rename_i hfull
      by_cases hsame : cabinOf (s.person q.index) = some k
      · exact .inl hsame
      · exact .inr (by simpa [hsame] using hfull)

/-- The record that a load leaves is well formed (R6, R8, R11). -/
theorem loadedPerson_wellFormed {q : LoadPerson} (hq : q.valid = true) (active : Bool) {old : Option Person}
    (hold : ∀ p, old = some p → p.WellFormed) : (loadedPerson active old q).WellFormed := by
  simp only [LoadPerson.valid, Bool.and_eq_true, Bool.not_eq_true', Bool.and_eq_false_iff, decide_eq_true_eq,
    decide_eq_false_iff_not, Option.isSome_eq_false_iff, Option.isNone_iff_eq_none, ne_eq, not_not] at hq
  obtain ⟨⟨⟨⟨⟨⟨⟨⟨-, -⟩, hrights⟩, haccount⟩, hposted⟩, hvisitor⟩, hcrewRights⟩, hcrewSweep⟩, -⟩ := hq
  refine
    { restored := nofun
      visitor := fun h => hvisitor.resolve_right fun hn => hn h
      crewRights := fun h => hcrewRights.resolve_left fun hn => by simp [loadedPerson, hn] at h
      crewSweep := fun h => hcrewSweep.resolve_left fun hn => by simp [loadedPerson, hn] at h
      rights := fun r hr => ?_, limits := fun a ha => ?_, amounts := fun a ha => ?_ }
  · rw [show q.rights = some r from hr] at hrights
    simp only [Option.all_some, Bool.and_eq_true, decide_eq_true_eq] at hrights
    exact hrights.1
  all_goals
    change loadedAccount (old.bind Person.account) q.account q.posted = some a at ha
    obtain ⟨terms, hterms⟩ : ∃ terms, q.account = some terms := by
      cases hterms : q.account with
      | none => rw [hterms] at ha; cases ha
      | some terms => exact ⟨terms, rfl⟩
    rw [hterms] at ha haccount
    simp only [Option.all_some, AccountTerms.valid, Bool.and_eq_true, decide_eq_true_eq] at haccount
    have posted : ∀ z : Int, balanceInRange z = true → balanceInRange (q.posted.getD z) = true := fun z hz => by
      cases hp : q.posted with
      | none => exact hz
      | some y => rw [hp] at hposted; exact hposted
  · have limits : terms.creditLimit ≤ maxLimit ∧ ∀ d, terms.dailyLimit = some d → d ≤ maxLimit := by
      refine ⟨haccount.1, fun d hd => ?_⟩
      have := haccount.2
      rw [hd] at this
      simpa using this
    cases hacc : old.bind Person.account with
    | none => simp only [hacc, loadedAccount, Option.some.injEq] at ha; subst ha; exact limits
    | some b => simp only [hacc, loadedAccount, Option.some.injEq] at ha; subst ha; exact limits
  · cases hacc : old.bind Person.account with
    | none =>
      simp only [hacc, loadedAccount, Option.some.injEq] at ha
      subst ha
      exact ⟨posted 0 (by decide), Nat.zero_le _⟩
    | some b =>
      simp only [hacc, loadedAccount, Option.some.injEq] at ha
      subst ha
      obtain ⟨p, hp, hb⟩ := Option.bind_eq_some_iff.mp hacc
      have := (hold p hp).amounts b hb
      exact ⟨posted _ this.1, this.2⟩

theorem doLoadPerson_path {q : LoadPerson} (hq : q.valid = true) : Path c s (doLoadPerson q s).1 := by
  unfold doLoadPerson
  cases href : loadRefusal s q with
  | some r => exact Path.none
  | none =>
    obtain ⟨hopen, hcleared, hcabin⟩ := loadRefusal_eq_none href
    have hindex : q.index < 8192 := by
      simp only [LoadPerson.valid, Bool.and_eq_true, decide_eq_true_eq] at hq
      tauto
    refine Path.one (.person _ _
      { index := .inr hindex
        wellFormed := fun h p hp => by cases hp; exact loadedPerson_wellFormed hq _ h
        opened := .inl hopen, permit := rfl, cabin := hcabin
        idle := fun hi hm => ?_, active := fun ha h p hp => ?_, account := fun a ha => ?_, closed := fun hn => hcleared ?_ })
    · cases hp : s.person q.index with
      | none => simp [musterOf, loadedPerson, hi]
      | some p => simpa [musterOf, loadedPerson, hi, hp] using hm
    · cases hp
      cases hp : s.person q.index with
      | none => simpa [loadedPerson, ha] using placedMuster_ne_none _
      | some p =>
        simp only [loadedPerson, ha, true_and]
        split
        · exact placedMuster_ne_none _
        · rename_i hsame
          rw [not_not.mp hsame]
          exact h p hp
    · simp only [Option.bind_some, loadedPerson] at ha
      change loadedAccount (s.accountOf q.index) q.account q.posted = some a at ha
      cases hterms : q.account with
      | none => rw [hterms] at ha; cases ha
      | some t =>
        cases hacc : s.accountOf q.index with
        | none => simp only [hterms, hacc, loadedAccount, Option.some.injEq] at ha; subst ha; exact .inr ⟨rfl, rfl, rfl⟩
        | some b => simp only [hterms, hacc, loadedAccount, Option.some.injEq] at ha; subst ha; exact .inl ⟨b, rfl, rfl, rfl⟩
    · simp only [Option.bind_some, loadedPerson] at hn
      cases hterms : q.account with
      | none => rfl
      | some t =>
        rw [hterms] at hn
        cases hacc : (s.person q.index).bind Person.account <;> simp [hacc, loadedAccount] at hn

theorem doSetLocation_path (q : Nat × Location) : Path c s (doSetLocation q s).1 := by
  unfold doSetLocation
  split
  · exact Path.none
  · rename_i hopen
    cases hp : s.person q.1 with
    | none => exact Path.none
    | some p =>
      refine Path.one (.person _ _ (.moved hp (not_not.mp hopen) (fun hi hm => ?_) fun ha _ => ?_))
      · simpa [hi] using hm
      · simpa [ha] using placedMuster_ne_none q.2

theorem doReissueCard_path (i : Nat) : Path c s (doReissueCard i s).1 := by
  unfold doReissueCard
  split
  · exact Path.none
  · rename_i hopen
    cases hp : s.person i with
    | none => exact Path.none
    | some p => exact Path.one (.person _ _ (.moved hp (not_not.mp hopen) (fun _ => id) fun _ => id))

/-- The record and the account that a host message on accounts works on. -/
theorem accountFor_eq_ok {i : Nat} {p : Person} {a : Account} (h : accountFor s i = .ok (p, a)) :
    s.person i = some p ∧ p.loaded = true ∧ p.account = some a := by
  unfold accountFor at h
  cases hp : s.person i with
  | none => rw [hp] at h; cases h
  | some v =>
    simp only [hp] at h
    cases hl : v.loaded with
    | false => rw [hl] at h; cases h
    | true =>
      cases hacc : v.account with
      | none => simp only [hl, hacc] at h; cases h
      | some b => simp only [hl, hacc] at h; cases h; exact ⟨rfl, hl, hacc⟩

theorem doAdjustBalance_path (q : Nat × Int) : Path c s (doAdjustBalance q s).1 := by
  unfold doAdjustBalance
  cases hacc : accountFor s q.1 with
  | error r => exact Path.none
  | ok v =>
    obtain ⟨p, a⟩ := v
    obtain ⟨hp, -, ha⟩ := accountFor_eq_ok hacc
    dsimp only
    split
    · rename_i hrange
      exact Path.one (.person _ _ (.account_replaced hp ha rfl rfl fun hw =>
        ⟨hw.limits a ha, hrange, (hw.amounts a ha).2⟩))
    · exact Path.none

theorem doUpdateAccount_path {q : Nat × AccountTerms} (hq : q.2.valid = true) : Path c s (doUpdateAccount q s).1 := by
  unfold doUpdateAccount
  cases hacc : accountFor s q.1 with
  | error r => exact Path.none
  | ok v =>
    obtain ⟨p, a⟩ := v
    obtain ⟨hp, -, ha⟩ := accountFor_eq_ok hacc
    simp only [AccountTerms.valid, Bool.and_eq_true, decide_eq_true_eq] at hq
    refine Path.one (.person _ _ (.account_replaced hp ha rfl rfl fun hw =>
      ⟨⟨hq.1, fun d hd => ?_⟩, (hw.amounts a ha).1, (hw.amounts a ha).2⟩))
    have := hq.2
    rw [show q.2.dailyLimit = some d from hd] at this
    simpa using this

/-- What CLEAR_PERSON is known to find where it is not refused (R19). -/
theorem clearRefusal_eq_none {i : Nat} (h : clearRefusal s i = none) :
    s.store.state = .opened ∧ ∃ p, s.person i = some p ∧ p.location ≠ .aboard ∧ p.gatePermit = none
      ∧ ∀ a, p.account = some a → a.held = 0 ∧ a.unposted = 0 := by
  simp only [clearRefusal] at h
  by_cases hopen : s.store.state = .opened
  case neg => rw [if_pos hopen] at h; cases h
  rw [if_neg (not_not_intro hopen)] at h
  refine ⟨hopen, ?_⟩
  cases hp : s.person i with
  | none => rw [hp] at h; cases h
  | some p =>
    simp only [hp] at h
    split at h
    · cases h
    rename_i haboard
    split at h
    · cases h
    rename_i hpermit
    split at h
    · cases h
    rename_i hheld
    split at h
    · cases h
    rename_i hunposted
    refine ⟨p, rfl, haboard, by simpa using hpermit, fun a ha => ?_⟩
    rw [ha] at hheld hunposted
    simpa using And.intro hheld hunposted

theorem doClearPerson_path (i : Nat) : Path c s (doClearPerson i s).1 := by
  unfold doClearPerson
  cases href : clearRefusal s i with
  | some r => exact Path.none
  | none =>
    obtain ⟨hopen, p, hp, -, hpermit, haccount⟩ := clearRefusal_eq_none href
    exact Path.one (.person _ _
      { index := .inl (by simp [hp]), wellFormed := fun _ _ h => (nomatch h), opened := .inl hopen
        permit := by simp [hp, hpermit], cabin := fun _ h => (nomatch h), idle := fun _ _ => rfl
        active := fun _ _ _ h => (nomatch h), account := fun _ h => (nomatch h)
        closed := fun _ a ha => haccount a (by simpa [State.accountOf, hp] using ha) })

/-! ### Credits at a muster point -/

theorem creditPerson_path {i point : Nat} {p : Person} (hp : s.person i = some p) (hactive : s.muster.active = true)
    (hopen : s.store.state = .opened) : Path c s (creditPerson i point p s).1 := by
  have fits : s.Fits i (some { p with location := .aboard, muster := .mustered point }) :=
    .moved hp hopen (fun hi => by simp [hactive] at hi) fun _ _ => by simp
  unfold creditPerson
  split
  · rename_i haboard
    split
    · exact Path.none
    · have same : ({ p with muster := .mustered point } : Person) = { p with location := .aboard, muster := .mustered point } := by
        rw [← haboard]
      exact (Path.one (.person i _ (same ▸ fits))).raiseWhen _ _ _
  · exact (Path.one (.person i _ fits)).raise _ _

theorem doMusterPerson_path (q : Nat × Nat) : Path c s (doMusterPerson q s).1 := by
  unfold doMusterPerson
  split
  · exact Path.none
  · rename_i hactive
    split
    · exact Path.none
    · rename_i hopen
      cases hp : s.person q.1 with
      | none => exact Path.none
      | some p => exact creditPerson_path hp (by simpa using hactive) (not_not.mp hopen)

theorem afterDecodeFailure_path (reason : Result) (i : Nat) : Path c s (s.afterDecodeFailure reason i) :=
  Path.none.raiseWhen _ _ _

theorem doMusterTap_path (card : Card) (point : Nat) : Path c s (doMusterTap card point s).1 := by
  unfold doMusterTap
  split
  · exact Path.none
  · rename_i hactive
    split
    · exact Path.none
    · rename_i hopen
      cases hd : s.decodeCard card with
      | failed reason i => exact afterDecodeFailure_path reason i
      | passed i p =>
        exact creditPerson_path (State.person_of_passed hd) (by simpa using hactive) (not_not.mp hopen)

/-! ### Holds and the journal -/

theorem State.freeHold_path {k : Nat} {h : Hold} (hk : c.slots → (s.slot k).hold = some h) : Path c s (s.freeHold k h) :=
  Path.one (.ledger (s.slots.write Slot.reset k { s.slot k with hold := none }) s.journal h.person _
    (fun hw => Table.wf_write hw _ _) id (keepsRanges_held _) fun hc ha => ha.freeHold (hk hc))

theorem State.expireHold_path {k : Nat} {h : Hold} (hk : c.slots → (s.slot k).hold = some h) : Path c s (s.expireHold k h) :=
  (State.freeHold_path hk).raise _ _

theorem doReleaseHold_path (q : Nat × BitVec 8) : Path c s (doReleaseHold q s).1 := by
  unfold doReleaseHold
  cases hh : s.holdAt q.1 q.2 with
  | none => exact Path.none
  | some h =>
    refine State.freeHold_path fun _ => ?_
    simp only [State.holdAt, Option.ite_none_right_eq_some] at hh
    exact hh.2

/-- The account that the account test finds (R96). -/
theorem accountTest_eq_ok {p : Person} {a : Account} (h : accountTest p = .ok a) : p.account = some a := by
  unfold accountTest at h
  cases hacc : p.account with
  | none => rw [hacc] at h; cases h
  | some b =>
    simp only [hacc] at h
    split at h <;> cases h
    rfl

theorem grantTab_path {q : OpenTab} {outlet i k : Nat} {a : Account} (hk : (s.slot k).hold = none) (hq : 0 < q.amount)
    (hi : (s.accountOf i).isSome) : Path c s (grantTab q outlet i k a s).1 :=
  Path.one (.ledger (s.slots.write Slot.reset k ⟨(s.slot k).tag + 1, some (s.newHold q outlet i)⟩) s.journal i _
    (fun hw => Table.wf_write hw _ _) id (keepsRanges_held _)
    fun _ ha => ha.openHold (hold := s.newHold q outlet i) hk hq hi)

theorem State.freeSlot_hold {k : Nat} (h : s.freeSlot = some k) : (s.slot k).hold = none := by
  simpa using List.find?_some h

theorem doOpenTab_path {q : OpenTab} (hq : 0 < q.amount) (outlet : Nat) : Path c s (doOpenTab q outlet s).1 := by
  unfold doOpenTab
  split
  · exact Path.none
  · cases hd : s.decodeCard q.card with
    | failed reason i => exact afterDecodeFailure_path reason i
    | passed i p =>
      dsimp only [openTabFor]
      cases hacc : accountTest p with
      | error reason => exact Path.none
      | ok a =>
        dsimp only
        split
        · exact Path.none
        · cases hk : s.freeSlot with
          | none => exact Path.none
          | some k =>
            refine grantTab_path (State.freeSlot_hold hk) hq ?_
            simp [State.accountOf, State.person_of_passed hd, accountTest_eq_ok hacc]

/-- A capture appends its entry, where the journal has room. -/
theorem State.capture_path {slots : Table Slot} {e : Entry} {freed : Nat} (hroom : s.journalIsFull = false)
    (canonical : s.slots.wf Slot.reset → slots.wf Slot.reset)
    (agrees : s.AccountsAgree → ({ s with slots, journal := s.journal ++ [e] }.changeAccount e.person
      fun a => a.captured e.day e.amounts.total freed).AccountsAgree) :
    Path c s (({ s with slots } : State).capture e freed) := by
  have hlen : s.journal.length < 1024 := by simpa [State.journalIsFull] using hroom
  have ledger : Path c s _ := Path.one (.ledger slots (s.journal ++ [e]) e.person _ canonical
    (fun _ => by rw [List.length_append]; exact hlen) (keepsRanges_captured e.day e.amounts.total freed) fun _ => agrees)
  rw [State.changeAccount_ledger] at ledger
  have numbered := ledger.aside (u := { s.changeAccount e.person (fun a => a.captured e.day e.amounts.total freed) with
    slots, journal := s.journal ++ [e], nextCharge := chargeAfter s.nextCharge }) (.registers rfl le_rfl le_rfl) rfl
  refine Eq.mp (congrArg (Path c s) ?_) (numbered.raiseWhen (s.journal.isEmpty && s.allowance == 0)
    MemberId.chargeWaiting e.person)
  have := State.changeAccount_ledger (s := s) slots s.journal e.person fun a => a.captured e.day e.amounts.total freed
  rw [State.capture, show ({ s with slots } : State) = { s with slots, journal := s.journal } from rfl, this]

theorem State.afterCaptureRefusal_path (reason : Result) (outlet : Nat) :
    Path c s (s.afterCaptureRefusal reason outlet) :=
  ((Path.none (s := s)).aside (u := { s with journalFullReported := s.journalFullReported || reason == .journalFull })
    (.registers rfl le_rfl le_rfl) rfl).raiseWhen _ _ _

theorem captureRefusal_eq_none {outlet : Nat} {a : Account} {ls : List Line} {total increase : Nat}
    (h : captureRefusal s outlet a ls total increase = none) : s.journalIsFull = false := by
  unfold captureRefusal at h
  split at h
  · cases h
  · split at h
    · cases h
    · simpa using ‹¬ s.journalIsFull = true›

theorem doBarSale_path (q : Sale) (outlet : Nat) : Path c s (doBarSale q outlet s).1 := by
  unfold doBarSale
  dsimp only
  split
  · exact Path.none
  · cases hd : s.decodeCard q.card with
    | failed reason i => exact afterDecodeFailure_path reason i
    | passed i p =>
      dsimp only [sellTo]
      cases hacc : accountTest p with
      | error reason => exact Path.none
      | ok a =>
        dsimp only
        split
        · exact State.afterCaptureRefusal_path _ _
        · rename_i href
          have howner : (s.accountOf i).isSome := by
            simp [State.accountOf, State.person_of_passed hd, accountTest_eq_ok hacc]
          exact State.capture_path (slots := s.slots) (captureRefusal_eq_none href) id
            fun h => h.captured howner h.slots (fun j => by rw [ite_self]; rfl) fun k _ hk => ⟨k, hk⟩

/-- The account and the generation that the test of a hold's person finds (R106). -/
theorem holderTest_eq_ok {h : Hold} {g : BitVec 4} {a : Account} (ht : holderTest s h = .ok (g, a)) :
    ∃ p, s.person h.person = some p ∧ p.generation = g ∧ p.account = some a ∧ accountTest p = .ok a := by
  unfold holderTest at ht
  cases hp : s.person h.person with
  | none => rw [hp] at ht; cases ht
  | some p =>
    simp only [hp] at ht
    cases hacc : accountTest p with
    | error r => rw [hacc] at ht; cases ht
    | ok b =>
      rw [hacc] at ht
      cases ht
      exact ⟨p, rfl, rfl, accountTest_eq_ok hacc, hacc⟩

theorem doCloseTab_path (q : CloseTab) (outlet : Nat) : Path c s (doCloseTab q outlet s).1 := by
  unfold doCloseTab
  dsimp only
  split
  · exact Path.none
  · cases hh : s.holdAt q.slot q.tag with
    | none => exact Path.none
    | some h =>
      have hk : (s.slot q.slot).hold = some h := by
        simp only [State.holdAt, Option.ite_none_right_eq_some] at hh
        exact hh.2
      dsimp only [closeHold]
      split
      · exact Path.none
      · cases hacc : holderTest s h with
        | error reason => exact Path.none
        | ok v =>
          obtain ⟨g, a⟩ := v
          obtain ⟨p, hp, -, ha, -⟩ := holderTest_eq_ok hacc
          dsimp only
          split
          · exact State.afterCaptureRefusal_path _ _
          · rename_i href
            refine State.capture_path (slots := s.slots.write Slot.reset q.slot { s.slot q.slot with hold := none })
              (captureRefusal_eq_none href) (fun hw => Table.wf_write hw _ _) fun hagree => ?_
            refine hagree.captured (by simp [State.entryOf, State.accountOf, hp, ha]) (Table.wf_write hagree.slots _ _)
              (fun j => ?_) fun k g hg => ?_
            · have hw := State.heldFor_write hagree.slots q.slot { s.slot q.slot with hold := none } j
              rw [Slot.heldFor_some hk, Slot.heldFor_none rfl] at hw
              simp only [State.entryOf, eq_comm (a := j)]
              exact hw
            · rcases State.hold_of_write hagree.slots hg with hn | hj
              · cases hn
              · exact ⟨k, hj⟩

theorem doBarVoid_path (q : VoidCharge) (outlet : Nat) : Path c s (doBarVoid q outlet s).1 := by
  unfold doBarVoid
  split
  · exact Path.none
  · cases hf : s.journal.find? fun e => e.charge == q.charge with
    | none => exact Path.none
    | some e =>
      dsimp only
      split
      · exact Path.none
      · have hcharge : e.charge = q.charge := by simpa using List.find?_some hf
        rw [← hcharge] at hf
        obtain ⟨before, after, hj, herase⟩ := eraseP_eq_of_find? hf
        have flagged : Path c s { s with journalFullReported := s.journalFullReported && !s.journalIsFull } :=
          Path.none.aside (.registers rfl le_rfl le_rfl) rfl
        have withdrawn := flagged.next (.ledger s.slots (s.journal.eraseP fun x => x.charge == e.charge) e.person
          (fun a => a.voided e) id (fun h => (List.length_eraseP_le).trans h) (keepsRanges_voided e) fun _ h => by
            rw [herase]; exact h.withdrawn hj fun a => ⟨rfl, rfl⟩)
        exact withdrawn.aside (.registers rfl le_rfl le_rfl) rfl

theorem State.post_path {e : Entry} (he : s.journal.head? = some e) : Path c s (s.post e) := by
  have hj : s.journal = [] ++ e :: s.journal.tail := by
    cases h : s.journal with
    | nil => rw [h] at he; cases he
    | cons x xs => rw [h] at he; cases he; rfl
  have lowered : Path c s { s with
      journalFullReported := s.journalFullReported && !s.journalIsFull, allowance := s.allowance - 1 } :=
    Path.none.aside
      { pending := rfl, persons := rfl, tally := rfl, stations := rfl, lanes := rfl, cabins := rfl, slots := rfl
        journal := rfl, muster := rfl, store := rfl, mono := le_rfl, day := le_rfl
        tidy := fun h => { h with }
        capacity := fun h => { h with allowance := (Nat.sub_le _ _).trans h.allowance }
        levels := fun h => { h with } } rfl
  have posted := lowered.next (.ledger s.slots s.journal.tail e.person (fun a => a.afterPost e.amounts.total) id
    (fun h => by rw [List.length_tail]; exact (Nat.sub_le _ _).trans h) (keepsRanges_afterPost _)
    fun _ h => h.withdrawn hj fun a => ⟨rfl, rfl⟩)
  exact (posted.raiseWhen _ _ _).raiseWhen _ _ _

end Sys2Proof.Machine
end

section
/-!
PROOFS. The acts of the other units, as chains of changes.
-/

namespace Sys2Proof.Machine

variable {c : Setting} {s : State}

/-! ### Registers and tables that stand alone -/

/-- A change of registers and of the clock. -/
theorem Path.registers {t : State} (h : { t with
      phase := s.phase, unitAddressPins := s.unitAddressPins, unitAddress := s.unitAddress
      powerFailLevel := s.powerFailLevel, clock := s.clock, tallySequence := s.tallySequence, deadline := s.deadline
      deadlineArrived := s.deadlineArrived, guestsReported := s.guestsReported, doorSettings := s.doorSettings
      nextCharge := s.nextCharge, journalFullReported := s.journalFullReported, freeIndex := s.freeIndex
      host := { t.host with
        sending := s.host.sending, started := s.host.started, takingStopped := s.host.takingStopped
        asleep := s.host.asleep, wake := s.host.wake }
      station := { t.station with sending := s.station.sending } } = s)
    (hmono : s.clock.mono ≤ t.clock.mono := by exact le_rfl)
    (hday : s.clock.currentDay ≤ t.clock.currentDay := by exact le_rfl) : Path c s t :=
  Path.none.aside (.registers h hmono hday) (congrArg State.queues h :)

/-- A change that leaves what the agreements read, the notices and the links. -/
theorem Path.tables {t : State} (h : { t with
      decoders := s.decoders, outlets := s.outlets, allowance := s.allowance, movementLog := s.movementLog
      discardCount := s.discardCount } = s)
    (tidy : s.Tidy → t.decoders.wf Decoder.reset ∧ t.outlets.wf Outlet.reset)
    (capacity : s.WithinCapacity → t.allowance ≤ 1024 ∧ t.movementLog.length ≤ 256 ∧ t.discardCount ≤ 255) :
    Path c s t :=
  Path.none.aside
    { pending := (congrArg State.pending h :), persons := (congrArg State.persons h :), tally := (congrArg State.tally h :)
      stations := (congrArg State.stations h :), lanes := (congrArg State.lanes h :), cabins := (congrArg State.cabins h :)
      slots := (congrArg State.slots h :), journal := (congrArg State.journal h :), muster := (congrArg State.muster h :)
      store := (congrArg State.store h :), mono := (congrArg (fun u : State => u.clock.mono) h :).ge
      day := (congrArg (fun u : State => u.clock.currentDay) h :).ge
      tidy := fun hs => by
        obtain ⟨hd, ho⟩ := tidy hs
        rw [← h] at hs
        exact { hs with decoders := hd, outlets := ho }
      capacity := fun hs => by
        obtain ⟨ha, hm, hc⟩ := capacity hs
        rw [← h] at hs
        exact { hs with allowance := ha, movements := hm, discards := hc }
      levels := fun hs => by rw [← h] at hs; exact { hs with } }
    (congrArg State.queues h :)

theorem doSetDecoder_path (q : Nat × Decoder) : Path c s (doSetDecoder q s).1 :=
  .tables rfl (fun h => ⟨Table.wf_write h.decoders _ _, h.outlets⟩) fun h => ⟨h.allowance, h.movements, h.discards⟩

theorem doConfigureOutlet_path (q : Nat × Outlet) : Path c s (doConfigureOutlet q s).1 :=
  .tables rfl (fun h => ⟨h.decoders, Table.wf_write h.outlets _ _⟩) fun h => ⟨h.allowance, h.movements, h.discards⟩

theorem doGrantPosting_path (n : Nat) : Path c s (doGrantPosting n s).1 :=
  .tables rfl (fun h => ⟨h.decoders, h.outlets⟩) fun h => ⟨Nat.min_le_right _ _, h.movements, h.discards⟩

theorem doReadMovements_path (n : Nat) : Path c s (doReadMovements n s).1 :=
  .tables rfl (fun h => ⟨h.decoders, h.outlets⟩) fun h =>
    ⟨h.allowance, by rw [doReadMovements, List.length_drop]; exact (Nat.sub_le _ _).trans h.movements, Nat.zero_le _⟩

theorem State.appendMovement_path (m : Movement) : Path c s (s.appendMovement m) := by
  have logged : Path c s { s with
      movementLog := if decide (256 ≤ s.movementLog.length) then s.movementLog else s.movementLog ++ [m]
      discardCount := if decide (256 ≤ s.movementLog.length) then min (s.discardCount + 1) 255 else s.discardCount } := by
    refine .tables rfl (fun h => ⟨h.decoders, h.outlets⟩) fun h => ⟨h.allowance, ?_, ?_⟩
    · dsimp only
      split
      · exact h.movements
      · rename_i hroom
        rw [List.length_append]
        simpa using hroom
    · dsimp only
      split
      · exact Nat.min_le_right _ _
      · exact h.discards
  exact (logged.raiseWhen _ _ _).raiseWhen _ _ _

theorem doSetDoorSettings_path (d : DoorSettings) : Path c s (doSetDoorSettings d s).1 := .registers rfl

theorem doHostSleep_path (u : Unit) : Path c s (doHostSleep u s).1 := .registers rfl

theorem doReset_path (u : Unit) : Path c s (doReset u s).1 := .registers rfl

theorem doConfigureStation_path {q : Nat × Station} (hq : q.2.valid = true) : Path c s (doConfigureStation q s).1 := by
  unfold doConfigureStation
  split
  · exact Path.none
  · refine Path.one (.station _ _ fun hk l hl => ?_)
    simpa [Station.valid, hk, hl] using hq

theorem doReadLinkCounters_path (clear : Bool) : Path c s (doReadLinkCounters clear s).1 :=
  Path.none.aside
    { pending := rfl, persons := rfl, tally := rfl, stations := rfl, lanes := rfl, cabins := rfl, slots := rfl
      journal := rfl, muster := rfl, store := rfl, mono := le_rfl, day := le_rfl, tidy := fun h => { h with }
      capacity := fun h => { h with
        hostErrors := by cases clear <;> simp [doReadLinkCounters, h.hostErrors]
        stationErrors := by cases clear <;> simp [doReadLinkCounters, h.stationErrors] }
      levels := fun h => { h with } } rfl

/-! ### The time unit -/

theorem Path.computeDay {t : State} (h : Path c s t) : Path c s t.computeDay := by
  refine h.then ((Path.registers rfl ?_ ?_).raiseWhen _ _ _)
  · cases t.clock.running <;> exact le_rfl
  · cases t.clock.running
    · exact le_rfl
    · exact Nat.le_max_left _ _

theorem Path.tellArrivals {t : State} (h : Path c s t) : Path c s t.tellArrivals := by
  have told : Path c t { t with
      slots := if t.muster.active then t.slots else t.slots.mapRecords Slot.reset (Slot.tell t.clock.shipTime) } := by
    cases t.muster.active
    · exact Path.one (.arrivals _ rfl fun k => by cases hk : k.hold <;> simp [Slot.tell, Hold.tell, hk])
    · exact Path.none
  exact (h.then told).then (.registers rfl)

theorem doSetClock_path (n : Nat) : Path c s (doSetClock n s).1 :=
  ((Path.registers rfl : Path c s { s with clock := { s.clock with
    running := true, shipTime := n, nextAdvance := s.clock.mono + 1000 } }).computeDay).tellArrivals

theorem doSetDayOffset_path (n : Nat) : Path c s (doSetDayOffset n s).1 :=
  (Path.registers rfl : Path c s { s with clock := { s.clock with dayOffset := min n 86399 } }).computeDay

theorem State.passDeadline_path : Path c s s.passDeadline :=
  (((Path.registers rfl : Path c s { s with
    deadline := .passed, deadlineArrived := false, guestsReported := s.tallyCount .guest .ashore == 0 }).raise
      _ _).raiseWhen _ _ _)

theorem doSetAllAboard_path (time : Option Nat) : Path c s (doSetAllAboard time s).1 := by
  unfold doSetAllAboard
  split
  · exact Path.none
  · cases time with
    | none => exact .registers rfl
    | some t =>
      dsimp only
      split
      · exact .registers rfl
      · exact State.passDeadline_path

/-! ### The notice unit -/

theorem doSetGroupLevel_path {q : Nat × Nat} (hq : q.2 ≤ 7) : Path c s (doSetGroupLevel q s).1 := by
  unfold doSetGroupLevel
  split
  · exact Path.none
  · rename_i hgroup
    have level : ∀ {l : Table Nat}, l.wf 0 → ∀ g, (l.write 0 q.1 q.2).read 0 g = if g = q.1 then q.2 else l.read 0 g :=
      fun hl g => Table.read_write hl _ _ _
    refine Path.none.aside (.notices s.host.wake (fun h => ⟨Table.wf_write h.levels _ _, h.groupsPending, h.members⟩)
      (.inr le_rfl) fun h => { h with
        table := Table.wf_write h.table _ _
        levels := fun g => (level h.table g).trans_le ?_
        alarm := (level h.table 0).trans ?_ }) rfl
    · split
      · exact hq
      · exact h.levels g
    · rw [if_neg (Ne.symm hgroup)]
      exact h.alarm

theorem State.LevelsInRange.putMember (h : s.LevelsInRange) (m : MemberId) {v : Member} (hv : v.count ≤ 255) :
    ({ s with notices := s.notices.putMember m v } : State).LevelsInRange :=
  { h with
    members := Table.wf_write h.members _ _
    counts := fun m' => by
      have hr : (s.notices.putMember m v).member m' = if m'.key = m.key then v else s.notices.member m' :=
        Table.read_write h.members _ _ _
      dsimp only
      rw [hr]
      split
      · exact hv
      · exact h.counts m' }

theorem doSetMemberEnable_path (q : Nat × Nat × Bool) : Path c s (doSetMemberEnable q s).1 :=
  Path.none.aside (.notices s.host.wake
    (fun h => ⟨h.levels, Table.wf_write h.groupsPending _ _, Table.wf_write h.members _ _⟩) (.inr le_rfl)
    fun h => { h.putMember ⟨q.1, q.2.1⟩ (v := { s.notices.member ⟨q.1, q.2.1⟩ with enable := q.2.2 }) (h.counts _) with }) rfl

theorem doAckNotice_path (q : Nat × Nat) : Path c s (doAckNotice q s).1 :=
  Path.none.aside (.notices s.host.wake (fun h => ⟨h.levels, h.groupsPending, Table.wf_write h.members _ _⟩)
    (.inr le_rfl) fun h => h.putMember _ (Nat.zero_le _)) rfl

theorem doSetServiceLevel_path {level : Nat} (hl : level < 8) : Path c s (doSetServiceLevel level s).1 :=
  Path.none.aside (.notices s.host.wake (fun h => ⟨h.levels, h.groupsPending, h.members⟩) (.inr le_rfl)
    fun h => { h with service := Nat.le_of_lt_succ hl }) rfl

theorem doNoticeDone_path (u : Unit) : Path c s (doNoticeDone u s).1 := by
  unfold doNoticeDone
  split
  · exact Path.none
  · rename_i level rest hstack
    refine Path.none.aside (.notices s.host.wake (fun h => ⟨h.levels, h.groupsPending, h.members⟩)
      (.inr (by simp [hstack])) fun h => { h with
        service := h.stack level (by simp [hstack])
        stack := fun l hl => h.stack l (by simp [hstack, hl]) }) rfl

/-! ### The doors -/

theorem Path.cabin {t : State} (h : Path c s t) (k : Nat) (v : Cabin) (same : v.configured = (t.cabin k).configured
    ∧ v.sweep = (t.cabin k).sweep ∧ v.occupants = (t.cabin k).occupants) : Path c s (t.putCabin k v) :=
  h.next (.cabin k v same)

theorem doConfigureCabin_path (q : Nat × Bool) : Path c s (doConfigureCabin q s).1 := by
  unfold doConfigureCabin
  dsimp only
  split
  · exact Path.none
  · rename_i hother
    split
    · rename_i hq
      exact Path.one (.configure q.1 (by simpa [hq] using hother))
    · split
      · exact Path.none
      · rename_i hactive
        exact Path.one (.unconfigure q.1 (by simpa using hactive))

theorem doClearLockout_path (k : Nat) : Path c s (doClearLockout k s).1 := Path.none.cabin _ _ ⟨rfl, rfl, rfl⟩

theorem grantDoor_path (k : Nat) (sweep : Bool) : Path c s (grantDoor k sweep s).1 := by
  unfold grantDoor
  dsimp only
  split <;> exact Path.none.cabin _ _ ⟨rfl, rfl, rfl⟩

theorem State.sweepCabin_path (k : Nat) : Path c s (s.sweepCabin k) := by
  unfold State.sweepCabin
  dsimp only
  cases hs : (s.cabin k).sweep == .unswept with
  | false => exact (Path.none.cabin k (s.cabin k) ⟨rfl, rfl, rfl⟩).raiseWhen _ _ _
  | true => exact (Path.one (.sweep k (beq_iff_eq.mp hs))).raiseWhen _ _ _

theorem State.countFailure_path (k : Nat) : Path c s (s.countFailure k) := by
  unfold State.countFailure
  dsimp only
  split
  · exact Path.none
  · split
    · refine (Path.none.cabin k _ ?_).raise _ _
      exact ⟨rfl, rfl, rfl⟩
    · exact Path.none.cabin _ _ ⟨rfl, rfl, rfl⟩

theorem doDoorTap_path (q : DoorTap) : Path c s (doDoorTap q s).1 := by
  unfold doDoorTap
  dsimp only
  split
  · exact Path.none.raise _ _
  · cases s.decodeCard q.card with
    | failed reason i => exact (afterDecodeFailure_path reason i).then (State.countFailure_path _)
    | passed i p =>
      dsimp only
      split
      · exact (State.sweepCabin_path _).then (grantDoor_path _ _)
      · cases (s.cabin q.cabin).lockoutUntil with
        | some t => exact Path.none
        | none =>
          dsimp only
          split
          · exact Path.none
          · split
            · exact grantDoor_path _ _
            · exact (Path.none.raiseWhen _ _ _).then (State.countFailure_path _)

theorem doDoorReport_path (q : DoorReport) : Path c s (doDoorReport q s).1 := by
  unfold doDoorReport
  dsimp only
  split
  · exact Path.none.raise _ _
  · refine ((Path.none.cabin _ _ ?_).raiseWhen _ _ _).raiseWhen _ _ _
    cases q.event with
    | closed =>
      rw [Cabin.report]
      split <;> exact ⟨rfl, rfl, rfl⟩
    | _ => exact ⟨rfl, rfl, rfl⟩

theorem atStation_path {kind : StationKind} {address : Nat} {owner : Nat → State → State × StationAnswer}
    (h : ∀ b, s.bindingFor kind address = some b → Path c s (owner b s).1) :
    Path c s (atStation kind address owner s).1 := by
  unfold atStation
  cases hb : s.bindingFor kind address with
  | none => exact Path.none.raise _ _
  | some b => exact h b hb

/-! ### The muster's start and end, and STORE_REWRITE -/

theorem Path.mark {t : State} (h : Path c s t) {b : Nat} (hb : (∀ e ∈ t.persons, e.1 < 8192) → b ≤ 128) (hstate : t.store.state ≠ .closed) :
    Path c s { t with store := t.store.markWhen true b } := h.next (.mark b hb hstate)

theorem Path.markAll {t : State} (h : Path c s t) {blocks : List Nat} (hb : ∀ b ∈ blocks, (∀ e ∈ t.persons, e.1 < 8192) → b ≤ 128)
    (hstate : t.store.state ≠ .closed) : Path c s { t with store := t.store.markAll blocks } := by
  induction blocks generalizing t with
  | nil => exact h
  | cons b bs ih =>
    exact ih (h.mark (hb b List.mem_cons_self) hstate) (fun x hx => hb x (List.mem_cons_of_mem _ hx)) hstate

theorem doStoreRewrite_path (u : Unit) : Path c s (doStoreRewrite u s).1 := by
  unfold doStoreRewrite
  split
  · exact Path.none
  · split
    · exact Path.none
    · rename_i hopen
      exact Path.none.markAll (fun b hb _ => Nat.le_of_lt_succ (List.mem_range.mp hb)) (by simp [not_not.mp hopen])

theorem doStartMuster_path (id : Nat) : Path c s (doStartMuster id s).1 := by
  unfold doStartMuster
  split
  · exact Path.none
  · rename_i hactive
    split
    · exact Path.none
    · rename_i hopen
      have started := Path.one (c := c) (.muster id (by simpa using hactive) (not_not.mp hopen))
      refine (started.mark (b := controlBlock) (fun _ => le_rfl) ?_).raiseWhen _ _ _
      obtain ⟨ps, ls, hf⟩ := State.cancelAllPermits_frame { s with
        persons := s.persons.mapRecords none (Option.map Person.atMusterStart)
        cabins := s.cabins.mapRecords Cabin.reset Cabin.atMusterStart
        muster := ⟨true, id, [], 0, s.aboardCount, s.configuredCount⟩ }
      rw [hf]
      simp [not_not.mp hopen]

theorem Store.isFailed_markAll (blocks : List Nat) (t : Store) (b : Nat) : (t.markAll blocks).isFailed b = t.isFailed b := by
  induction blocks generalizing t with
  | nil => rfl
  | cons x xs ih => exact ih (t.markWhen true x)

/-- What is dirty after the marking of a list of blocks: those of the list that are not FAILED, and what was dirty. -/
theorem Store.mem_markAll {blocks : List Nat} {t : Store} {b : Nat} :
    b ∈ (t.markAll blocks).dirty ↔ (b ∈ blocks ∧ t.isFailed b = false) ∨ b ∈ t.dirty := by
  induction blocks generalizing t with
  | nil => simp [Store.markAll]
  | cons x xs ih =>
    have hstep : t.markAll (x :: xs) = (t.markWhen true x).markAll xs := rfl
    have hfailed : (t.markWhen true x).isFailed b = t.isFailed b := rfl
    rw [hstep, ih, Store.mem_markWhen, hfailed, List.mem_cons]
    by_cases hb : b = x
    · subst hb; tauto
    · simp [hb]

/-- The overdue holds stand in slots of their own. -/
theorem State.overdueHolds_spec (h : s.slots.wf Slot.reset) :
    (s.overdueHolds.map Prod.fst).Nodup ∧ ∀ e ∈ s.overdueHolds, (s.slot e.1).hold = some e.2 := by
  have hold : ∀ (x : Nat × Slot) (y : Nat × Hold), (match x.2.hold with
      | none => none
      | some h => if h.expiry ≤ s.clock.shipTime then some (x.1, h) else none) = some y → y.1 = x.1 ∧ x.2.hold = some y.2 := by
    intro x y hxy
    cases hx : x.2.hold with
    | none => simp only [hx] at hxy; cases hxy
    | some g =>
      simp only [hx, Option.ite_none_right_eq_some, Option.some.injEq] at hxy
      exact ⟨hxy.2 ▸ rfl, hxy.2 ▸ rfl⟩
  refine ⟨?_, fun e he => ?_⟩
  · refine List.Pairwise.imp (R := (· < ·)) (fun hab => Nat.ne_of_lt hab) (List.pairwise_map.mpr ?_)
    refine List.Pairwise.filterMap _ (fun x x' hlt y hy y' hy' => ?_) h.1
    rw [(hold x y hy).1, (hold x' y' hy').1]
    exact hlt
  · obtain ⟨x, hx, hxe⟩ := List.mem_filterMap.mp he
    obtain ⟨h1, h2⟩ := hold x e hxe
    rw [State.slot, h1, Table.read_of_mem h hx, h2]

/-- The holds of slots of their own expire one after another. -/
theorem expireAll_path {l : List (Nat × Hold)} (hslots : c.slots → s.slots.wf Slot.reset)
    (hkeys : c.slots → (l.map Prod.fst).Nodup) (hholds : c.slots → ∀ e ∈ l, (s.slot e.1).hold = some e.2) :
    Path c s (l.foldl (fun s e => s.expireHold e.1 e.2) s) := by
  induction l generalizing s with
  | nil => exact Path.none
  | cons e l ih =>
    obtain ⟨ps, hf⟩ := State.changeAccount_frame (s := s.vacate e.1) e.2.person
      fun a => { a with held := a.held - e.2.amount }
    have hslots' : (s.expireHold e.1 e.2).slots = s.slots.write Slot.reset e.1 { s.slot e.1 with hold := none } := by
      rw [State.expireHold, State.freeHold, hf]
      rfl
    refine (State.expireHold_path fun hc => hholds hc e List.mem_cons_self).then (ih (fun hc => ?_) (fun hc => ?_) fun hc x hx => ?_)
    · rw [hslots']
      exact Table.wf_write (hslots hc) _ _
    · exact (List.nodup_cons.mp (hkeys hc)).2
    · have hne : x.1 ≠ e.1 := fun he => (List.nodup_cons.mp (hkeys hc)).1 (he ▸ List.mem_map_of_mem hx)
      rw [State.slot, hslots', Table.read_write_other (hslots hc) _ hne]
      exact hholds hc x (List.mem_cons_of_mem _ hx)

theorem State.finishMuster_path (hopen : s.store.state = .opened) (hslots : c.slots → s.slots.wf Slot.reset) :
    Path c s s.finishMuster := by
  have hb : ∀ b ∈ s.musteredBlocks, (∀ e ∈ s.persons, e.1 < 8192) → b ≤ 128 := fun b hb hi => by
    obtain ⟨e, he, rfl⟩ := List.mem_map.mp hb
    have := hi e (List.mem_of_mem_filter he)
    simp only [blockOf]
    omega
  have hstate : ∀ (blocks : List Nat) (t : Store), (t.markAll blocks).state = t.state := fun blocks => by
    induction blocks with
    | nil => exact fun _ => rfl
    | cons b bs ih => exact fun t => ih _
  have marked := Path.none.markAll (c := c) hb (by simp [hopen])
  have dismissed := marked.next (.dismiss ((hstate _ _).trans hopen) fun i p hp hm => by
    have hmem : blockOf i ∈ s.musteredBlocks :=
      List.mem_map.mpr ⟨(i, some p), List.mem_filter.mpr ⟨by
        have := Table.mem_of_read (d := none) (t := s.persons) (k := i) (by rw [show Table.read none s.persons i = some p from hp]; simp)
        rwa [show Table.read none s.persons i = some p from hp] at this, hm⟩, rfl⟩
    rw [Store.isFailed_markAll, Store.mem_markAll]
    cases hf : s.store.isFailed (blockOf i) <;> simp [hmem])
  have controlled := dismissed.mark (b := controlBlock) (fun _ => le_rfl) (by simp [hstate, hopen])
  refine (controlled.then (expireAll_path hslots (fun hc => (State.overdueHolds_spec (hslots hc)).1) fun hc =>
    (State.overdueHolds_spec (hslots hc)).2)).next (.arrivals Slot.atMusterEnd rfl fun k => ?_)
  cases hk : k.hold <;> simp [Slot.atMusterEnd, hk]

theorem doEndMuster_path (u : Unit) (hslots : c.slots → s.slots.wf Slot.reset) : Path c s (doEndMuster u s).1 := by
  unfold doEndMuster
  split
  · exact Path.none
  · split
    · exact Path.none
    · exact State.finishMuster_path (not_not.mp ‹_›) hslots

end Sys2Proof.Machine
end

section
/-!
PROOFS. The lanes, the store, the links and the taking of requests, as chains of changes; and what every command but a reset
does.
-/

namespace Sys2Proof.Machine

variable {c : Setting} {s : State}

/-! ### The lanes -/

section Lanes

variable {lane : Nat}

theorem Path.putLane {t : State} (h : Path c s t) (hl : lane < 4) (v : Lane)
    (permits : c.lanes → v.permits = (t.lane lane).permits) : Path c s (t.putLane lane v) := h.next (.lane lane v hl permits)

theorem Lane.filtered_permits (l : Lane) (b : Beam) (now : Nat) : (l.filtered b now).permits = l.permits := by
  cases b <;> rfl

theorem Lane.recognized_permits (l : Lane) (b : Beam) : (l.recognized b).1.permits = l.permits := by
  unfold Lane.recognized
  split
  · split <;> rfl
  · rfl

theorem State.noteSaturation_path (hl : lane < 4) (before : LaneCounts) : Path c s (s.noteSaturation lane before) := by
  have noted := Path.none.putLane (c := c) hl { s.lane lane with
    saturationReported := (s.lane lane).saturationReported
      || (!(reachedMaximum before (s.lane lane).counts).isEmpty && !(s.lane lane).saturationReported) } fun _ => rfl
  exact (noted.then (.registers rfl)).raiseWhen _ _ _

theorem State.permittedPassage_path (hl : lane < 4) {d : Direction} {permit : Permit}
    (first : c.lanes → (s.lane lane).permits.find? (fun p => decide (p.direction = d)) = some permit) :
    Path c s (s.permittedPassage lane d permit) := by
  unfold State.permittedPassage
  cases hp : s.person permit.person with
  | none => exact Path.one (.stray lane d permit hl first hp)
  | some p =>
    exact ((Path.one (.passage lane d permit p (passageTarget d p.cls (s.lane lane).mode) hl first hp)).then
      (.registers rfl)).then (State.appendMovement_path _)

theorem State.judgePassage_path (hl : lane < 4) (hw : c.lanes → s.lanes.wf Lane.reset) (d : Direction) (openAtStart : Bool) :
    Path c s (s.judgePassage lane d openAtStart) := by
  unfold State.judgePassage
  dsimp only
  cases hf : (s.lane lane).permits.find? fun p => decide (p.direction = d) with
  | some permit =>
    refine (Path.none.putLane hl _ ?_).then (State.permittedPassage_path hl fun hc => ?_)
    · exact fun _ => rfl
    · rw [lane_putLane (hw hc), if_pos rfl]
      exact hf
  | none =>
    dsimp only
    split
    · split
      · exact (Path.none.putLane hl _ (by exact fun _ => rfl)).raise _ _
      · exact (Path.none.putLane hl _ (by exact fun _ => rfl)).raise _ _
    · exact (Path.none.putLane hl _ (by exact fun _ => rfl)).raise _ _

theorem State.beamEvent_path (hl : lane < 4) (hw : c.lanes → s.lanes.wf Lane.reset) (b : Beam) :
    Path c s (s.beamEvent lane b) := by
  have permits := (Lane.recognized_permits ((s.lane lane).filtered b s.clock.mono) b).trans (Lane.filtered_permits _ _ _)
  unfold State.beamEvent
  dsimp only
  generalize ((s.lane lane).filtered b s.clock.mono).recognized b = r at permits ⊢
  obtain ⟨l, outcome⟩ := r
  have taken : Path c s (s.putLane lane l) := Path.none.putLane hl l fun _ => permits
  have settled : ∀ {u : State}, Path c s u → Path c s ((u.settleFlap lane).noteSaturation lane (s.lane lane).counts) :=
    fun hu => (hu.putLane hl _ (by exact fun _ => rfl)).then (State.noteSaturation_path hl _)
  cases outcome with
  | nothing => exact settled taken
  | balk =>
    refine settled (taken.putLane hl _ fun hc => ?_)
    rw [lane_putLane (hw hc), if_pos rfl]
  | passage d => exact settled (taken.then (State.judgePassage_path hl (fun hc => wf_putLane (hw hc) _ _) d _))

/-- What the removal of permits from a lane keeps, the cancellation of every permit keeps. -/
theorem State.cancelAllPermits_keeps {P : State → Prop} (h : ∀ u l, l < 4 → P u → P (u.removePermits l fun _ => true))
    (hs : P s) : P s.cancelAllPermits := by
  unfold State.cancelAllPermits
  suffices hl : ∀ (ls : List Nat), (∀ l ∈ ls, l < 4) → ∀ u, P u → P (ls.foldl (fun s l => s.removePermits l fun _ => true) u) from
    hl _ (fun l hl => List.mem_range.mp hl) s hs
  intro ls
  induction ls with
  | nil => exact fun _ _ hu => hu
  | cons l ls ih =>
    exact fun hls u hu => ih (fun x hx => hls x (List.mem_cons_of_mem _ hx)) _ (h u l (hls l List.mem_cons_self) hu)

theorem State.cancelAllPermits_wf (h : s.lanes.wf Lane.reset) : s.cancelAllPermits.lanes.wf Lane.reset :=
  State.cancelAllPermits_keeps (P := fun u => u.lanes.wf Lane.reset) (fun _ _ _ hu => State.lanes_removePermits_wf hu _ _) h

/-- A path keeps the table of lanes canonical. -/
theorem Path.lanes_wf {t : State} (h : Path c s t) (hw : s.lanes.wf Lane.reset) : t.lanes.wf Lane.reset := by
  induction h with
  | refl => exact hw
  | tail _ hc ih =>
    cases hc with
    | aside h _ => exact h.lanes ▸ ih
    | lane l v _ _ => exact Table.wf_write ih _ _
    | remove l gone _ => exact State.lanes_removePermits_wf ih _ _
    | grant l i p _ _ _ _ _ _ => exact Table.wf_write ih _ _
    | stray l d permit _ _ _ => exact Table.wf_write ih _ _
    | passage l d permit p target _ _ _ => exact Table.wf_write ih _ _
    | ledger slots journal i f _ _ _ _ =>
      rw [State.changeAccount_ledger]
      obtain ⟨ps, hf⟩ := State.changeAccount_frame (s := _) i f
      rw [hf]
      exact ih
    | muster id _ _ => exact State.cancelAllPermits_wf ih
    | closing now => exact State.cancelAllPermits_wf ih
    | _ => exact ih

theorem State.takeBeamEvent_path (hl : lane < 4) (hw : c.lanes → s.lanes.wf Lane.reset) (b : Beam) :
    Path c s (s.takeBeamEvent lane b) := (State.beamEvent_path hl hw b).writerTurn

theorem State.endRuns_path (hl : lane < 4) (hw : c.lanes → s.lanes.wf Lane.reset) : Path c s (s.endRuns lane) :=
  State.endRuns_keeps (P := Path c s) (fun _ h => h.then (.registers rfl))
    (fun _ b h => h.then (State.takeBeamEvent_path hl (fun hc => h.lanes_wf (hw hc)) b)) Path.none

theorem doConfigureLane_path {q : Nat × LaneSetup} (hq : q.1 < 4) : Path c s (doConfigureLane q s).1 := by
  refine Path.none.putLane hq _ fun _ => ?_
  unfold Lane.configured
  split <;> rfl

theorem doSetLaneMode_path {q : Nat × LaneMode} (hq : q.1 < 4) : Path c s (doSetLaneMode q s).1 :=
  (Path.none.putLane hq { s.lane q.1 with mode := q.2 } fun _ => rfl).next (.remove _ _ hq)

theorem doResetLaneCounters_path {l : Nat} (hl : l < 4) : Path c s (doResetLaneCounters l s).1 :=
  Path.none.putLane hl _ fun _ => rfl

/-- The lane that a serving station names is one of the four. -/
theorem State.PermitsHeldBack.lane_lt (h : s.PermitsHeldBack) {address l : Nat} (hb : s.bindingFor .lane address = some l) :
    l < 4 := by
  simp only [State.bindingFor, Option.ite_none_right_eq_some] at hb
  exact h.bound _ _ hb.1.1 hb.2

/-- What a LANE_TAP is known to find where its last tests do not fail (R49). -/
theorem laneRefusal_eq_none {p : Person} (h : laneRefusal s lane p = none) :
    p.gatePermit = none ∧ (s.lane lane).permits.length < 2 := by
  simp only [laneRefusal] at h
  repeat' (split at h; · cases h)
  simp_all

theorem tapLane_path (card : Card) (hl : s.PermitsHeldBack → lane < 4) : Path c s (tapLane card lane s).1 := by
  unfold tapLane
  split
  · exact Path.none
  rename_i hactive
  split
  · exact Path.none
  rename_i hopen
  split
  · exact Path.none
  split
  · exact Path.none
  cases hd : s.decodeCard card with
  | failed reason i => exact afterDecodeFailure_path reason i
  | passed i p =>
    dsimp only
    cases href : laneRefusal s lane p with
    | some reason => exact Path.none
    | none =>
      obtain ⟨hpermit, hroom⟩ := laneRefusal_eq_none href
      exact Path.one (.grant lane i p hl (by simpa using hactive) (not_not.mp hopen) (State.person_of_passed hd) hpermit hroom)

end Lanes

end Sys2Proof.Machine
end

section
/-!
PROOFS. The store, the links and the taking of requests; and what every command but a reset does.
-/

namespace Sys2Proof.Machine

variable {c : Setting} {s : State}

/-! ### The power-fail input and a write's completion -/

theorem State.assertPowerFail_path : Path c s s.assertPowerFail := (Path.none.cancelling s.clock.mono).raise _ _

theorem State.takeDueAssertion_path : Path c s s.takeDueAssertion := by
  by_cases h : s.phase = .assertionDue
  · rw [State.takeDueAssertion_due h]
    exact ((Path.registers rfl : Path c s { s with phase := .running }).then State.assertPowerFail_path).writerTurn
  · rw [State.takeDueAssertion_none h]

/-- An event that takes place ends in the writer's turn. -/
theorem eq_of_event {u t : State} (h : event u = .next t) : t = u.writerTurn := (Host.Outcome.next.inj h).symm

theorem State.inputRises_path {t : State} (h : s.inputRises = .next t) : Path c s t := by
  have raised : Path c s { s with powerFailLevel := true } := .registers rfl
  simp only [State.inputRises] at h
  split at h
  · cases h; exact Path.none
  · split at h
    · obtain rfl := eq_of_event h; exact raised.writerTurn
    · cases hs : s.store.state <;> (rw [hs] at h; obtain rfl := eq_of_event h)
      · exact (raised.then State.assertPowerFail_path).writerTurn
      · exact raised.writerTurn
      · exact raised.writerTurn
      · exact (raised.then State.assertPowerFail_path).writerTurn

theorem State.inputFalls_path {t : State} (hopens : c.opens) (h : s.inputFalls = .next t) : Path c s t := by
  have fallen : Path c s { s with powerFailLevel := false } := .registers rfl
  simp only [State.inputFalls] at h
  split at h
  · obtain rfl := eq_of_event h; exact fallen.writerTurn
  · cases hs : s.store.state <;> (rw [hs] at h; obtain rfl := eq_of_event h)
    · exact fallen.writerTurn
    · exact ((fallen.next (.released .opened hopens (by simp [hs]) (by simp))).raise _ _).writerTurn
    · exact ((fallen.next (.released .reopening hopens (by simp [hs]) (by simp))).raise _ _).writerTurn
    · exact fallen.writerTurn

theorem execPowerFailAssert_path {t : State} (h : execPowerFailAssert s = .next t) : Path c s t := by
  by_cases hp : s.phase = .assertionDue
  · simp only [execPowerFailAssert, hp] at h
    cases h
    exact State.takeDueAssertion_path
  · rw [execPowerFailAssert_of_none hp] at h
    exact State.inputRises_path h

theorem execPowerFailRelease_path {t : State} (hopens : c.opens) (h : execPowerFailRelease s = .next t) : Path c s t := by
  unfold execPowerFailRelease at h
  split at h
  · cases h; exact Path.none
  · exact State.takeDueAssertion_path.then (State.inputFalls_path hopens h)

theorem State.finishStartUp_path (hopens : c.opens) (report : StartedReport) : Path c s (s.finishStartUp report) :=
  (Path.one (.started hopens)).then (.registers rfl)

theorem State.afterStartUpWrite_path (hopens : c.opens) (agrees : Bool) : Path c s (s.afterStartUpWrite agrees) := by
  unfold State.afterStartUpWrite
  split
  · split
    · exact State.finishStartUp_path hopens _
    · exact Path.none
  · exact Path.none
  · exact Path.none

theorem execStoreWriteComplete_path {duration : Nat} {agrees : Bool} {t : State} (hopens : c.opens)
    (h : execStoreWriteComplete duration agrees s = .next t) : Path c s t := by
  unfold execStoreWriteComplete at h
  split at h
  · cases h
  · cases hf : s.store.inFlight with
    | none => rw [hf] at h; cases h; exact Path.none
    | some f =>
      rw [hf] at h
      cases h
      have done := (Path.none.advanceTo (f.startedAt + duration)).next (.completed (c := c) (s := s.advanceTo _) f agrees hopens hf)
      have noticed : Path c s (State.completionNotices s.store f agrees _) := ((done.raiseWhen _ _ _).raiseWhen _ _ _).raiseWhen _ _ _
      exact (noticed.then (State.afterStartUpWrite_path hopens agrees)).next (.turn _)

/-! ### The links -/

/-- A change of the two links alone. -/
theorem Aside.links {t : State} (h : { t with host := s.host, station := s.station } = s)
    (capacity : s.WithinCapacity → t.WithinCapacity) : Aside s t where
  pending := (congrArg State.pending h :)
  persons := (congrArg State.persons h :)
  tally := (congrArg State.tally h :)
  stations := (congrArg State.stations h :)
  lanes := (congrArg State.lanes h :)
  cabins := (congrArg State.cabins h :)
  slots := (congrArg State.slots h :)
  journal := (congrArg State.journal h :)
  muster := (congrArg State.muster h :)
  store := (congrArg State.store h :)
  mono := (congrArg (fun u : State => u.clock.mono) h :).ge
  day := (congrArg (fun u : State => u.clock.currentDay) h :).ge
  tidy hs := by rw [← h] at hs; exact { hs with }
  capacity := capacity
  levels hs := by rw [← h] at hs; exact { hs with }

theorem Aside.refl (s : State) : Aside s s := .links rfl id

theorem Aside.setReceiver (link : Link) (r : Receiver) (s : State) : Aside s (s.setReceiver link r) := by
  cases link <;> exact .links rfl fun h => { h with }

theorem Aside.linkError (link : Link) (s : State) : Aside s (s.linkError link) := by
  cases link
  · refine Aside.trans (.links ?_ fun h => ?_) (.raiseWhen _ true _ _)
    · rfl
    · exact { h with hostErrors := Nat.min_le_right _ _ }
  · refine Aside.trans (.links ?_ fun h => ?_) (.raiseWhen _ true _ _)
    · rfl
    · exact { h with stationErrors := Nat.min_le_right _ _ }

theorem Aside.wakeOn (link : Link) (s : State) : Aside s (s.wakeOn link) := by
  cases link
  · exact .links rfl fun h => { h with }
  · exact .refl s

theorem Aside.enqueue {link : Link} (f : Frame) (hroom : (s.port link).requests.length < requestCapacity link) :
    Aside s (s.enqueue link f) := by
  cases link
  · exact .links rfl fun h => { h with hostRequests := by rw [State.enqueue, State.putPort, List.length_append]; exact hroom }
  · exact .links rfl fun h => { h with stationRequests := by rw [State.enqueue, State.putPort, List.length_append]; exact hroom }

theorem Aside.hostReply (r : HostReply) (hroom : s.host.replies.length < 16) : Aside s (s.hostReply r) :=
  .links rfl fun h => { h with hostReplies := by rw [State.hostReply, List.length_append]; exact hroom }

theorem Aside.stationReply (r : StationReply) (hroom : s.station.replies.length < 32) : Aside s (s.stationReply r) :=
  .links rfl fun h => { h with stationReplies := by rw [State.stationReply, List.length_append]; exact hroom }

theorem Aside.dropHostRequest (s : State) : Aside s s.dropHostRequest :=
  .links rfl fun h => { h with
    hostRequests := by rw [State.dropHostRequest, List.length_tail]; exact (Nat.sub_le _ _).trans h.hostRequests }

theorem Aside.dropStationRequest (s : State) : Aside s s.dropStationRequest :=
  .links rfl fun h => { h with
    stationRequests := by rw [State.dropStationRequest, List.length_tail]; exact (Nat.sub_le _ _).trans h.stationRequests }

theorem State.wakeOn_port (link : Link) (s : State) (l : Link) : (s.wakeOn link).port l = s.port l := by
  cases link <;> cases l <;> rfl

theorem State.wakeOn_replyRoom (link : Link) (s : State) (l : Link) : (s.wakeOn link).replyRoom l = s.replyRoom l := by
  cases link <;> cases l <;> rfl

theorem Aside.arrive (link : Link) (f : Frame) (s : State) : Aside s (s.arrive link f) := by
  unfold State.arrive
  dsimp only
  split
  · rename_i hroom
    simp only [Bool.and_eq_true, decide_eq_true_eq] at hroom
    exact (Aside.wakeOn link s).trans (.enqueue f ((State.wakeOn_port link s link).symm ▸ hroom.2))
  · split
    · rename_i hroom
      rw [← State.wakeOn_replyRoom link] at hroom
      refine (Aside.wakeOn link s).trans ?_
      cases link
      · exact .hostReply _ (of_decide_eq_true hroom)
      · exact .stationReply _ (of_decide_eq_true hroom)
    · exact (Aside.wakeOn link s).trans (.linkError link _)

theorem Aside.judgeFrame (link : Link) (bs : List Byte) (s : State) : Aside s (s.judgeFrame link bs) := by
  unfold State.judgeFrame
  dsimp only
  split
  · split
    · exact .arrive link _ s
    · exact .linkError link s
  · exact .linkError link s

theorem Aside.takeInFrame (link : Link) (bs : List Byte) (s : State) : Aside s (s.takeInFrame link bs) := by
  unfold State.takeInFrame
  split
  · exact .setReceiver _ _ s
  · split
    · exact (Aside.setReceiver _ _ s).trans (.linkError _ _)
    · split
      · exact (Aside.setReceiver _ _ s).trans (.judgeFrame _ _ _)
      · exact .setReceiver _ _ s

theorem Aside.dropStale (link : Link) (s : State) : Aside s (s.dropStale link) := by
  unfold State.dropStale
  split
  · exact .refl s
  · split
    · exact (Aside.setReceiver _ _ s).trans (.linkError _ _)
    · exact .refl s

theorem Aside.takeByte (link : Link) (s : State) (b : Byte) : Aside s (s.takeByte link b) := by
  refine (Aside.dropStale link s).trans ?_
  unfold State.takeByte
  dsimp only
  split
  · split
    · exact .setReceiver _ _ _
    · exact .refl _
  · exact .takeInFrame _ _ _

theorem Aside.takeBytes (link : Link) (bytes : List Byte) (s : State) : Aside s (bytes.foldl (State.takeByte link) s) := by
  induction bytes generalizing s with
  | nil => exact .refl s
  | cons b bs ih => exact (Aside.takeByte link s b).trans (ih _)

/-! ### Courses -/

theorem Course.start : Course c s s := .refl

theorem Course.aside {t u : State} (h : Course c s t) (h' : Aside t u) : Course c s u := h.tail (.link h')

theorem Course.act {t u : State} (h : Course c s t) (h' : Path c t u) : Course c s u := h.trans h'.course

theorem Course.turned {t : State} (h : Course c s t) : Course c s t.writerTurn := h.tail (.act (.turn _))

/-- The acts of the owners leave the queues of both links alone. -/
theorem Path.queues {t : State} (h : Path c s t) : t.queues = s.queues := by
  have cancelled : ∀ u : State, u.cancelAllPermits.queues = u.queues := fun u => by
    obtain ⟨ps, ls, hf⟩ := State.cancelAllPermits_frame u
    rw [hf]
    rfl
  induction h with
  | refl => rfl
  | @tail b _ _ hc ih =>
    cases hc with
    | aside _ hq => exact hq.trans ih
    | remove l gone _ =>
      obtain ⟨ps, hf⟩ := State.removePermits_frame l gone b
      rw [hf]
      exact ih
    | ledger slots journal i f _ _ _ _ =>
      rw [State.changeAccount_ledger]
      obtain ⟨ps, hf⟩ := State.changeAccount_frame (s := b) i f
      rw [hf]
      exact ih
    | muster id _ _ => exact (cancelled _).trans ih
    | closing now => exact (cancelled _).trans ih
    | _ => exact ih

theorem Path.hostReplies {t : State} (h : Path c s t) : t.host.replies = s.host.replies :=
  congrArg (fun q => q.1.2) h.queues

theorem Path.stationReplies {t : State} (h : Path c s t) : t.station.replies = s.station.replies :=
  congrArg (fun q => q.2.2) h.queues

section Taking

variable {α : Type} {kind : Byte} {decode : List Byte → Option α} {r : Request} {t : State}

/-- What the taking of a host request does, its owner's act being a path. -/
theorem takeHost_course {act : α → State → State × HostAnswer} (h : takeHost kind decode act r s = .next t)
    (hact : ∀ q, decode r.body = some q → Path c s.dropHostRequest (act q s.dropHostRequest).1) : Course c s t := by
  have room : ∀ {u : State}, s.hostTakes ⟨kind, r.tag, r.body⟩ = true → Path c s.dropHostRequest u → u.host.replies.length < 16 :=
    fun ht hp => by
      simp only [State.hostTakes, Bool.and_eq_true, decide_eq_true_eq] at ht
      rw [hp.hostReplies]
      exact ht.1.2
  rcases takeHost_cases h with ⟨-, rfl⟩ | ⟨ht, -, rfl⟩ | ⟨q, ho, rfl⟩
  · exact .refl
  · exact ((Course.start.aside (.dropHostRequest s)).aside (.hostReply _ (room ht Path.none))).turned
  · have acted := hact q ho.body
    exact (((Course.start.aside (.dropHostRequest s)).act acted).aside (.hostReply _ (room ho.takes acted))).turned

/-- The same of a station request. -/
theorem takeStation_course {act : α → State → State × StationAnswer} (h : takeStation kind decode act r s = .next t)
    (hact : ∀ q, decode r.body = some q → Path c s.dropStationRequest (act q s.dropStationRequest).1) : Course c s t := by
  have room : ∀ {u : State}, s.stationTakes ⟨kind, r.tag, r.body⟩ = true → Path c s.dropStationRequest u →
      u.station.replies.length < 32 := fun ht hp => by
    simp only [State.stationTakes, Bool.and_eq_true, decide_eq_true_eq] at ht
    rw [hp.stationReplies]
    exact ht.1.2
  rcases takeStation_cases h with ⟨-, rfl⟩ | ⟨ht, -, rfl⟩ | ⟨q, ho, rfl⟩
  · exact .refl
  · exact ((Course.start.aside (.dropStationRequest s)).aside (.stationReply _ (room ht Path.none))).turned
  · have acted := hact q ho.body
    exact (((Course.start.aside (.dropStationRequest s)).act acted).aside (.stationReply _ (room ho.takes acted))).turned

end Taking

/-! ### Every command but a reset -/

/-- A command that may make the store OPEN: the release of the power-fail input, and a write's completion (R161, R162). -/
def mayOpen : Instr → Bool
  | .powerFailRelease | .storeWriteComplete _ _ => true
  | _ => false

section Commands

variable {t : State}

theorem Course.of_event {u : State} (h : event u = .next t) (hu : Path c s u) : Course c s t := by
  obtain rfl := eq_of_event h
  exact hu.writerTurn.course

theorem Course.of_next (h : (Host.Outcome.next s : Host.Outcome State Fault Refusal) = .next t) : Course c s t := by
  cases h
  exact .refl

theorem execUnknownKindTaken_course {link : Link} {kind : Byte} {r : Request}
    (h : execUnknownKindTaken link kind r s = .next t) : Course c s t := by
  unfold execUnknownKindTaken at h
  split at h
  · exact .of_next h
  · cases link
    · dsimp only at h
      split at h
      · rename_i ht
        simp only [State.hostTakes, Bool.and_eq_true, decide_eq_true_eq] at ht
        obtain rfl := eq_of_event h
        exact ((Course.start.aside (.dropHostRequest s)).aside (.hostReply _ ht.1.2)).turned
      · exact .of_next h
    · dsimp only at h
      split at h
      · rename_i ht
        simp only [State.stationTakes, Bool.and_eq_true, decide_eq_true_eq] at ht
        obtain rfl := eq_of_event h
        exact ((Course.start.aside (.dropStationRequest s)).aside (.stationReply _ ht.1.2)).turned
      · exact .of_next h

theorem execFrameReceived_course {link : Link} {bytes : List Byte} (h : execFrameReceived link bytes s = .next t) :
    Course c s t := by
  unfold execFrameReceived at h
  split at h
  · exact .of_next h
  · obtain rfl := eq_of_event h
    exact (Course.start.aside (.takeBytes link bytes s)).turned

theorem execFrameTimeout_course {link : Link} (h : execFrameTimeout link s = .next t) : Course c s t := by
  unfold execFrameTimeout at h
  split at h
  · exact .of_next h
  · obtain rfl := eq_of_event h
    exact ((Course.start.act (Path.none.advanceTo _)).aside ((Aside.setReceiver _ _ _).trans (.linkError _ _))).turned

theorem execStartedFrameStart_course (h : execStartedFrameStart s = .next t) : Course c s t := by
  unfold execStartedFrameStart at h
  split at h
  · exact .of_next h
  · split at h
    · exact .of_event h (.registers rfl)
    · exact .of_next h

theorem execHostReplyStart_course (h : execHostReplyStart s = .next t) : Course c s t := by
  unfold execHostReplyStart at h
  split at h
  · exact .of_next h
  · rename_i r rest hr
    split at h
    · obtain rfl := eq_of_event h
      refine (Course.start.aside (.links ?_ fun hc => ?_)).turned
      · rfl
      · exact { hc with hostReplies := (Nat.le_succ _).trans (by have := hc.hostReplies; rwa [hr] at this) }
    · exact .of_next h

theorem execStationReplyStart_course (h : execStationReplyStart s = .next t) : Course c s t := by
  unfold execStationReplyStart at h
  split at h
  · exact .of_next h
  · rename_i r rest hr
    split at h
    · obtain rfl := eq_of_event h
      refine (Course.start.aside (.links ?_ fun hc => ?_)).turned
      · rfl
      · exact { hc with stationReplies := (Nat.le_succ _).trans (by have := hc.stationReplies; rwa [hr] at this) }
    · exact .of_next h

/-- A group that may be delivered leaves room on the stack. -/
theorem State.chosenGroup_room {g : Nat} (h : s.chosenGroup = some g) : s.notices.stack.length < 4 := by
  by_contra hfull
  have none : (List.range 10).filter s.deliverable = [] :=
    List.filter_eq_nil_iff.mpr fun x _ => by simp [State.deliverable, hfull]
  rw [State.chosenGroup, none] at h
  cases h

theorem State.deliver_path {g : Nat} (h : s.chosenGroup = some g) : Path c s { s with notices := s.notices.deliver g } :=
  Path.none.aside (.notices s.host.wake (fun ht => ⟨ht.levels, Table.wf_write ht.groupsPending _ _, ht.members⟩)
    (.inl (State.chosenGroup_room h)) fun hl => { hl with
      service := hl.levels g
      stack := fun l hm => by
        rcases List.mem_cons.mp hm with rfl | hm
        · exact hl.service
        · exact hl.stack l hm }) rfl

theorem execNoticeFrameStart_course (h : execNoticeFrameStart s = .next t) : Course c s t := by
  unfold execNoticeFrameStart at h
  split at h
  · cases hg : s.chosenGroup with
    | none => rw [hg] at h; exact .of_next h
    | some g =>
      rw [hg] at h
      exact .of_event h ((State.deliver_path hg).then (.registers rfl))
  · exact .of_next h

theorem execChargePostStart_course (h : execChargePostStart s = .next t) : Course c s t := by
  unfold execChargePostStart at h
  split at h
  · cases he : s.journal.head? with
    | none => rw [he] at h; exact .of_next h
    | some e =>
      rw [he] at h
      exact .of_event h ((State.post_path he).then (.registers rfl))
  · exact .of_next h

theorem execFrameSent_course {link : Link} (hr : restarts (.frameSent link) s = false) (h : execFrameSent link s = .next t) :
    Course c s t := by
  unfold execFrameSent at h
  cases link
  · dsimp only at h
    cases hf : s.host.sending with
    | none => rw [hf] at h; exact .of_next h
    | some f =>
      rw [hf] at h
      have hn : f.resets = false := by simpa [restarts, hf] using hr
      simp only [hn, Bool.false_eq_true, if_false] at h
      exact .of_event h (.registers rfl)
  · dsimp only at h
    cases hf : s.station.sending with
    | none => rw [hf] at h; exact .of_next h
    | some f =>
      rw [hf] at h
      exact .of_event h (.registers rfl)

theorem execShipTimeAdvance_course (h : execShipTimeAdvance s = .next t) : Course c s t := by
  unfold execShipTimeAdvance at h
  split at h
  · refine .of_event h (Path.tellArrivals (Path.computeDay ((Path.none.advanceTo s.clock.nextAdvance).then (.registers ?_))))
    rfl
  · exact .of_next h

section Lanes

variable {lane : Nat} {b : Beam}

/-- A state in which a beam's filter run that has lasted its time has ended (R42). -/
def State.runEnded (lane : Nat) (b : Beam) (s : State) : State :=
  if (((s.lane lane).beam b).dueAt s.clock.mono).isSome then s.takeBeamEvent lane b else s

/-- The new level of a beam input put, a filter run being begun or abandoned (R42). -/
def State.putLevel (lane : Nat) (b : Beam) (high : Bool) (now : Nat) (s : State) : State :=
  s.putLane lane ((s.lane lane).putBeam b (BeamState.refilter { (s.lane lane).beam b with high }
    (readsBroken (s.lane lane).setup.polarity high) now (s.lane lane).setup.filterTime))

/-- BEAM_RAW_CHANGE ends the run that is overdue, puts the level, and with a filter time of 0 takes the beam event (R42). -/
theorem execBeamRawChange_eq {high : Bool} (hl : lane < 4) (hh : ((s.lane lane).beam b).high ≠ high) :
    execBeamRawChange lane b high s =
      event (if readsBroken ((s.runEnded lane b).lane lane).setup.polarity high ≠ (((s.runEnded lane b).lane lane).beam b).broken
          ∧ ((s.runEnded lane b).lane lane).setup.filterTime = 0
        then ((s.runEnded lane b).putLevel lane b high s.clock.mono).beamEvent lane b
        else (s.runEnded lane b).putLevel lane b high s.clock.mono) := by
  unfold execBeamRawChange
  rw [if_neg (not_le.mpr hl), if_neg hh]
  have ended : State.runEnded lane b s =
      if (match ((s.lane lane).beam b).filterEnd with | some t => decide (t ≤ s.clock.mono) | none => false) = true
      then (s.beamEvent lane b).writerTurn else s := by
    unfold State.runEnded State.takeBeamEvent BeamState.dueAt
    cases ((s.lane lane).beam b).filterEnd with
    | none => rfl
    | some e => by_cases he : e ≤ s.clock.mono <;> simp [he]
  rw [ended]
  rfl

theorem State.runEnded_path (hl : lane < 4) (hw : c.lanes → s.lanes.wf Lane.reset) : Path c s (s.runEnded lane b) := by
  unfold State.runEnded
  split
  · exact State.takeBeamEvent_path hl hw b
  · exact Path.none

theorem execBeamRawChange_course {high : Bool} (hw : c.lanes → s.lanes.wf Lane.reset)
    (h : execBeamRawChange lane b high s = .next t) : Course c s t := by
  by_cases hl : lane < 4
  · by_cases hh : ((s.lane lane).beam b).high = high
    · rw [execBeamRawChange, if_neg (not_le.mpr hl), if_pos hh] at h
      exact .of_next h
    · rw [execBeamRawChange_eq hl hh] at h
      have put : Path c s ((s.runEnded lane b).putLevel lane b high s.clock.mono) :=
        (State.runEnded_path hl hw).putLane hl _ fun _ => by cases b <;> rfl
      refine .of_event h ?_
      split
      · exact put.then (State.beamEvent_path hl (fun hc => put.lanes_wf (hw hc)) b)
      · exact put
  · rw [execBeamRawChange, if_pos (not_lt.mp hl)] at h
    cases h

theorem execBeamEvent_course (hw : c.lanes → s.lanes.wf Lane.reset) (h : execBeamEvent lane b s = .next t) :
    Course c s t := by
  unfold execBeamEvent at h
  split at h
  · cases h
  rename_i hl
  rw [not_le] at hl
  split at h
  · exact .of_next h
  · refine .of_event h ((Path.none.advanceTo _).then (State.beamEvent_path hl ?_ b))
    exact hw

theorem execBlockTimingExpiry_course (h : execBlockTimingExpiry lane b s = .next t) : Course c s t := by
  unfold execBlockTimingExpiry at h
  split at h
  · cases h
  rename_i hl
  rw [not_le] at hl
  split at h
  · exact .of_next h
  · refine .of_event h (((Path.none.advanceTo _).putLane hl _ fun _ => ?_).raiseWhen _ _ _)
    cases b <;> rfl

theorem execPermitExpiry_course {person : Nat} (h : execPermitExpiry lane person s = .next t) : Course c s t := by
  unfold execPermitExpiry at h
  split at h
  · cases h
  rename_i hl
  rw [not_le] at hl
  split at h
  · cases h
  split at h
  · exact .of_next h
  · refine .of_event h ?_
    exact (((Path.none.advanceTo _).next (.remove lane _ hl)).putLane hl _ (by exact fun _ => rfl)).then
      (State.noteSaturation_path hl _)

theorem execConfigureLane_course {r : Request} (hw : c.lanes → s.lanes.wf Lane.reset)
    (h : execConfigureLane r s = .next t) : Course c s t := by
  have taken : ∀ {u v : State}, takeHost 0x38 decodeConfigureLane doConfigureLane r u = .next v → Course c u v :=
    fun hu => takeHost_course hu fun _ hq => doConfigureLane_path (decodeConfigureLane_lt hq)
  cases hlane : configuredLane r s with
  | none =>
    rw [execConfigureLane_of_none hlane] at h
    exact taken h
  | some lane =>
    have hl : lane < 4 := by
      simp only [configuredLane, Option.ite_none_right_eq_some, Option.map_eq_some_iff] at hlane
      obtain ⟨-, q, hq, rfl⟩ := hlane
      exact decodeConfigureLane_lt hq
    simp only [execConfigureLane, hlane] at h
    have before := State.endRuns_path (c := c) hl hw
    cases hu : takeHost 0x38 decodeConfigureLane doConfigureLane r (s.endRuns lane) with
    | next u =>
      rw [hu] at h
      cases h
      have set := before.course.trans (taken hu)
      have canonical : c.lanes → u.lanes.wf Lane.reset := fun hc => Course.keeps
        (P := fun v => v.lanes.wf Lane.reset) (fun _ _ hv => (Path.one hv).lanes_wf) (fun _ _ hv hl => hv.lanes ▸ hl) set (hw hc)
      exact set.trans (State.endRuns_path hl canonical).course
    | fault f => rw [hu] at h; cases h
    | refused f => rw [hu] at h; cases h

end Lanes

section Doors

variable {k : Nat}

theorem execStrikeWindowEnd_course (h : execStrikeWindowEnd k s = .next t) : Course c s t := by
  unfold execStrikeWindowEnd at h
  split at h
  · cases h
  split at h
  · exact .of_next h
  · exact .of_event h ((Path.none.advanceTo _).cabin k _ (by exact ⟨rfl, rfl, rfl⟩))

theorem execLockoutEnd_course (h : execLockoutEnd k s = .next t) : Course c s t := by
  unfold execLockoutEnd at h
  split at h
  · cases h
  split at h
  · exact .of_next h
  · exact .of_event h ((Path.none.advanceTo _).cabin k _ (by exact ⟨rfl, rfl, rfl⟩))

theorem execAjarTimingEnd_course (h : execAjarTimingEnd k s = .next t) : Course c s t := by
  unfold execAjarTimingEnd at h
  split at h
  · cases h
  split at h
  · exact .of_next h
  · split at h
    · exact .of_event h (((Path.none.advanceTo _).cabin k _ (by exact ⟨rfl, rfl, rfl⟩)).raise _ _)
    · exact .of_next h

end Doors

theorem execHoldExpiry_course {k : Nat} (h : execHoldExpiry k s = .next t) : Course c s t := by
  unfold execHoldExpiry at h
  split at h
  · cases h
  cases hk : (s.slot k).hold with
  | none => rw [hk] at h; exact .of_next h
  | some hold =>
    simp only [hk] at h
    split at h
    · exact .of_event h (State.expireHold_path fun _ => hk)
    · exact .of_next h

theorem execAllAboardDeadlinePassed_course (h : execAllAboardDeadlinePassed s = .next t) : Course c s t := by
  unfold execAllAboardDeadlinePassed at h
  split at h
  · exact .of_event h State.passDeadline_path
  · exact .of_next h

/-- A command is the taking of a request: the request of a frame is taken from its link, and its owner's act is a path. -/
inductive Takes (cmd : Instr) : Link → Frame → Prop
  | host {α : Type} (kind : Byte) (decode : List Byte → Option α) (act : α → State → State × HostAnswer) (r : Request)
      (runs : ∀ s, exec cmd s = takeHost kind decode act r s) (checked : cmd.wellFormed = r.wf decode)
      (acts : ∀ {c : Setting} {s : State} (q : α), decode r.body = some q → (c.slots → s.slots.wf Slot.reset) →
        Path c s (act q s).1) : Takes cmd .host ⟨kind, r.tag, r.body⟩
  | station {α : Type} (kind : Byte) (decode : List Byte → Option α) (act : α → State → State × StationAnswer) (r : Request)
      (runs : ∀ s, exec cmd s = takeStation kind decode act r s) (checked : cmd.wellFormed = r.wf decode)
      (acts : ∀ {c : Setting} {s : State} (q : α), decode r.body = some q → (c.slots → s.slots.wf Slot.reset) →
        Path c s (act q s).1) : Takes cmd .station ⟨kind, r.tag, r.body⟩

/-- Every request command but CONFIGURE_LANE, before and after which runs of the lane's filters may end, is the taking of its
request. -/
theorem takes_of_request {cmd : Instr} {link : Link} {f : Frame} (h : cmd.request = some (link, f))
    (known : ∀ l k r, cmd ≠ .unknownKindTaken l k r) (lane : ∀ r, cmd ≠ .configureLane r) : Takes cmd link f := by
  cases cmd with
  | unknownKindTaken l k r => exact absurd rfl (known l k r)
  | configureLane r => exact absurd rfl (lane r)
  | loadPerson r =>
    cases h
    refine .host _ _ _ r (fun _ => by unfold exec; rfl) rfl ?_
    exact fun _ hq _ => doLoadPerson_path (decodeLoadPerson_valid hq)
  | readPerson r =>
    cases h
    refine .host _ _ _ r (fun _ => by unfold exec; rfl) rfl ?_
    exact fun _ _ _ => Path.none
  | setLocation r =>
    cases h
    refine .host _ _ _ r (fun _ => by unfold exec; rfl) rfl ?_
    exact fun q _ _ => doSetLocation_path q
  | reissueCard r =>
    cases h
    refine .host _ _ _ r (fun _ => by unfold exec; rfl) rfl ?_
    exact fun q _ _ => doReissueCard_path q
  | adjustBalance r =>
    cases h
    refine .host _ _ _ r (fun _ => by unfold exec; rfl) rfl ?_
    exact fun q _ _ => doAdjustBalance_path q
  | updateAccount r =>
    cases h
    refine .host _ _ _ r (fun _ => by unfold exec; rfl) rfl ?_
    exact fun _ hq _ => doUpdateAccount_path (decodeUpdateAccount_valid hq).2
  | clearPerson r =>
    cases h
    refine .host _ _ _ r (fun _ => by unfold exec; rfl) rfl ?_
    exact fun q _ _ => doClearPerson_path q
  | readTally r =>
    cases h
    refine .host _ _ _ r (fun _ => by unfold exec; rfl) rfl ?_
    exact fun _ _ _ => Path.none
  | setDecoder r =>
    cases h
    refine .host _ _ _ r (fun _ => by unfold exec; rfl) rfl ?_
    exact fun q _ _ => doSetDecoder_path q
  | readDecoder r =>
    cases h
    refine .host _ _ _ r (fun _ => by unfold exec; rfl) rfl ?_
    exact fun _ _ _ => Path.none
  | configureStation r =>
    cases h
    refine .host _ _ _ r (fun _ => by unfold exec; rfl) rfl ?_
    exact fun _ hq _ => doConfigureStation_path (decodeConfigureStation_valid hq).2
  | readStation r =>
    cases h
    refine .host _ _ _ r (fun _ => by unfold exec; rfl) rfl ?_
    exact fun _ _ _ => Path.none
  | setClock r =>
    cases h
    refine .host _ _ _ r (fun _ => by unfold exec; rfl) rfl ?_
    exact fun q _ _ => doSetClock_path q
  | setDayOffset r =>
    cases h
    refine .host _ _ _ r (fun _ => by unfold exec; rfl) rfl ?_
    exact fun q _ _ => doSetDayOffset_path q
  | readClock r =>
    cases h
    refine .host _ _ _ r (fun _ => by unfold exec; rfl) rfl ?_
    exact fun _ _ _ => Path.none
  | setLaneMode r =>
    cases h
    refine .host _ _ _ r (fun _ => by unfold exec; rfl) rfl ?_
    exact fun _ hq _ => doSetLaneMode_path (decodeSetLaneMode_lt hq)
  | readLane r =>
    cases h
    refine .host _ _ _ r (fun _ => by unfold exec; rfl) rfl ?_
    exact fun _ _ _ => Path.none
  | resetLaneCounters r =>
    cases h
    refine .host _ _ _ r (fun _ => by unfold exec; rfl) rfl ?_
    exact fun _ hq _ => doResetLaneCounters_path (decodeLane_lt hq)
  | setAllAboard r =>
    cases h
    refine .host _ _ _ r (fun _ => by unfold exec; rfl) rfl ?_
    exact fun q _ _ => doSetAllAboard_path q
  | readMovements r =>
    cases h
    refine .host _ _ _ r (fun _ => by unfold exec; rfl) rfl ?_
    exact fun q _ _ => doReadMovements_path q
  | laneTap r =>
    cases h
    refine .station _ _ _ r (fun _ => by unfold exec; rfl) rfl ?_
    exact fun q _ _ => atStation_path fun _ hb => tapLane_path q.card fun hp => hp.lane_lt hb
  | configureCabin r =>
    cases h
    refine .host _ _ _ r (fun _ => by unfold exec; rfl) rfl ?_
    exact fun q _ _ => doConfigureCabin_path q
  | readCabin r =>
    cases h
    refine .host _ _ _ r (fun _ => by unfold exec; rfl) rfl ?_
    exact fun _ _ _ => Path.none
  | clearLockout r =>
    cases h
    refine .host _ _ _ r (fun _ => by unfold exec; rfl) rfl ?_
    exact fun q _ _ => doClearLockout_path q
  | setDoorSettings r =>
    cases h
    refine .host _ _ _ r (fun _ => by unfold exec; rfl) rfl ?_
    exact fun q _ _ => doSetDoorSettings_path q
  | doorTap r =>
    cases h
    refine .station _ _ _ r (fun _ => by unfold exec; rfl) rfl ?_
    exact fun q _ _ => doDoorTap_path q
  | doorReport r =>
    cases h
    refine .station _ _ _ r (fun _ => by unfold exec; rfl) rfl ?_
    exact fun q _ _ => doDoorReport_path q
  | configureOutlet r =>
    cases h
    refine .host _ _ _ r (fun _ => by unfold exec; rfl) rfl ?_
    exact fun q _ _ => doConfigureOutlet_path q
  | readOutlet r =>
    cases h
    refine .host _ _ _ r (fun _ => by unfold exec; rfl) rfl ?_
    exact fun _ _ _ => Path.none
  | barSale r =>
    cases h
    refine .station _ _ _ r (fun _ => by unfold exec; rfl) rfl ?_
    exact fun q _ _ => atStation_path fun _ _ => doBarSale_path q _
  | barOpenTab r =>
    cases h
    refine .station _ _ _ r (fun _ => by unfold exec; rfl) rfl ?_
    exact fun q hq _ => atStation_path fun _ _ =>
      doOpenTab_path (Nat.lt_of_lt_of_le (by decide) (decodeOpenTab_amount hq).1) _
  | barCloseTab r =>
    cases h
    refine .station _ _ _ r (fun _ => by unfold exec; rfl) rfl ?_
    exact fun q _ _ => atStation_path fun _ _ => doCloseTab_path q _
  | barVoid r =>
    cases h
    refine .station _ _ _ r (fun _ => by unfold exec; rfl) rfl ?_
    exact fun q _ _ => atStation_path fun _ _ => doBarVoid_path q _
  | grantPosting r =>
    cases h
    refine .host _ _ _ r (fun _ => by unfold exec; rfl) rfl ?_
    exact fun q _ _ => doGrantPosting_path q
  | readHolds r =>
    cases h
    refine .host _ _ _ r (fun _ => by unfold exec; rfl) rfl ?_
    exact fun _ _ _ => Path.none
  | releaseHold r =>
    cases h
    refine .host _ _ _ r (fun _ => by unfold exec; rfl) rfl ?_
    exact fun q _ _ => doReleaseHold_path q
  | readJournalStatus r =>
    cases h
    refine .host _ _ _ r (fun _ => by unfold exec; rfl) rfl ?_
    exact fun _ _ _ => Path.none
  | startMuster r =>
    cases h
    refine .host _ _ _ r (fun _ => by unfold exec; rfl) rfl ?_
    exact fun q _ _ => doStartMuster_path q
  | endMuster r =>
    cases h
    refine .host _ _ _ r (fun _ => by unfold exec; rfl) rfl ?_
    exact fun q _ hs => doEndMuster_path q hs
  | musterTap r =>
    cases h
    refine .station _ _ _ r (fun _ => by unfold exec; rfl) rfl ?_
    exact fun q _ _ => atStation_path fun _ _ => doMusterTap_path q.card _
  | musterPerson r =>
    cases h
    refine .host _ _ _ r (fun _ => by unfold exec; rfl) rfl ?_
    exact fun q _ _ => doMusterPerson_path q
  | readMuster r =>
    cases h
    refine .host _ _ _ r (fun _ => by unfold exec; rfl) rfl ?_
    exact fun _ _ _ => Path.none
  | setGroupLevel r =>
    cases h
    refine .host _ _ _ r (fun _ => by unfold exec; rfl) rfl ?_
    exact fun _ hq _ => doSetGroupLevel_path (decodeSetGroupLevel_le hq).2
  | setMemberEnable r =>
    cases h
    refine .host _ _ _ r (fun _ => by unfold exec; rfl) rfl ?_
    exact fun q _ _ => doSetMemberEnable_path q
  | setServiceLevel r =>
    cases h
    refine .host _ _ _ r (fun _ => by unfold exec; rfl) rfl ?_
    exact fun _ hq _ => doSetServiceLevel_path (decodeServiceLevel_lt hq)
  | noticeDone r =>
    cases h
    refine .host _ _ _ r (fun _ => by unfold exec; rfl) rfl ?_
    exact fun q _ _ => doNoticeDone_path q
  | ackNotice r =>
    cases h
    refine .host _ _ _ r (fun _ => by unfold exec; rfl) rfl ?_
    exact fun q _ _ => doAckNotice_path q
  | hostSleep r =>
    cases h
    refine .host _ _ _ r (fun _ => by unfold exec; rfl) rfl ?_
    exact fun q _ _ => doHostSleep_path q
  | storeRewrite r =>
    cases h
    refine .host _ _ _ r (fun _ => by unfold exec; rfl) rfl ?_
    exact fun q _ _ => doStoreRewrite_path q
  | readStoreStatus r =>
    cases h
    refine .host _ _ _ r (fun _ => by unfold exec; rfl) rfl ?_
    exact fun _ _ _ => Path.none
  | identify r =>
    cases h
    refine .host _ _ _ r (fun _ => by unfold exec; rfl) rfl ?_
    exact fun _ _ _ => Path.none
  | reset r =>
    cases h
    refine .host _ _ _ r (fun _ => by unfold exec; rfl) rfl ?_
    exact fun q _ _ => doReset_path q
  | readLinkCounters r =>
    cases h
    refine .host _ _ _ r (fun _ => by unfold exec; rfl) rfl ?_
    exact fun q _ _ => doReadLinkCounters_path q
  | _ => cases h

theorem Takes.course {cmd : Instr} {link : Link} {f : Frame} (h : Takes cmd link f) (hslots : c.slots → s.slots.wf Slot.reset)
    (hx : exec cmd s = .next t) : Course c s t := by
  cases h with
  | host kind decode act r runs _ acts => exact takeHost_course ((runs s).symm.trans hx) fun q hq => acts q hq hslots
  | station kind decode act r runs _ acts => exact takeStation_course ((runs s).symm.trans hx) fun q hq => acts q hq hslots

/-- What every command but a reset does is a course of changes. -/
theorem exec_course {cmd : Instr} (hopens : mayOpen cmd = true → c.opens) (hlanes : c.lanes → s.lanes.wf Lane.reset)
    (hslots : c.slots → s.slots.wf Slot.reset) (hr : restarts cmd s = false) (h : exec cmd s = .next t) : Course c s t := by
  cases cmd with
  | partReset cause pins => cases hr
  | startedFrameStart => exact execStartedFrameStart_course h
  | frameReceived link bytes => exact execFrameReceived_course h
  | frameTimeout link => exact execFrameTimeout_course h
  | unknownKindTaken link kind r => exact execUnknownKindTaken_course h
  | hostReplyStart => exact execHostReplyStart_course h
  | noticeFrameStart => exact execNoticeFrameStart_course h
  | chargePostStart => exact execChargePostStart_course h
  | stationReplyStart => exact execStationReplyStart_course h
  | frameSent link => exact execFrameSent_course hr h
  | shipTimeAdvance => exact execShipTimeAdvance_course h
  | configureLane r => exact execConfigureLane_course hlanes h
  | beamRawChange lane beam high => exact execBeamRawChange_course hlanes h
  | beamEvent lane beam => exact execBeamEvent_course hlanes h
  | blockTimingExpiry lane beam => exact execBlockTimingExpiry_course h
  | permitExpiry lane person => exact execPermitExpiry_course h
  | allAboardDeadlinePassed => exact execAllAboardDeadlinePassed_course h
  | strikeWindowEnd cabin => exact execStrikeWindowEnd_course h
  | lockoutEnd cabin => exact execLockoutEnd_course h
  | ajarTimingEnd cabin => exact execAjarTimingEnd_course h
  | holdExpiry slot => exact execHoldExpiry_course h
  | storeWriteComplete duration agrees => exact (execStoreWriteComplete_path (hopens rfl) h).course
  | powerFailAssert => exact (execPowerFailAssert_path h).course
  | powerFailRelease => exact (execPowerFailRelease_path (hopens rfl) h).course
  | frameStartByte link =>
    obtain rfl := eq_of_event h
    exact (Course.start.aside (.takeByte link s _)).turned
  | _ => refine (takes_of_request rfl ?_ ?_).course hslots h <;> nofun

end Commands

end Sys2Proof.Machine
end

section
/-!
PROOFS. What a reset leaves, and the statements on the step itself: the front command, the queue and time. A predicate that
every kind of change, every reset and the taking of the front command keep is kept by every step.
-/

namespace Sys2Proof.Machine

variable {c : Setting} {s t : State}

/-! ### What a reset leaves -/

section Reset

variable (cause : ResetCause) (pins : BitVec 4) (s : State)

/-- What the restore of a reset finds and rebuilds (R164, R165). -/
def State.restoring (s : State) : Restored := restore s.store.interrupted

theorem State.resetPart_pending : (s.resetPart cause pins).pending = s.pending := by
  unfold State.resetPart State.beginStep4; dsimp only; split <;> [rfl; rfl; (split <;> rfl)]

theorem State.resetPart_persons : (s.resetPart cause pins).persons = s.restoring.persons := by
  unfold State.resetPart State.beginStep4; dsimp only; split <;> [rfl; rfl; (split <;> rfl)]

theorem State.resetPart_tally : (s.resetPart cause pins).tally = tallyOf s.restoring.persons := by
  unfold State.resetPart State.beginStep4; dsimp only; split <;> [rfl; rfl; (split <;> rfl)]

theorem State.resetPart_muster : (s.resetPart cause pins).muster = restoredMusterUnit s.restoring := by
  unfold State.resetPart State.beginStep4; dsimp only; split <;> [rfl; rfl; (split <;> rfl)]

theorem State.resetPart_lanes : (s.resetPart cause pins).lanes
    = Table.ofEntries Lane.reset ((List.range 4).map fun l => (l, (s.lane l).afterReset)) := by
  unfold State.resetPart State.beginStep4; dsimp only; split <;> [rfl; rfl; (split <;> rfl)]

/-- A reset's state is the restart's but for the notice that a resumed muster raises, and for the start of step 4: the phase,
the STARTED frame and the store (R163, R166). -/
theorem State.resetPart_rest : ∃ phase started store,
    s.resetPart cause pins = { (s.restarted cause pins).raiseWhen
        ((s.restarted cause pins).muster.active && (s.restarted cause pins).muster.unmustered == 0)
        MemberId.allMustered (s.restarted cause pins).muster.id with
      phase, store, host := { ((s.restarted cause pins).raiseWhen
        ((s.restarted cause pins).muster.active && (s.restarted cause pins).muster.unmustered == 0)
        MemberId.allMustered (s.restarted cause pins).muster.id).host with started } } := by
  unfold State.resetPart State.beginStep4
  dsimp only
  split
  · exact ⟨_, _, _, rfl⟩
  · exact ⟨_, _, _, rfl⟩
  · split <;> exact ⟨_, _, _, rfl⟩

end Reset

/-- A command that restarts the part resets it, with the turn that ends the event. -/
theorem exec_of_restarts {cmd : Instr} (hr : restarts cmd s = true) (h : exec cmd s = .next t) :
    ∃ cause pins, t = (s.resetPart cause pins).writerTurn := by
  cases cmd with
  | partReset cause pins => exact ⟨cause, pins, eq_of_event h⟩
  | frameSent link =>
    cases link with
    | station => cases hr
    | host =>
      change execFrameSent .host s = .next t at h
      simp only [restarts, Option.any_eq_true] at hr
      obtain ⟨f, hf, hresets⟩ := hr
      simp only [execFrameSent, hf, hresets, if_true] at h
      exact ⟨_, _, eq_of_event h⟩
  | _ => cases hr

/-! ### What a command, and a step, keeps -/

/-- A predicate that changes and resets keep is kept by every command. -/
theorem exec_keeps {P : State → Prop} {cmd : Instr} (c : Setting) (hopens : c.opens)
    (hlanes : c.lanes → ∀ u, P u → u.lanes.wf Lane.reset) (hslots : c.slots → ∀ u, P u → u.slots.wf Slot.reset)
    (aside : ∀ u v, Aside u v → P u → P v) (change : ∀ u v, Change c u v → P u → P v)
    (reset : ∀ cause pins u, P u → P (u.resetPart cause pins)) (hs : P s) (h : exec cmd s = .next t) : P t := by
  cases hr : restarts cmd s with
  | true =>
    obtain ⟨cause, pins, rfl⟩ := exec_of_restarts hr h
    exact change _ _ (.turn _) (reset cause pins s hs)
  | false => exact Course.keeps change aside (exec_course (fun _ => hopens) (fun hc => hlanes hc s hs) (fun hc => hslots hc s hs) hr h) hs

theorem Aside.tick (s : State) : Aside s (s.advanceTo (s.clock.mono + 1)) := .registers rfl (Nat.le_max_left _ _) le_rfl

theorem step_of_nil (h : s.pending = []) : step s = .next (s.advanceTo (s.clock.mono + 1)) := by rw [step, h]; rfl

theorem step_of_cons {cmd : Instr} {rest : List Instr} (h : s.pending = cmd :: rest) :
    step s = exec cmd { s with pending := rest } := by rw [step, h]

/-- A predicate that changes and resets keep, and that does not read the queue, is kept by every step. -/
theorem step_keeps {P : State → Prop} (c : Setting) (hopens : c.opens)
    (hlanes : c.lanes → ∀ u, P u → u.lanes.wf Lane.reset) (hslots : c.slots → ∀ u, P u → u.slots.wf Slot.reset)
    (aside : ∀ u v, Aside u v → P u → P v) (change : ∀ u v, Change c u v → P u → P v)
    (reset : ∀ cause pins u, P u → P (u.resetPart cause pins))
    (queue : ∀ u rest, P u → P { u with pending := rest }) (h : step s = .next t) (hs : P s) : P t := by
  cases hq : s.pending with
  | nil =>
    rw [step_of_nil hq] at h
    rw [← Host.Outcome.next.inj h]
    exact aside _ _ (.tick s) hs
  | cons cmd rest =>
    rw [step_of_cons hq] at h
    exact exec_keeps c hopens hlanes hslots aside change reset (queue s rest hs) h

/-! ### The queue and time -/

theorem State.cancelAllPermits_pending (s : State) : s.cancelAllPermits.pending = s.pending := by
  obtain ⟨ps, ls, h⟩ := State.cancelAllPermits_frame s
  rw [h]

theorem State.cancelAllPermits_clock (s : State) : s.cancelAllPermits.clock = s.clock := by
  obtain ⟨ps, ls, h⟩ := State.cancelAllPermits_frame s
  rw [h]

/-- The change of holds, entries and an account leaves all else. -/
theorem State.changeAccount_rest (s : State) (i : Nat) (f : Account → Account) :
    ∃ ps, s.changeAccount i f = { s with persons := ps } := State.changeAccount_frame i f

/-- Every change keeps the queue, and lets time go on. -/
theorem Change.queue_time (h : Change c s t) :
    t.pending = s.pending ∧ s.clock.mono ≤ t.clock.mono ∧ s.clock.currentDay ≤ t.clock.currentDay := by
  cases h with
  | aside h _ => exact ⟨h.pending, h.mono, h.day⟩
  | remove l gone _ =>
    obtain ⟨ps, hf⟩ := State.removePermits_frame l gone s
    rw [hf]
    exact ⟨rfl, le_rfl, le_rfl⟩
  | ledger slots journal i f _ _ _ _ =>
    obtain ⟨ps, hf⟩ := State.changeAccount_rest { s with slots, journal } i f
    rw [hf]
    exact ⟨rfl, le_rfl, le_rfl⟩
  | muster id _ _ =>
    rw [State.cancelAllPermits_pending, State.cancelAllPermits_clock]
    exact ⟨rfl, le_rfl, le_rfl⟩
  | closing now =>
    rw [State.cancelAllPermits_pending, State.cancelAllPermits_clock]
    exact ⟨rfl, le_rfl, le_rfl⟩
  | _ => exact ⟨rfl, le_rfl, le_rfl⟩

/-- A setting that claims nothing beforehand, for what does not depend on it. -/
def Setting.plain : Setting := { opens := True, lanes := False, slots := False }

theorem Course.queue_time (h : Course c s t) :
    t.pending = s.pending ∧ s.clock.mono ≤ t.clock.mono ∧ s.clock.currentDay ≤ t.clock.currentDay :=
  Course.keeps (P := fun u => u.pending = s.pending ∧ s.clock.mono ≤ u.clock.mono ∧ s.clock.currentDay ≤ u.clock.currentDay)
    (fun _ _ hc hu => ⟨hc.queue_time.1.trans hu.1, hu.2.1.trans hc.queue_time.2.1, hu.2.2.trans hc.queue_time.2.2⟩)
    (fun _ _ ha hu => ⟨ha.pending.trans hu.1, hu.2.1.trans ha.mono, hu.2.2.trans ha.day⟩) h ⟨rfl, le_rfl, le_rfl⟩

theorem exec_course_open {cmd : Instr} (hr : restarts cmd s = false) (h : exec cmd s = .next t) : Course .plain s t :=
  exec_course (fun _ => trivial) False.elim False.elim hr h

/-- Settles O1: a step is the front command's, or a millisecond. -/
theorem stepRunsTheFrontCommand : Obligations.StepRunsTheFrontCommand := by
  refine ⟨fun s c rest h => step_of_cons h, fun s h => ⟨_, step_of_nil h, rfl, rfl, fun p hp => ?_⟩⟩
  cases p with
  | clock => simp at hp
  | store => simp at hp
  | pins => exact ⟨rfl, rfl, rfl⟩
  | tally => exact ⟨rfl, rfl⟩
  | deadline => exact ⟨rfl, rfl, rfl⟩
  | movements => exact ⟨rfl, rfl⟩
  | journal => exact ⟨rfl, rfl, rfl, rfl⟩
  | _ => rfl

/-- Settles O2: every kind of change and every reset keeps the queue. -/
theorem noCommandTouchesTheQueue : Obligations.NoCommandTouchesTheQueue := by
  intro cmd s t h
  cases hr : restarts cmd s with
  | true =>
    obtain ⟨cause, pins, rfl⟩ := exec_of_restarts hr h
    exact State.resetPart_pending cause pins s
  | false => exact (exec_course_open hr h).queue_time.1

/-- Settles O26: no kind of change takes monotonic time or the current day back. -/
theorem timeNeverRunsBack : Obligations.TimeNeverRunsBack := fun _ _ _ h hr => (exec_course_open hr h).queue_time.2

end Sys2Proof.Machine
end

section
/-!
PROOFS. Tables stay canonical, queues and counts within capacity, and levels in range (O55).
-/

namespace Sys2Proof.Machine

variable {c : Setting} {s t : State}

/-! ### What the change of one record leaves canonical -/

theorem moveTally_wf {t : Table Nat} (h : t.wf 0) (old new : Option (PersonClass × Location)) : (moveTally t old new).wf 0 := by
  have counted : ∀ {t : Table Nat} (f : Nat → Nat) (p : Option (PersonClass × Location)), t.wf 0 → (countAt f t p).wf 0 := by
    intro t f p ht
    cases p with
    | none => exact ht
    | some p => exact Table.wf_write ht _ _
  unfold moveTally
  split
  · exact h
  · exact counted _ _ (counted _ _ h)

theorem occupantsAt_wf {t : Table Cabin} (f : Nat → Nat) (h : t.wf Cabin.reset) (o : Option Nat) :
    (occupantsAt f t o).wf Cabin.reset := by
  cases o with
  | none => exact h
  | some k => exact Table.wf_write h _ _

theorem moveOccupant_wf {t : Table Cabin} (h : t.wf Cabin.reset) (old new : Option Nat) :
    (moveOccupant t old new).wf Cabin.reset := by
  unfold moveOccupant
  split
  · exact h
  · exact occupantsAt_wf _ (occupantsAt_wf _ h _) _

theorem Muster.lower_points_wf {m : Muster} (h : m.points.wf 0) (old : MusterState) : (m.lower old).points.wf 0 := by
  cases old with
  | mustered q => exact Table.wf_write h _ _
  | _ => exact h

theorem Muster.move_points_wf {m : Muster} (h : m.points.wf 0) (old new : MusterState) : (m.move old new).points.wf 0 := by
  have lowered := Muster.lower_points_wf h old
  unfold Muster.move
  split
  · exact h
  · cases new with
    | mustered p => exact Table.wf_write lowered _ _
    | _ => exact lowered

/-- A raising keeps the tables of the notice unit canonical. -/
theorem State.Tidy.raiseWhen (h : s.Tidy) (b : Bool) (m : MemberId) (d : Nat) : (s.raiseWhen b m d).Tidy :=
  (Aside.raiseWhen s b m d).tidy h

theorem State.Tidy.changePerson (h : s.Tidy) (i : Nat) (new : Option Person) : (s.changePerson i new).Tidy := by
  refine State.Tidy.raiseWhen (State.Tidy.raiseWhen ?_ _ _ _) _ _ _
  exact { h with
    persons := Table.wf_write h.persons _ _
    tally := moveTally_wf h.tally _ _
    cabins := moveOccupant_wf h.cabins _ _
    points := Muster.move_points_wf h.points _ _ }

theorem State.Tidy.putLane (h : s.Tidy) (l : Nat) (v : Lane) : (s.putLane l v).Tidy :=
  { h with lanes := Table.wf_write h.lanes _ _ }

theorem State.Tidy.removePermits (h : s.Tidy) (lane : Nat) (gone : Permit → Bool) : (s.removePermits lane gone).Tidy := by
  have persons := State.wf_removePermits h.persons lane gone
  obtain ⟨ps, hf⟩ := State.removePermits_frame lane gone s
  rw [hf] at persons ⊢
  exact { h with persons, lanes := Table.wf_write h.lanes _ _ }

theorem State.Tidy.cancelAllPermits (h : s.Tidy) : s.cancelAllPermits.Tidy :=
  State.cancelAllPermits_keeps (P := State.Tidy) (fun _ l _ hu => hu.removePermits l _) h

theorem State.Tidy.changeAccount (h : s.Tidy) (i : Nat) (f : Account → Account) : (s.changeAccount i f).Tidy := by
  have persons := State.wf_changeAccount h.persons i f
  obtain ⟨ps, hf⟩ := State.changeAccount_rest s i f
  rw [hf] at persons ⊢
  exact { h with persons }

/-- A completion writes one block's contents and one fault count (R158). -/
theorem Store.completed_tables (u : Store) (f : Flight) (agrees : Bool) :
    ((u.completed f agrees).blocks = u.blocks ∨ ∃ v, (u.completed f agrees).blocks = u.blocks.write .erased f.block v)
      ∧ ∃ n, (u.completed f agrees).faults = u.faults.write 0 f.block n := by
  have landed : ∀ u : Store, ((u.landed f agrees).blocks = u.blocks ∨ ∃ v, (u.landed f agrees).blocks = u.blocks.write .erased f.block v)
      ∧ (u.landed f agrees).faults = u.faults := fun u => by
    unfold Store.landed
    cases f.copy with
    | person l => exact ⟨.inr ⟨_, rfl⟩, rfl⟩
    | control facts => exact ⟨.inl rfl, rfl⟩
  have faulted : ∀ u : Store, (u.faulted f.block).blocks = u.blocks
      ∧ (u.faulted f.block).faults = u.faults.write 0 f.block (u.faultCount f.block + 1) := fun u => by
    unfold Store.faulted Store.fail Store.spoil
    dsimp only
    split
    · exact ⟨rfl, rfl⟩
    · split
      · exact ⟨rfl, rfl⟩
      · split <;> exact ⟨rfl, rfl⟩
  obtain ⟨hb, hf⟩ := landed { u with inFlight := none }
  unfold Store.completed Store.afterLast
  cases agrees with
  | true => exact ⟨hb, _, congrArg (fun faults => Table.write 0 faults f.block 0) hf⟩
  | false =>
    obtain ⟨fb, ff⟩ := faulted (({ u with inFlight := none } : Store).landed f false)
    rw [← fb] at hb
    rw [hf] at ff
    exact ⟨hb, _, ff⟩

theorem Change.tidy (h : Change c s t) (hs : s.Tidy) : t.Tidy := by
  cases h with
  | aside h _ => exact h.tidy hs
  | station a e _ => exact { hs with stations := Table.wf_write hs.stations _ _ }
  | lane l v _ _ => exact { hs with lanes := Table.wf_write hs.lanes _ _ }
  | remove l gone _ => exact hs.removePermits l gone
  | grant l i p _ _ _ _ _ _ => exact (hs.putLane _ _).changePerson _ _
  | stray l d permit _ _ _ => exact { hs with lanes := Table.wf_write hs.lanes _ _ }
  | passage l d permit p target _ _ _ => exact (hs.putLane _ _).changePerson _ _
  | cabin k v _ => exact { hs with cabins := Table.wf_write hs.cabins _ _ }
  | sweep k _ => exact { hs with cabins := Table.wf_write hs.cabins _ _ }
  | configure k _ => exact { hs with cabins := Table.wf_write hs.cabins _ _ }
  | unconfigure k _ => exact { hs with cabins := Table.wf_write hs.cabins _ _ }
  | person i new _ => exact hs.changePerson i new
  | ledger slots journal i f canonical _ _ _ => 
    have put : State.Tidy { s with slots, journal } := { hs with slots := canonical hs.slots }
    exact put.changeAccount i f
  | arrivals f _ _ => exact { hs with slots := Table.wf_mapRecords hs.slots _ }
  | muster id _ _ =>
    exact State.Tidy.cancelAllPermits { hs with
      persons := Table.wf_mapRecords hs.persons _, cabins := Table.wf_mapRecords hs.cabins _, points := Table.wf_nil }
  | dismiss _ _ =>
    exact { hs with
      persons := Table.wf_mapRecords hs.persons _, cabins := Table.wf_mapRecords hs.cabins _, points := Table.wf_nil }
  | mark b _ _ => exact { hs with }
  | turn waits =>
    exact { hs with
      blocks := by rw [State.turnAs, Store.turn_blocks]; exact hs.blocks
      faults := by rw [State.turnAs, Store.turn_faults]; exact hs.faults }
  | closing now => exact State.Tidy.cancelAllPermits { hs with }
  | released state _ _ _ => exact { hs with }
  | completed f agrees _ _ =>
    obtain ⟨hb, n, hn⟩ := s.store.completed_tables f agrees
    exact { hs with
      blocks := by
        rcases hb with hb | ⟨v, hb⟩ <;> dsimp only <;> rw [hb]
        · exact hs.blocks
        · exact Table.wf_write hs.blocks _ _
      faults := by dsimp only; rw [hn]; exact Table.wf_write hs.faults _ _ }
  | started _ => exact { hs with }

/-! ### Capacities and levels -/

theorem State.WithinCapacity.of_frame (h : s.WithinCapacity) (hh : t.host.port = s.host.port ∧ t.host.replies = s.host.replies)
    (hst : t.station = s.station) (hm : t.movementLog = s.movementLog ∧ t.discardCount = s.discardCount)
    (hj : t.journal.length ≤ 1024 ∧ t.allowance = s.allowance) (hn : t.notices.stack = s.notices.stack) :
    t.WithinCapacity where
  hostRequests := hh.1 ▸ h.hostRequests
  stationRequests := hst ▸ h.stationRequests
  hostReplies := hh.2 ▸ h.hostReplies
  stationReplies := hst ▸ h.stationReplies
  hostErrors := hh.1 ▸ h.hostErrors
  stationErrors := hst ▸ h.stationErrors
  movements := hm.1 ▸ h.movements
  discards := hm.2 ▸ h.discards
  journal := hj.1
  allowance := hj.2 ▸ h.allowance
  stack := hn ▸ h.stack

theorem State.raiseWhen_stack (s : State) (b : Bool) (m : MemberId) (d : Nat) :
    (s.raiseWhen b m d).notices.stack = s.notices.stack := by cases b <;> rfl

theorem State.changePerson_stack (s : State) (i : Nat) (new : Option Person) :
    (s.changePerson i new).notices.stack = s.notices.stack := by
  unfold State.changePerson
  dsimp only
  rw [State.raiseWhen_stack, State.raiseWhen_stack]

theorem State.LevelsInRange.raiseWhen (h : s.LevelsInRange) (b : Bool) (m : MemberId) (d : Nat) :
    (s.raiseWhen b m d).LevelsInRange := (Aside.raiseWhen s b m d).levels h

/-- The levels are the notice unit's alone. -/
theorem State.LevelsInRange.of_notices (h : s.LevelsInRange) (hn : t.notices = s.notices) : t.LevelsInRange := by
  obtain ⟨table, members, levels, alarm, service, stack, counts⟩ := h
  rw [← hn] at *
  exact ⟨table, members, levels, alarm, service, stack, counts⟩

theorem State.LevelsInRange.changePerson (h : s.LevelsInRange) (i : Nat) (new : Option Person) :
    (s.changePerson i new).LevelsInRange := by
  refine State.LevelsInRange.raiseWhen (State.LevelsInRange.raiseWhen (h.of_notices ?_) _ _ _) _ _ _
  rfl

theorem Change.withinCapacity (h : Change c s t) (hs : s.WithinCapacity) : t.WithinCapacity := by
  cases h with
  | aside h _ => exact h.capacity hs
  | remove l gone _ =>
    obtain ⟨ps, hf⟩ := State.removePermits_frame l gone s
    rw [hf]
    exact { hs with }
  | grant l i p _ _ _ _ _ _ =>
    exact hs.of_frame ⟨rfl, rfl⟩ rfl ⟨rfl, rfl⟩ ⟨hs.journal, rfl⟩ (State.changePerson_stack _ _ _)
  | passage l d permit p target _ _ _ =>
    exact hs.of_frame ⟨rfl, rfl⟩ rfl ⟨rfl, rfl⟩ ⟨hs.journal, rfl⟩ (State.changePerson_stack _ _ _)
  | person i new _ => exact hs.of_frame ⟨rfl, rfl⟩ rfl ⟨rfl, rfl⟩ ⟨hs.journal, rfl⟩ (State.changePerson_stack _ _ _)
  | ledger slots journal i f _ capacity _ _ =>
    obtain ⟨ps, hf⟩ := State.changeAccount_rest { s with slots, journal } i f
    rw [hf]
    exact { hs with journal := capacity hs.journal }
  | muster id _ _ =>
    obtain ⟨ps, ls, hf⟩ := State.cancelAllPermits_frame _
    rw [hf]
    exact { hs with }
  | closing now =>
    obtain ⟨ps, ls, hf⟩ := State.cancelAllPermits_frame _
    rw [hf]
    exact { hs with }
  | _ => exact { hs with }

theorem Change.levelsInRange (h : Change c s t) (hs : s.LevelsInRange) : t.LevelsInRange := by
  cases h with
  | aside h _ => exact h.levels hs
  | remove l gone _ =>
    obtain ⟨ps, hf⟩ := State.removePermits_frame l gone s
    rw [hf]
    exact { hs with }
  | grant l i p _ _ _ _ _ _ => exact State.LevelsInRange.changePerson (hs.of_notices (t := s.putLane l _) rfl) _ _
  | passage l d permit p target _ _ _ => exact State.LevelsInRange.changePerson (hs.of_notices (t := s.putLane l _) rfl) _ _
  | person i new _ => exact hs.changePerson i new
  | ledger slots journal i f _ _ _ _ =>
    obtain ⟨ps, hf⟩ := State.changeAccount_rest { s with slots, journal } i f
    rw [hf]
    exact { hs with }
  | muster id _ _ =>
    obtain ⟨ps, ls, hf⟩ := State.cancelAllPermits_frame _
    rw [hf]
    exact { hs with }
  | closing now =>
    obtain ⟨ps, ls, hf⟩ := State.cancelAllPermits_frame _
    rw [hf]
    exact { hs with }
  | _ => exact { hs with }

/-! ### Resets -/

theorem State.restarted_levelsInRange (cause : ResetCause) (pins : BitVec 4) (s : State) :
    (s.restarted cause pins).LevelsInRange where
  table := (by decide : defaultLevels.wf 0)
  members := Table.wf_nil
  levels g := by
    by_cases hg : (defaultLevels.read 0 g) = 0
    · exact (le_of_eq hg).trans (Nat.zero_le _)
    · have all : ∀ e ∈ defaultLevels, e.2 ≤ 7 := by decide
      exact all _ (Table.mem_of_read hg)
  alarm := rfl
  service := Nat.zero_le _
  stack _ h := absurd h List.not_mem_nil
  counts m := Nat.zero_le _

theorem State.resetPart_levelsInRange (cause : ResetCause) (pins : BitVec 4) (s : State) :
    (s.resetPart cause pins).LevelsInRange := by
  obtain ⟨phase, started, store, h⟩ := State.resetPart_rest cause pins s
  rw [h]
  exact { (State.restarted_levelsInRange cause pins s).raiseWhen _ _ _ with }

theorem State.resetPart_withinCapacity (cause : ResetCause) (pins : BitVec 4) (s : State) :
    (s.resetPart cause pins).WithinCapacity := by
  obtain ⟨phase, started, store, h⟩ := State.resetPart_rest cause pins s
  rw [h]
  constructor
  case stack => exact (le_of_eq (congrArg List.length (State.raiseWhen_stack (s.restarted cause pins) _ _ _))).trans (Nat.zero_le _)
  all_goals exact Nat.zero_le _

theorem tallyOf_wf (persons : Table (Option Person)) : (tallyOf persons).wf 0 := by
  unfold tallyOf
  suffices h : ∀ t : Table Nat, t.wf 0 → (persons.foldl (fun t e => countAt (· + 1) t (placeOf e.2)) t).wf 0 from h [] Table.wf_nil
  induction persons with
  | nil => exact fun _ ht => ht
  | cons e es ih =>
    intro t ht
    refine ih _ ?_
    dsimp only
    cases placeOf e.2 with
    | none => exact ht
    | some p => exact Table.wf_write ht _ _

theorem restoredMusterUnit_points (r : Restored) : (restoredMusterUnit r).points = [] := by
  unfold restoredMusterUnit
  split <;> rfl

/-- A write that a reset interrupts has its block fail its check (R157). -/
theorem Store.interrupted_blocks (u : Store) :
    u.interrupted.blocks = u.blocks ∨ ∃ b, u.interrupted.blocks = u.blocks.write .erased b .failing := by
  unfold Store.interrupted Store.landed
  cases u.inFlight with
  | none => exact .inl rfl
  | some f =>
    dsimp only
    cases f.copy with
    | person l => exact .inr ⟨f.block, rfl⟩
    | control facts => exact .inl rfl

/-- The store that a reset leaves is the restored one, but for its state, dirty set and write in flight (R166). -/
theorem State.resetPart_store (cause : ResetCause) (pins : BitVec 4) (s : State) :
    (s.resetPart cause pins).store
      = if s.restoring.found.facts.unusable then { restoredStore s.store.interrupted s.restoring with state := .opened }
        else (restoredStore s.store.interrupted s.restoring).startWrite s.restoring.persons (restoredMusterUnit s.restoring) 0
          controlBlock := by
  unfold State.resetPart State.beginStep4
  change (if s.restoring.found.facts.unusable then _ else _ : State).store = _
  split <;> rfl

theorem State.Tidy.resetPart (h : s.Tidy) (cause : ResetCause) (pins : BitVec 4) : (s.resetPart cause pins).Tidy := by
  have blocks : s.store.interrupted.blocks.wf .erased := by
    rcases s.store.interrupted_blocks with hb | ⟨b, hb⟩ <;> rw [hb]
    · exact h.blocks
    · exact Table.wf_write h.blocks _ _
  have store : (s.resetPart cause pins).store.blocks = s.store.interrupted.blocks ∧ (s.resetPart cause pins).store.faults = [] := by
    rw [State.resetPart_store]
    split <;> exact ⟨rfl, rfl⟩
  have restarted : (s.restarted cause pins).Tidy :=
    { decoders := Table.wf_nil, persons := Table.wf_ofEntries _, tally := tallyOf_wf _, stations := Table.wf_nil
      lanes := Table.wf_ofEntries _, cabins := Table.wf_nil, outlets := Table.wf_nil, slots := Table.wf_nil
      points := by
        change (restoredMusterUnit s.restoring).points.wf 0
        rw [restoredMusterUnit_points]
        exact Table.wf_nil
      levels := (State.restarted_levelsInRange cause pins s).table, groupsPending := Table.wf_nil, members := Table.wf_nil
      blocks := blocks, faults := Table.wf_nil }
  obtain ⟨phase, started, store', hr⟩ := State.resetPart_rest cause pins s
  rw [hr] at store ⊢
  exact { restarted.raiseWhen _ _ _ with
    blocks := store.1 ▸ blocks
    faults := store.2 ▸ Table.wf_nil }

/-- Settles O55: each of the three is kept by every kind of change and by a reset. -/
theorem stepsKeepTablesAndCapacities : Obligations.StepsKeepTablesAndCapacities := fun _ _ h =>
  ⟨step_keeps .plain trivial False.elim False.elim (fun _ _ ha => ha.tidy) (fun _ _ hc => hc.tidy)
      (fun cause pins _ hs => hs.resetPart cause pins) (fun _ _ hs => { hs with }) h,
    step_keeps .plain trivial False.elim False.elim (fun _ _ ha => ha.capacity) (fun _ _ hc => hc.withinCapacity)
      (fun cause pins s _ => State.resetPart_withinCapacity cause pins s) (fun _ _ hs => { hs with }) h,
    step_keeps .plain trivial False.elim False.elim (fun _ _ ha => ha.levels) (fun _ _ hc => hc.levelsInRange)
      (fun cause pins s _ => State.resetPart_levelsInRange cause pins s) (fun _ _ hs => { hs with }) h⟩

end Sys2Proof.Machine
end

section
/-!
PROOFS. The tally, the records and the occupant counts agree after every step (O56).
-/

namespace Sys2Proof

section Entries

variable {α : Type} [DecidableEq α] {d : α}

/-- A table written from entries lists entries alone. -/
theorem Table.mem_ofEntries {entries : List (Nat × α)} {x : Nat × α} (h : x ∈ Table.ofEntries d entries) : x ∈ entries := by
  suffices hl : ∀ t : Table α, x ∈ entries.foldl (fun t e => Table.write d t e.1 e.2) t → x ∈ entries ∨ x ∈ t from
    (hl [] h).resolve_right List.not_mem_nil
  clear h
  induction entries with
  | nil => exact fun _ hx => .inr hx
  | cons e es ih =>
    intro t hx
    rcases ih _ hx with hx | hx
    · exact .inl (List.mem_cons_of_mem _ hx)
    · rcases Table.mem_write hx with rfl | hx
      · exact .inl List.mem_cons_self
      · exact .inr hx

/-- A write above every listed number joins the end. -/
theorem Table.write_above {t : Table α} {k : Nat} {v : α} (h : ∀ x ∈ t, x.1 < k) (hv : v ≠ d) : t.write d k v = t ++ [(k, v)] := by
  induction t with
  | nil => simp [Table.write, hv]
  | cons e t ih =>
    have hk := h e List.mem_cons_self
    rw [show e = (e.1, e.2) from rfl, Table.write, if_neg (by omega), if_neg (by omega), ih fun x hx => h x (List.mem_cons_of_mem _ hx)]
    rfl

/-- Entries in canonical form are the table written from them. -/
theorem Table.ofEntries_eq_self {entries : List (Nat × α)} (h : Table.wf d entries) : Table.ofEntries d entries = entries := by
  suffices hl : ∀ t : Table α, (∀ x ∈ t, ∀ e ∈ entries, x.1 < e.1) →
      entries.foldl (fun t e => Table.write d t e.1 e.2) t = t ++ entries from hl [] fun _ hx => absurd hx List.not_mem_nil
  induction entries with
  | nil => exact fun t _ => (List.append_nil t).symm
  | cons e es ih =>
    obtain ⟨hlt, hne, hes⟩ := Table.wf_cons.mp h
    intro t ht
    rw [List.foldl_cons, Table.write_above (fun x hx => ht x hx e List.mem_cons_self) hne, ih hes]
    · simp
    · intro x hx e' he'
      rcases List.mem_append.mp hx with hx | hx
      · exact ht x hx e' (List.mem_cons_of_mem _ he')
      · rw [List.mem_singleton.mp hx]
        exact hlt e' he'

end Entries

end Sys2Proof

namespace Sys2Proof.Machine

variable {c : Setting} {s t : State}

/-! ### Changes made of changes of one record -/

/-- What the dropping of one gate permit field and the change of a lane keep, the removal of permits keeps. -/
theorem State.removePermits_keeps {P : State → Prop} {lane : Nat} {gone : Permit → Bool}
    (drop : ∀ u i p, P u → u.person i = some p → P (u.changePerson i (some { p with gatePermit := none })))
    (put : ∀ u v, P u → P (u.putLane lane v)) (h : P s) : P (s.removePermits lane gone) := by
  have dropped : ∀ (l : List Permit) (u : State), P u → P (l.foldl (fun s p => s.dropGatePermit p.person) u) := by
    intro l
    induction l with
    | nil => exact fun _ hu => hu
    | cons q l ih =>
      intro u hu
      refine ih _ ?_
      dsimp only [State.dropGatePermit]
      cases hp : u.person q.person with
      | none => exact hu
      | some p => exact drop u _ p hu hp
  exact put _ _ (dropped _ s h)

/-- What the change of one account keeps, the change of an account, where there is one, keeps. -/
theorem State.changeAccount_keeps {P : State → Prop} {i : Nat} {f : Account → Account}
    (change : ∀ p a, s.person i = some p → p.account = some a → P (s.changePerson i (some { p with account := some (f a) })))
    (h : P s) : P (s.changeAccount i f) := by
  unfold State.changeAccount
  cases hp : s.person i with
  | none => exact h
  | some p =>
    cases ha : p.account with
    | none => simpa only [ha] using h
    | some a => simpa only [ha] using change p a hp ha

/-! ### The tally -/

theorem placeCode_inj {cls cls' : PersonClass} {loc loc' : Location} :
    4 * cls.code + loc.code = 4 * cls'.code + loc'.code ↔ cls = cls' ∧ loc = loc' := by
  cases cls <;> cases cls' <;> cases loc <;> cases loc' <;> decide

theorem countAt_wf {t : Table Nat} (h : t.wf 0) (f : Nat → Nat) (p : Option (PersonClass × Location)) : (countAt f t p).wf 0 := by
  cases p with
  | none => exact h
  | some p => exact Table.wf_write h _ _

/-- A change of the count of one place changes that count alone. -/
theorem countAt_read {t : Table Nat} (h : t.wf 0) (f : Nat → Nat) (p : Option (PersonClass × Location)) (cls : PersonClass)
    (loc : Location) : (countAt f t p).read 0 (4 * cls.code + loc.code)
      = if p = some (cls, loc) then f (t.read 0 (4 * cls.code + loc.code)) else t.read 0 (4 * cls.code + loc.code) := by
  cases p with
  | none => rfl
  | some p =>
    obtain ⟨cls', loc'⟩ := p
    rw [countAt, Table.read_write h]
    by_cases hp : cls = cls' ∧ loc = loc'
    · obtain ⟨rfl, rfl⟩ := hp
      simp
    · rw [if_neg (fun e => hp (placeCode_inj.mp e)), if_neg]
      rintro ⟨⟩
      exact hp ⟨rfl, rfl⟩

/-- A record stands at a place exactly when the test of that place picks it. -/
theorem any_place (o : Option Person) (cls : PersonClass) (loc : Location) :
    (o.any fun p => p.cls == cls && p.location == loc) = decide (placeOf o = some (cls, loc)) := by
  cases o with
  | none => rfl
  | some p => simp [placeOf, Bool.decide_and, Bool.beq_eq_decide_eq]

theorem State.TallyAgrees.changePerson (h : s.TallyAgrees) (i : Nat) (new : Option Person) : (s.changePerson i new).TallyAgrees where
  persons := Table.wf_write h.persons _ _
  tally := moveTally_wf h.tally _ _
  counts cls loc := by
    have moved := State.countPersons_write h.persons (fun p => p.cls == cls && p.location == loc) i new
      (t := s.changePerson i new) rfl
    have counted := h.counts cls loc
    have present : placeOf (s.person i) = some (cls, loc) → 0 < s.countPersons fun p => p.cls == cls && p.location == loc := by
      cases hp : s.person i with
      | none => intro h; cases h
      | some p => exact fun hplace => State.countPersons_pos hp (by simpa [placeOf] using hplace)
    simp only [any_place] at moved
    unfold State.tallyCount at counted ⊢
    rw [State.changePerson_tally, moveTally]
    split
    · rename_i hsame
      rw [hsame] at moved
      omega
    · rename_i hdiffer
      rw [countAt_read (countAt_wf h.tally _ _), countAt_read h.tally]
      by_cases ho : placeOf (s.person i) = some (cls, loc)
      · have hn : placeOf new ≠ some (cls, loc) := fun hn => hdiffer (ho.trans hn.symm)
        have := present ho
        simp only [ho, hn, if_true, if_false, decide_true, decide_false, Bool.toNat_true, Bool.toNat_false] at moved ⊢
        omega
      · simp only [ho, if_false, decide_false, Bool.toNat_false] at moved ⊢
        split
        · simp only [*, decide_true, Bool.toNat_true] at moved
          omega
        · simp only [*, decide_false, Bool.toNat_false] at moved
          omega

theorem State.TallyAgrees.of_eq (h : s.TallyAgrees) (hp : t.persons = s.persons) (ht : t.tally = s.tally) : t.TallyAgrees where
  persons := hp ▸ h.persons
  tally := ht ▸ h.tally
  counts cls loc := by
    have := h.counts cls loc
    unfold State.tallyCount State.countPersons at this ⊢
    rw [hp, ht]
    exact this

theorem State.TallyAgrees.mapRecords (h : s.TallyAgrees) {g : Person → Person}
    (hg : ∀ p, (g p).cls = p.cls ∧ (g p).location = p.location)
    (hp : t.persons = s.persons.mapRecords none (Option.map g)) (ht : t.tally = s.tally) : t.TallyAgrees where
  persons := hp ▸ Table.wf_mapRecords h.persons _
  tally := ht ▸ h.tally
  counts cls loc := by
    have := h.counts cls loc
    unfold State.tallyCount at this ⊢
    rw [ht, this, State.countPersons_mapRecords hp]
    congr 1
    funext p
    simp [hg p]

theorem State.TallyAgrees.removePermits (h : s.TallyAgrees) (l : Nat) (gone : Permit → Bool) :
    (s.removePermits l gone).TallyAgrees :=
  State.removePermits_keeps (P := State.TallyAgrees) (fun _ i _ hu _ => hu.changePerson i _) (fun _ _ hu => hu.of_eq rfl rfl) h

theorem State.TallyAgrees.cancelAllPermits (h : s.TallyAgrees) : s.cancelAllPermits.TallyAgrees :=
  State.cancelAllPermits_keeps (P := State.TallyAgrees) (fun _ l _ hu => hu.removePermits l _) h

theorem Change.tallyAgrees (h : Change c s t) (hs : s.TallyAgrees) : t.TallyAgrees := by
  cases h with
  | aside h _ => exact hs.of_eq h.persons h.tally
  | remove l gone _ => exact hs.removePermits l gone
  | grant l i p _ _ _ _ _ _ => exact (hs.changePerson i _).of_eq rfl rfl
  | passage l d permit p target _ _ _ =>
    exact (hs.of_eq (t := s.putLane l { s.lane l with permits := consume d (s.lane l).permits }) rfl rfl).changePerson _ _
  | person i new _ => exact hs.changePerson i new
  | ledger slots journal i f _ _ _ _ =>
    rw [State.changeAccount_ledger]
    have changed : (s.changeAccount i f).TallyAgrees :=
      State.changeAccount_keeps (P := State.TallyAgrees) (fun p a _ _ => hs.changePerson i _) hs
    exact changed.of_eq rfl rfl
  | muster id _ _ =>
    refine State.TallyAgrees.cancelAllPermits (hs.mapRecords (g := Person.atMusterStart) ?_ ?_ ?_)
    · exact fun _ => ⟨rfl, rfl⟩
    · rfl
    · rfl
  | dismiss _ _ => exact hs.mapRecords (g := Person.atMusterEnd) (fun _ => ⟨rfl, rfl⟩) rfl rfl
  | closing now =>
    refine State.TallyAgrees.cancelAllPermits (hs.of_eq ?_ ?_) <;> rfl
  | _ => exact hs.of_eq rfl rfl

/-! ### The records -/

theorem State.RecordsWellFormed.of_eq (h : s.RecordsWellFormed) (hp : t.persons = s.persons) : t.RecordsWellFormed where
  persons := hp ▸ h.persons
  records i p hi := h.records i p (by unfold State.person at hi ⊢; rwa [hp] at hi)

theorem State.RecordsWellFormed.changePerson (h : s.RecordsWellFormed) (i : Nat) (new : Option Person)
    (hn : ∀ p, new = some p → p.WellFormed) : (s.changePerson i new).RecordsWellFormed where
  persons := State.wf_changePerson h.persons i new
  records j p hj := by
    rw [State.person_changePerson h.persons] at hj
    split at hj
    · exact hn p hj
    · exact h.records j p hj

theorem State.RecordsWellFormed.mapRecords (h : s.RecordsWellFormed) {g : Person → Person}
    (hg : ∀ p, p.WellFormed → (g p).WellFormed) (hp : t.persons = s.persons.mapRecords none (Option.map g)) :
    t.RecordsWellFormed where
  persons := hp ▸ Table.wf_mapRecords h.persons _
  records i p hi := by
    unfold State.person at hi
    rw [hp, Table.read_mapRecords h.persons rfl, Option.map_eq_some_iff] at hi
    obtain ⟨v, hv, rfl⟩ := hi
    exact hg v (h.records i v hv)

/-- A person's permit, location and muster state do not bear on the form of the record. -/
theorem Person.WellFormed.moved {p : Person} (h : p.WellFormed) (location : Location) (muster : MusterState)
    (gatePermit : Option Nat) : Person.WellFormed { p with location, muster, gatePermit } := { h with }

theorem State.RecordsWellFormed.removePermits (h : s.RecordsWellFormed) (l : Nat) (gone : Permit → Bool) :
    (s.removePermits l gone).RecordsWellFormed := by
  refine State.removePermits_keeps (P := State.RecordsWellFormed) (fun u i p hu hp => hu.changePerson i _ ?_)
    (fun _ _ hu => hu.of_eq rfl) h
  rintro _ ⟨⟩
  exact (hu.records i p hp).moved _ _ _

theorem State.RecordsWellFormed.cancelAllPermits (h : s.RecordsWellFormed) : s.cancelAllPermits.RecordsWellFormed :=
  State.cancelAllPermits_keeps (P := State.RecordsWellFormed) (fun _ l _ hu => hu.removePermits l _) h

theorem Person.WellFormed.ranged {p : Person} {a : Account} {f : Account → Account} (h : p.WellFormed) (ha : p.account = some a)
    (hf : KeepsRanges f) : Person.WellFormed { p with account := some (f a) } := by
  obtain ⟨credit, daily, ranges⟩ := hf a
  refine { h with restored := fun hl => ?_, limits := ?_, amounts := ?_ }
  · have := (h.restored hl).2.2.2
    rw [ha] at this
    cases this
  · rintro _ ⟨⟩
    rw [credit, daily]
    exact h.limits a ha
  · rintro _ ⟨⟩
    exact ranges (h.amounts a ha)

theorem Change.recordsWellFormed (h : Change c s t) (hs : s.RecordsWellFormed) : t.RecordsWellFormed := by
  cases h with
  | aside h _ => exact hs.of_eq h.persons
  | remove l gone _ => exact hs.removePermits l gone
  | grant l i p _ _ _ record _ _ =>
    refine State.RecordsWellFormed.of_eq (s := s.changePerson i (some { p with gatePermit := some l })) (hs.changePerson i _ ?_) rfl
    rintro _ ⟨⟩
    exact (hs.records i p record).moved _ _ _
  | passage l d permit p target _ _ record =>
    refine (hs.of_eq (t := s.putLane l { s.lane l with permits := consume d (s.lane l).permits }) rfl).changePerson _ _ ?_
    rintro _ ⟨⟩
    exact (hs.records _ p record).moved _ _ _
  | person i new fits => exact hs.changePerson i new (fits.wellFormed (hs.records i))
  | ledger slots journal i f _ _ ranges _ =>
    rw [State.changeAccount_ledger]
    refine State.RecordsWellFormed.of_eq (s := s.changeAccount i f)
      (State.changeAccount_keeps (P := State.RecordsWellFormed) (fun p a hp ha => hs.changePerson i _ ?_) hs) rfl
    rintro _ ⟨⟩
    exact (hs.records i p hp).ranged ha ranges
  | muster id _ _ =>
    refine State.RecordsWellFormed.cancelAllPermits (hs.mapRecords (g := Person.atMusterStart) ?_ ?_)
    · exact fun _ hp => { hp with }
    · rfl
  | dismiss _ _ => exact hs.mapRecords (g := Person.atMusterEnd) (fun _ hp => { hp with }) rfl
  | closing now =>
    refine State.RecordsWellFormed.cancelAllPermits (hs.of_eq ?_)
    rfl
  | _ => exact hs.of_eq rfl

/-! ### The occupant counts -/

theorem State.OccupantsAgree.of_eq (h : s.OccupantsAgree) (hp : t.persons = s.persons) (hw : t.cabins.wf Cabin.reset)
    (hc : ∀ k, (t.cabin k).occupants = (s.cabin k).occupants) : t.OccupantsAgree where
  persons := hp ▸ h.persons
  cabins := hw
  counts k := by
    have := h.counts k
    unfold State.countPersons at this ⊢
    rw [hp, hc, this]
  atMost k := hc k ▸ h.atMost k

theorem occupantsAt_read {t : Table Cabin} (h : t.wf Cabin.reset) (f : Nat → Nat) (o : Option Nat) (k : Nat) :
    ((occupantsAt f t o).read Cabin.reset k).occupants
      = if o = some k then f (t.read Cabin.reset k).occupants else (t.read Cabin.reset k).occupants := by
  cases o with
  | none => rfl
  | some k' =>
    rw [occupantsAt, Table.read_write h]
    by_cases hk : k = k'
    · subst hk
      simp
    · rw [if_neg hk, if_neg fun e => hk (Option.some.inj e).symm]

theorem any_cabin (o : Option Person) (k : Nat) : (o.any fun p => p.cabin == some k) = decide (cabinOf o = some k) := by
  cases o with
  | none => rfl
  | some p => by_cases h : p.cabin = some k <;> simp [cabinOf, h]

theorem State.OccupantsAgree.changePerson (h : s.OccupantsAgree) (i : Nat) (new : Option Person)
    (hn : ∀ k, cabinOf new = some k → cabinOf (s.person i) = some k ∨ (s.cabin k).occupants < 8) :
    (s.changePerson i new).OccupantsAgree := by
  have key : ∀ k, ((s.changePerson i new).cabin k).occupants = (s.changePerson i new).countPersons (fun p => p.cabin == some k)
      ∧ ((s.changePerson i new).cabin k).occupants ≤ 8 := by
    intro k
    have moved := State.countPersons_write h.persons (fun p => p.cabin == some k) i new (t := s.changePerson i new) rfl
    have counted := h.counts k
    have atMost := h.atMost k
    have present : cabinOf (s.person i) = some k → 0 < s.countPersons fun p => p.cabin == some k := by
      cases hp : s.person i with
      | none => intro h; cases h
      | some p => exact fun hk => State.countPersons_pos hp (by simpa [cabinOf] using hk)
    have room := hn k
    simp only [any_cabin] at moved
    unfold State.cabin at counted atMost room ⊢
    rw [State.changePerson_cabins, moveOccupant]
    split
    · rename_i hsame
      rw [hsame] at moved
      omega
    · rename_i hdiffer
      rw [occupantsAt_read (occupantsAt_wf _ h.cabins _), occupantsAt_read h.cabins]
      by_cases ho : cabinOf (s.person i) = some k
      · have hn : cabinOf new ≠ some k := fun hn => hdiffer (ho.trans hn.symm)
        have := present ho
        simp only [ho, hn, if_true, if_false, decide_true, decide_false, Bool.toNat_true, Bool.toNat_false] at moved ⊢
        omega
      · simp only [ho, if_false, decide_false, Bool.toNat_false, false_or] at moved room ⊢
        split
        · rename_i hnew
          simp only [hnew, decide_true, Bool.toNat_true, forall_true_left] at moved room
          omega
        · simp only [*, decide_false, Bool.toNat_false] at moved
          omega
  exact ⟨State.wf_changePerson h.persons i new, moveOccupant_wf h.cabins _ _, fun k => (key k).1, fun k => (key k).2⟩

theorem State.OccupantsAgree.putCabin (h : s.OccupantsAgree) {k : Nat} {v : Cabin} (hv : v.occupants = (s.cabin k).occupants)
    (hp : t.persons = s.persons) (hc : t.cabins = s.cabins.write Cabin.reset k v) : t.OccupantsAgree := by
  refine h.of_eq hp (hc ▸ Table.wf_write h.cabins _ _) fun j => ?_
  unfold State.cabin at hv ⊢
  rw [hc, Table.read_write h.cabins]
  split
  · rename_i hj
    rw [hj, hv]
  · rfl

theorem State.OccupantsAgree.mapRecords (h : s.OccupantsAgree) {g : Person → Person} {f : Cabin → Cabin}
    (hg : ∀ p, (g p).cabin = p.cabin) (hf : ∀ v, (f v).occupants = v.occupants) (hr : f Cabin.reset = Cabin.reset)
    (hp : t.persons = s.persons.mapRecords none (Option.map g)) (hc : t.cabins = s.cabins.mapRecords Cabin.reset f) :
    t.OccupantsAgree := by
  have same : ∀ k, (t.cabin k).occupants = (s.cabin k).occupants := fun k => by
    unfold State.cabin
    rw [hc, Table.read_mapRecords h.cabins hr, hf]
  refine ⟨hp ▸ Table.wf_mapRecords h.persons _, hc ▸ Table.wf_mapRecords h.cabins _, fun k => ?_, fun k => same k ▸ h.atMost k⟩
  rw [same, h.counts k, State.countPersons_mapRecords hp]
  congr 1
  funext p
  simp [hg p]

theorem State.OccupantsAgree.removePermits (h : s.OccupantsAgree) (l : Nat) (gone : Permit → Bool) :
    (s.removePermits l gone).OccupantsAgree :=
  State.removePermits_keeps (P := State.OccupantsAgree)
    (fun u i p hu hp => hu.changePerson i _ fun k hk => .inl (by rw [hp]; exact hk))
    (fun _ _ hu => hu.of_eq rfl hu.cabins fun _ => rfl) h

theorem State.OccupantsAgree.cancelAllPermits (h : s.OccupantsAgree) : s.cancelAllPermits.OccupantsAgree :=
  State.cancelAllPermits_keeps (P := State.OccupantsAgree) (fun _ l _ hu => hu.removePermits l _) h

theorem Change.occupantsAgree (h : Change c s t) (hs : s.OccupantsAgree) : t.OccupantsAgree := by
  cases h with
  | aside h _ => exact hs.of_eq h.persons (h.cabins ▸ hs.cabins) fun k => by unfold State.cabin; rw [h.cabins]
  | remove l gone _ => exact hs.removePermits l gone
  | grant l i p _ _ _ record _ _ =>
    have granted : (s.changePerson i (some { p with gatePermit := some l })).OccupantsAgree :=
      hs.changePerson i _ fun k hk => .inl (by rw [record]; exact hk)
    exact granted.of_eq rfl granted.cabins fun _ => rfl
  | passage l d permit p target _ _ record =>
    have put : (s.putLane l { s.lane l with permits := consume d (s.lane l).permits }).OccupantsAgree :=
      hs.of_eq rfl hs.cabins fun _ => rfl
    exact put.changePerson _ _ fun k hk => .inl ((congrArg cabinOf record).trans hk)
  | cabin k v same => exact hs.putCabin same.2.2 rfl rfl
  | sweep k _ =>
    refine hs.putCabin (k := k) (v := { s.cabin k with sweep := .swept }) ?_ ?_ ?_ <;> rfl
  | configure k _ =>
    refine hs.putCabin (k := k) (v := (s.cabin k).configure s.muster.active) ?_ ?_ ?_ <;> rfl
  | unconfigure k _ => exact hs.putCabin (k := k) (v := (s.cabin k).unconfigure) rfl rfl rfl
  | person i new fits => exact hs.changePerson i new fits.cabin
  | ledger slots journal i f _ _ _ _ =>
    rw [State.changeAccount_ledger]
    have changed : (s.changeAccount i f).OccupantsAgree :=
      State.changeAccount_keeps (P := State.OccupantsAgree)
        (fun p a hp _ => hs.changePerson i _ fun k hk => .inl (by rw [hp]; exact hk)) hs
    exact changed.of_eq rfl changed.cabins fun _ => rfl
  | muster id _ _ =>
    refine State.OccupantsAgree.cancelAllPermits (hs.mapRecords (g := Person.atMusterStart) (f := Cabin.atMusterStart) ?_ ?_ ?_ ?_ ?_)
    · exact fun _ => rfl
    · exact fun _ => rfl
    · rfl
    · rfl
    · rfl
  | dismiss _ _ =>
    exact hs.mapRecords (g := Person.atMusterEnd) (f := Cabin.atMusterEnd) (fun _ => rfl) (fun _ => rfl) rfl rfl rfl
  | closing now =>
    refine State.OccupantsAgree.cancelAllPermits (hs.of_eq ?_ hs.cabins fun _ => ?_) <;> rfl
  | _ => exact hs.of_eq rfl hs.cabins fun _ => rfl

/-! ### Resets -/

/-- The records of a block found are restored ones, one for each of its entries (R165). -/
theorem mem_recordsOf {active : Bool} {b : BlockFound} {x : Nat × Option Person} :
    x ∈ recordsOf active b ↔ ∃ l e, b = .entries l ∧ (x.1, e) ∈ l ∧ x.2 = some (restoredPerson active e) := by
  unfold recordsOf
  cases b with
  | entries l =>
    simp only [List.mem_map]
    constructor
    · rintro ⟨e, he, rfl⟩
      exact ⟨l, e.2, rfl, he, rfl⟩
    · rintro ⟨_, e, ⟨⟩, he, hx⟩
      exact ⟨(x.1, e), he, Prod.ext rfl hx.symm⟩
  | _ => simp

/-- Whether the restore finds a muster active (R164). -/
abbrev State.foundActive (s : State) : Bool := s.restoring.found.facts.musterActive

/-- Every record that a restore leaves is a restored one. -/
theorem State.restoring_mem {x : Nat × Option Person} (h : x ∈ s.restoring.persons) :
    ∃ e, x.2 = some (restoredPerson s.foundActive e) := by
  obtain ⟨b, -, hx⟩ := List.mem_flatMap.mp (Table.mem_ofEntries h)
  obtain ⟨l, e, -, -, he⟩ := mem_recordsOf.mp hx
  exact ⟨e, he⟩

theorem State.restoring_wf (s : State) : s.restoring.persons.wf none := Table.wf_ofEntries _

theorem State.resetPart_record {cause : ResetCause} {pins : BitVec 4} {i : Nat} {p : Person}
    (h : (s.resetPart cause pins).person i = some p) : ∃ e, p = restoredPerson s.foundActive e := by
  unfold State.person at h
  rw [State.resetPart_persons] at h
  obtain ⟨e, he⟩ := State.restoring_mem ((Table.mem_iff_read s.restoring_wf).mpr ⟨h, by simp⟩)
  exact ⟨e, Option.some.inj he⟩

theorem State.resetPart_wf (cause : ResetCause) (pins : BitVec 4) (s : State) : (s.resetPart cause pins).persons.wf none := by
  rw [State.resetPart_persons]
  exact s.restoring_wf

/-- The restored tally counts the records of each place (R21, R165). -/
theorem tallyOf_counts (persons : Table (Option Person)) (cls : PersonClass) (loc : Location) :
    (tallyOf persons).read 0 (4 * cls.code + loc.code)
      = (persons.filter fun e => e.2.any fun p => p.cls == cls && p.location == loc).length := by
  unfold tallyOf
  suffices h : ∀ t : Table Nat, t.wf 0 → (persons.foldl (fun t e => countAt (· + 1) t (placeOf e.2)) t).read 0 (4 * cls.code + loc.code)
      = t.read 0 (4 * cls.code + loc.code)
        + (persons.filter fun e => e.2.any fun p => p.cls == cls && p.location == loc).length by
    simpa using h [] Table.wf_nil
  induction persons with
  | nil => exact fun _ _ => rfl
  | cons e es ih =>
    intro t ht
    rw [List.foldl_cons, ih _ (countAt_wf ht _ _), countAt_read ht, List.filter_cons, any_place]
    by_cases hp : placeOf e.2 = some (cls, loc)
    · simp only [hp, if_true, decide_true, List.length_cons]
      omega
    · simp [hp]

theorem State.resetPart_tallyAgrees (cause : ResetCause) (pins : BitVec 4) (s : State) : (s.resetPart cause pins).TallyAgrees where
  persons := State.resetPart_wf cause pins s
  tally := by rw [State.resetPart_tally]; exact tallyOf_wf _
  counts cls loc := by
    unfold State.tallyCount State.countPersons
    rw [State.resetPart_tally, State.resetPart_persons]
    exact tallyOf_counts _ cls loc

theorem restoredPerson_wellFormed (active : Bool) (e : StoredEntry) : (restoredPerson active e).WellFormed where
  restored _ := ⟨rfl, rfl, rfl, rfl⟩
  visitor _ := rfl
  crewRights h := nomatch h
  crewSweep h := nomatch h
  rights _ h := nomatch h
  limits _ h := nomatch h
  amounts _ h := nomatch h

theorem State.resetPart_recordsWellFormed (cause : ResetCause) (pins : BitVec 4) (s : State) :
    (s.resetPart cause pins).RecordsWellFormed where
  persons := State.resetPart_wf cause pins s
  records i p h := by
    obtain ⟨e, rfl⟩ := State.resetPart_record h
    exact restoredPerson_wellFormed _ _

theorem State.resetPart_cabins (cause : ResetCause) (pins : BitVec 4) (s : State) : (s.resetPart cause pins).cabins = [] := by
  obtain ⟨phase, started, store, h⟩ := State.resetPart_rest cause pins s
  rw [h]
  rfl

theorem State.resetPart_occupantsAgree (cause : ResetCause) (pins : BitVec 4) (s : State) :
    (s.resetPart cause pins).OccupantsAgree := by
  have reset : ∀ k, (s.resetPart cause pins).cabin k = Cabin.reset := fun k => by
    unfold State.cabin
    rw [State.resetPart_cabins]
    rfl
  refine ⟨State.resetPart_wf cause pins s, State.resetPart_cabins cause pins s ▸ Table.wf_nil, fun k => ?_, fun k => ?_⟩
  · rw [reset]
    refine ((State.countPersons_eq_zero (State.resetPart_wf cause pins s)).mpr ?_).symm
    intro i p hp
    obtain ⟨e, rfl⟩ := State.resetPart_record hp
    rfl
  · rw [reset]
    exact Nat.zero_le _

/-- Settles O56: each of the three is kept by every kind of change and by a reset. -/
theorem stepsKeepThePersonTableAgreed : Obligations.StepsKeepThePersonTableAgreed := fun _ _ h =>
  ⟨step_keeps .plain trivial False.elim False.elim (fun _ _ ha hs => hs.of_eq ha.persons ha.tally) (fun _ _ hc => hc.tallyAgrees)
      (fun cause pins s _ => State.resetPart_tallyAgrees cause pins s) (fun _ _ hs => hs.of_eq rfl rfl) h,
    step_keeps .plain trivial False.elim False.elim (fun _ _ ha hs => hs.of_eq ha.persons) (fun _ _ hc => hc.recordsWellFormed)
      (fun cause pins s _ => State.resetPart_recordsWellFormed cause pins s) (fun _ _ hs => hs.of_eq rfl) h,
    step_keeps .plain trivial False.elim False.elim
      (fun _ _ ha hs => hs.of_eq ha.persons (ha.cabins ▸ hs.cabins) fun k => by unfold State.cabin; rw [ha.cabins])
      (fun _ _ hc => hc.occupantsAgree) (fun cause pins s _ => State.resetPart_occupantsAgree cause pins s)
      (fun _ _ hs => hs.of_eq rfl hs.cabins fun _ => rfl) h⟩

end Sys2Proof.Machine
end

section
/-!
PROOFS. Permits and gate permit fields agree, and no permit stands in a muster or while the store is not OPEN (O57).
-/

namespace Sys2Proof

/-- A table written from the entries of the numbers below a bound. -/
theorem Table.read_ofEntries_range {α : Type} [DecidableEq α] {d : α} (n : Nat) (f : Nat → α) (k : Nat) :
    (Table.ofEntries d ((List.range n).map fun l => (l, f l))).read d k = if k < n then f k else d := by
  induction n with
  | zero => rfl
  | succ n ih =>
    have last : Table.ofEntries d ((List.range (n + 1)).map fun l => (l, f l))
        = (Table.ofEntries d ((List.range n).map fun l => (l, f l))).write d n (f n) := by
      rw [List.range_succ, List.map_append]
      unfold Table.ofEntries
      rw [List.foldl_append]
      rfl
    rw [last, Table.read_write (Table.wf_ofEntries _), ih]
    by_cases hk : k = n
    · simp [hk]
    · simp only [hk, if_false, (by omega : k < n + 1 ↔ k < n)]

end Sys2Proof

namespace Sys2Proof.Machine

variable {c : Setting} {s t : State}

/-! ### No permit in a muster, or while the store is not OPEN -/

/-- What holds permits back: a muster is ACTIVE or the store is not OPEN (R58). -/
def State.holdsBack (s : State) : Prop := s.muster.active = true ∨ s.store.state ≠ .opened

/-- A change of the lanes that brings no permit into an empty queue, in a state held back only where it was so before. -/
theorem State.PermitsHeldBack.of_lanes (h : s.PermitsHeldBack) (hw : t.lanes.wf Lane.reset) (numbered : ∀ e ∈ t.lanes, e.1 < 4)
    (stations : t.stations = s.stations) (back : t.holdsBack → s.holdsBack)
    (permits : ∀ l, (s.lane l).permits = [] → (t.lane l).permits = []) : t.PermitsHeldBack where
  lanes := hw
  stations := stations ▸ h.stations
  numbered := numbered
  bound a l := by
    unfold State.stationEntry
    rw [stations]
    exact h.bound a l
  none hb l := permits l (h.none (back hb) l)

theorem State.PermitsHeldBack.of_same (h : s.PermitsHeldBack) (lanes : t.lanes = s.lanes) (stations : t.stations = s.stations)
    (back : t.holdsBack → s.holdsBack) : t.PermitsHeldBack :=
  h.of_lanes (lanes ▸ h.lanes) (lanes ▸ h.numbered) stations back fun l hl => by unfold State.lane; rw [lanes]; exact hl

/-- A write of one of the four lanes, that leaves an empty queue empty. -/
theorem State.PermitsHeldBack.write (h : s.PermitsHeldBack) {l : Nat} {v : Lane} (hl : l < 4)
    (lanes : t.lanes = s.lanes.write Lane.reset l v) (stations : t.stations = s.stations) (back : t.holdsBack → s.holdsBack)
    (permits : (s.lane l).permits = [] → v.permits = []) : t.PermitsHeldBack := by
  refine h.of_lanes (lanes ▸ Table.wf_write h.lanes _ _) (fun e he => ?_) stations back fun j hj => ?_
  · rw [lanes] at he
    rcases Table.mem_write he with rfl | he
    · exact hl
    · exact h.numbered e he
  · unfold State.lane at permits hj ⊢
    rw [lanes, Table.read_write h.lanes]
    split
    · rename_i hjl
      rw [hjl] at hj
      exact permits hj
    · exact hj

theorem State.PermitsHeldBack.removePermits (h : s.PermitsHeldBack) {l : Nat} (hl : l < 4) (gone : Permit → Bool) :
    (s.removePermits l gone).PermitsHeldBack := by
  obtain ⟨ps, hf⟩ := State.removePermits_frame l gone s
  refine h.write (v := { s.lane l with permits := (s.lane l).permits.filter fun p => !gone p }.settleFlap) hl ?_ ?_ ?_ fun he => ?_
  · rw [hf]
  · rw [hf]
  · rw [hf]; exact id
  · simp [Lane.settleFlap, he]

theorem removePermits_permits (h : s.lanes.wf Lane.reset) (l j : Nat) :
    ((s.removePermits l fun _ => true).lane j).permits = if j = l then [] else (s.lane j).permits := by
  rw [State.lane_removePermits h]
  split
  · simp [Lane.settleFlap]
  · rfl

/-- The cancellation of every permit leaves none in the four lanes (R58). -/
theorem State.cancelAllPermits_permits (h : s.lanes.wf Lane.reset) {j : Nat} (hj : j < 4) : (s.cancelAllPermits.lane j).permits = [] := by
  unfold State.cancelAllPermits
  suffices hl : ∀ (ls : List Nat) (u : State), u.lanes.wf Lane.reset →
      ((ls.foldl (fun s l => s.removePermits l fun _ => true) u).lane j).permits = if j ∈ ls then [] else (u.lane j).permits by
    rw [hl _ s h, if_pos (List.mem_range.mpr hj)]
  intro ls
  induction ls with
  | nil => exact fun _ _ => by simp
  | cons l ls ih =>
    intro u hu
    rw [List.foldl_cons, ih _ (State.lanes_removePermits_wf hu _ _), removePermits_permits hu]
    by_cases hj : j ∈ ls <;> by_cases hl : j = l <;> simp [hj, hl]

/-- After the cancellation of every permit it is no matter whether permits are held back. -/
theorem State.PermitsHeldBack.cancelAllPermits (h : s.PermitsHeldBack) (stations : t.stations = s.stations) (lanes : t.lanes = s.lanes) :
    t.cancelAllPermits.PermitsHeldBack := by
  have kept : t.cancelAllPermits.lanes.wf Lane.reset ∧ (∀ e ∈ t.cancelAllPermits.lanes, e.1 < 4) ∧ t.cancelAllPermits.stations = s.stations := by
    refine State.cancelAllPermits_keeps (P := fun u => u.lanes.wf Lane.reset ∧ (∀ e ∈ u.lanes, e.1 < 4) ∧ u.stations = s.stations)
      (fun u l hl hu => ?_) ⟨lanes ▸ h.lanes, lanes ▸ h.numbered, stations⟩
    obtain ⟨ps, hf⟩ := State.removePermits_frame l (fun _ => true) u
    rw [hf]
    refine ⟨Table.wf_write hu.1 _ _, fun e he => ?_, hu.2.2⟩
    rcases Table.mem_write he with rfl | he
    · exact hl
    · exact hu.2.1 e he
  have four : ∀ l, (t.cancelAllPermits.lane l).permits = [] := fun l => by
    by_cases hl : l < 4
    · exact State.cancelAllPermits_permits (lanes ▸ h.lanes) hl
    · have : t.cancelAllPermits.lane l = Lane.reset := Table.read_unlisted fun e he => by have := kept.2.1 e he; omega
      rw [this]
      rfl
  exact ⟨kept.1, by rw [kept.2.2]; exact h.stations, kept.2.1, fun a l => by unfold State.stationEntry; rw [kept.2.2]; exact h.bound a l, fun _ l => four l⟩

theorem Muster.move_active (m : Muster) (old new : MusterState) : (m.move old new).active = m.active := by
  have lowered : (m.lower old).active = m.active := by cases old <;> rfl
  have lifted : ∀ m : Muster, (m.lift new).active = m.active := fun m => by cases new <;> rfl
  unfold Muster.move
  split
  · rfl
  · rw [lifted, lowered]

theorem State.changePerson_holdsBack (i : Nat) (new : Option Person) : (s.changePerson i new).holdsBack ↔ s.holdsBack := by
  unfold State.holdsBack
  rw [State.changePerson_muster, State.changePerson_store, Muster.move_active]
  rfl

/-- An OPEN store is still OPEN when a write completes; only a CLOSING store closes (R158 to R162). -/
theorem Store.completed_opened {u : Store} (h : u.state = .opened) (f : Flight) (agrees : Bool) : (u.completed f agrees).state = .opened := by
  have landed : (({ u with inFlight := none } : Store).landed f agrees).state = .opened := by
    unfold Store.landed
    cases f.copy <;> exact h
  unfold Store.completed Store.afterLast
  generalize ({ u with inFlight := none } : Store).landed f agrees = v at landed
  have faulted : (v.faulted f.block).state = .opened := by
    unfold Store.faulted Store.fail Store.spoil Store.markWhen
    dsimp only
    split
    · exact landed
    · split
      · simp [landed]
      · split <;> simp [landed]
  cases agrees with
  | true => simp [Store.agreed, Store.closes, Store.reopens, landed]
  | false => exact faulted

theorem consume_eq_eraseP (d : Direction) (l : List Permit) : consume d l = l.eraseP fun p => decide (p.direction = d) := by
  induction l with
  | nil => rfl
  | cons p l ih => by_cases hp : p.direction = d <;> simp [consume, hp, ih]

theorem State.PermitsHeldBack.aside (hs : s.PermitsHeldBack) (h : Aside s t) : t.PermitsHeldBack :=
  hs.of_same h.lanes h.stations (by unfold State.holdsBack; rw [h.muster, h.store]; exact id)

theorem Change.permitsHeldBack (hc : c.lanes) (h : Change c s t) (hs : s.PermitsHeldBack) : t.PermitsHeldBack := by
  cases h with
  | aside h _ => exact hs.aside h
  | station a e bound =>
    refine { hs with stations := Table.wf_write hs.stations _ _, bound := fun b l => ?_ }
    unfold State.stationEntry
    dsimp only
    rw [Table.read_write hs.stations]
    split
    · exact fun hk hb => bound hk l hb
    · exact hs.bound b l
  | lane l v hl permits => exact hs.write hl rfl rfl id fun he => (permits hc).trans he
  | remove l gone hl => exact hs.removePermits hl gone
  | grant l i p hl idle opened _ _ _ =>
    have unheld : ¬ (s.grantPermit l i p).holdsBack := fun hb => by
      rcases (State.changePerson_holdsBack i _).mp hb with ha | ho
      · rw [idle] at ha; cases ha
      · exact ho opened
    have moved : (s.changePerson i (some { p with gatePermit := some l })).PermitsHeldBack :=
      hs.of_same rfl rfl (State.changePerson_holdsBack i _).mp
    refine ⟨Table.wf_write hs.lanes _ _, hs.stations, fun e he => ?_, hs.bound, fun hb => absurd hb unheld⟩
    rcases Table.mem_write he with rfl | he
    · exact hl hs
    · exact hs.numbered e he
  | stray l d permit hl _ _ => exact hs.write hl rfl rfl id fun he => by rw [he]; rfl
  | passage l d permit p target hl _ _ =>
    refine hs.write (l := l) (v := { s.lane l with permits := consume d (s.lane l).permits }) hl ?_ ?_ ?_ fun he => ?_
    · rfl
    · rfl
    · exact (State.changePerson_holdsBack _ _).mp
    · rw [he]; rfl
  | person i new _ => exact hs.of_same rfl rfl (State.changePerson_holdsBack i new).mp
  | ledger slots journal i f _ _ _ _ =>
    obtain ⟨ps, hf⟩ := State.changeAccount_rest { s with slots, journal } i f
    rw [hf]
    exact hs.of_same rfl rfl id
  | muster id _ _ => exact hs.cancelAllPermits rfl rfl
  | dismiss opened _ =>
    exact hs.of_same rfl rfl fun hb => by rcases hb with hb | hb; cases hb; exact absurd opened hb
  | turn waits =>
    refine hs.of_same rfl rfl fun hb => ?_
    unfold State.holdsBack State.turnAs at hb
    rwa [Store.turn_state] at hb
  | closing now => exact hs.cancelAllPermits rfl rfl
  | released state _ unopened _ => exact hs.of_same rfl rfl fun _ => .inr unopened
  | completed f agrees _ _ =>
    exact hs.of_same rfl rfl fun hb => hb.imp id fun hb ho => hb (Store.completed_opened ho f agrees)
  | started _ => exact hs.of_same rfl rfl fun hb => hb.imp id fun hb => absurd rfl hb
  | _ => exact hs.of_same rfl rfl id

/-! ### Gate permit fields and queues -/

/-- The lanes and the persons alone bear on the agreement. -/
theorem State.PermitsAgree.of_eq (h : s.PermitsAgree) (hp : t.persons = s.persons) (hl : t.lanes = s.lanes) : t.PermitsAgree where
  persons := hp ▸ h.persons
  lanes := hl ▸ h.lanes
  agree i l := by unfold State.person State.lane; rw [hp, hl]; exact h.agree i l
  atMost l := by unfold State.lane; rw [hl]; exact h.atMost l
  once l := by unfold State.lane; rw [hl]; exact h.once l

/-- Records that keep their gate permits, and lanes that keep their queues, keep the agreement. -/
theorem State.PermitsAgree.of_kept (h : s.PermitsAgree) (hp : t.persons.wf none) (hl : t.lanes.wf Lane.reset)
    (gate : ∀ i, (t.person i).bind Person.gatePermit = (s.person i).bind Person.gatePermit)
    (permits : ∀ l, (t.lane l).permits = (s.lane l).permits) : t.PermitsAgree where
  persons := hp
  lanes := hl
  agree i l := by rw [gate]; unfold Lane.holdsPermitFor; rw [permits]; exact h.agree i l
  atMost l := by rw [permits]; exact h.atMost l
  once l := by rw [permits]; exact h.once l

theorem State.PermitsAgree.changePerson (h : s.PermitsAgree) {i : Nat} {new : Option Person}
    (gate : new.bind Person.gatePermit = (s.person i).bind Person.gatePermit) : (s.changePerson i new).PermitsAgree := by
  refine h.of_kept (State.wf_changePerson h.persons i new) h.lanes (fun j => ?_) fun _ => rfl
  rw [State.person_changePerson h.persons]
  split
  · rename_i hj
    rw [hj, gate]
  · rfl

/-- Permits leave one lane's queue, and their persons their gate permits. -/
theorem State.PermitsAgree.drop (h : s.PermitsAgree) {l : Nat} {rest : List Permit} (hp : t.persons.wf none)
    (hl : t.lanes.wf Lane.reset) (sub : rest.Sublist (s.lane l).permits)
    (lanes : ∀ j, (t.lane j).permits = if j = l then rest else (s.lane j).permits)
    (gone : ∀ i, ((s.lane l).holdsPermitFor i ∧ ∀ p ∈ rest, p.person ≠ i) → (t.person i).bind Person.gatePermit = none)
    (kept : ∀ i, ¬ ((s.lane l).holdsPermitFor i ∧ ∀ p ∈ rest, p.person ≠ i) →
      (t.person i).bind Person.gatePermit = (s.person i).bind Person.gatePermit) :
    t.PermitsAgree where
  persons := hp
  lanes := hl
  agree i j := by
    have agree := h.agree i
    unfold Lane.holdsPermitFor at agree ⊢
    rw [lanes]
    by_cases hgone : (s.lane l).holdsPermitFor i ∧ ∀ p ∈ rest, p.person ≠ i
    · rw [gone i hgone]
      have here : (s.person i).bind Person.gatePermit = some l := (agree l).mpr hgone.1
      refine ⟨(nomatch ·), fun ⟨p, hmem, hi⟩ => ?_⟩
      split at hmem
      · exact absurd hi (hgone.2 p hmem)
      · rename_i hj
        have there := (agree j).mpr ⟨p, hmem, hi⟩
        rw [here] at there
        exact absurd (Option.some.inj there).symm hj
    · rw [kept i hgone, agree j]
      split
      · rename_i hj
        subst hj
        refine ⟨fun hheld => ?_, fun ⟨p, hmem, hi⟩ => ⟨p, sub.mem hmem, hi⟩⟩
        by_contra hn
        exact hgone ⟨hheld, fun p hmem hi => hn ⟨p, hmem, hi⟩⟩
      · exact Iff.rfl
  atMost j := by
    rw [lanes]
    split
    · exact sub.length_le.trans (h.atMost l)
    · exact h.atMost j
  once j := by
    rw [lanes]
    split
    · exact (sub.map Permit.person).nodup (h.once l)
    · exact h.once j

/-- In a queue of permits for different persons, one that a filter takes leaves none for its person. -/
theorem none_left {l : List Permit} (hl : (l.map Permit.person).Nodup) {gone : Permit → Bool} {i : Nat} :
    ((∃ p ∈ l, p.person = i) ∧ ∀ p ∈ l.filter (fun p => !gone p), p.person ≠ i) ↔ ∃ p ∈ l.filter gone, p.person = i := by
  simp only [List.mem_filter, and_imp, Bool.not_eq_true']
  constructor
  · rintro ⟨⟨p, hm, hi⟩, hleft⟩
    refine ⟨p, ⟨hm, ?_⟩, hi⟩
    by_contra hg
    exact hleft p hm (by simpa using hg) hi
  · rintro ⟨p, ⟨hm, hg⟩, hi⟩
    refine ⟨⟨p, hm, hi⟩, fun q hq hgq hqi => ?_⟩
    have same : q = p := List.inj_on_of_nodup_map hl hq hm (hqi.trans hi.symm)
    rw [same, hg] at hgq
    cases hgq

theorem State.PermitsAgree.removePermits (h : s.PermitsAgree) (l : Nat) (gone : Permit → Bool) :
    (s.removePermits l gone).PermitsAgree := by
  refine h.drop (l := l) (rest := (s.lane l).permits.filter fun p => !gone p) (State.wf_removePermits h.persons l gone)
    (State.lanes_removePermits_wf h.lanes l gone) List.filter_sublist (fun j => ?_) (fun i hi => ?_) fun i hi => ?_
  · rw [State.lane_removePermits h.lanes]
    split <;> rfl
  · rw [State.person_removePermits h.persons, if_pos ((none_left (h.once l)).mp hi)]
    cases s.person i <;> rfl
  · rw [State.person_removePermits h.persons, if_neg fun hg => hi ((none_left (h.once l)).mpr hg)]

theorem State.PermitsAgree.cancelAllPermits (h : s.PermitsAgree) : s.cancelAllPermits.PermitsAgree :=
  State.cancelAllPermits_keeps (P := State.PermitsAgree) (fun _ l _ hu => hu.removePermits l _) h

/-- The person of the permit that a direction consumes has no other in the queue. -/
theorem consume_none_left {l : List Permit} {d : Direction} {permit : Permit} (hl : (l.map Permit.person).Nodup)
    (first : l.find? (fun p => decide (p.direction = d)) = some permit) {i : Nat} :
    ((∃ p ∈ l, p.person = i) ∧ ∀ p ∈ consume d l, p.person ≠ i) ↔ i = permit.person := by
  obtain ⟨before, after, rfl, hc⟩ := eraseP_eq_of_find? first
  rw [consume_eq_eraseP, hc]
  simp only [List.map_append, List.map_cons, List.nodup_append, List.nodup_cons, List.mem_map, List.mem_cons, List.mem_append] at hl ⊢
  obtain ⟨-, ⟨hafter, -⟩, hbefore⟩ := hl
  constructor
  · rintro ⟨⟨p, hp, hi⟩, hleft⟩
    rcases hp with hp | rfl | hp
    · exact absurd hi (hleft p (.inl hp))
    · exact hi.symm
    · exact absurd hi (hleft p (.inr hp))
  · rintro rfl
    refine ⟨⟨permit, .inr (.inl rfl), rfl⟩, fun p hp hi => ?_⟩
    rcases hp with hp | hp
    · exact hbefore _ ⟨p, hp, rfl⟩ _ (.inl rfl) hi
    · exact hafter ⟨p, hp, hi⟩

theorem consume_sublist (d : Direction) (l : List Permit) : (consume d l).Sublist l := by
  rw [consume_eq_eraseP]
  exact List.eraseP_sublist

theorem State.PermitsAgree.granted (h : s.PermitsAgree) {l i : Nat} {p : Person} (record : s.person i = some p)
    (without : p.gatePermit = none) (room : (s.lane l).permits.length < 2) : (s.grantPermit l i p).PermitsAgree := by
  have unheld : ∀ j, ¬ (s.lane j).holdsPermitFor i := fun j hj => by
    have := (h.agree i j).mpr hj
    rw [record, Option.bind_some, without] at this
    cases this
  have lane : ∀ j, ((s.grantPermit l i p).lane j).permits = if j = l then (s.lane l).permits
      ++ [⟨i, wantedDirection p.location, s.clock.mono, s.clock.mono + 1000 * (s.lane l).setup.permitWindow⟩]
      else (s.lane j).permits := fun j => by
    unfold State.grantPermit
    rw [lane_putLane (by exact h.lanes)]
    split <;> rfl
  have person : ∀ j, (s.grantPermit l i p).person j = if j = i then some { p with gatePermit := some l } else s.person j :=
    fun j => State.person_changePerson h.persons i _ j
  refine ⟨State.wf_changePerson h.persons i _, Table.wf_write h.lanes _ _, fun j k => ?_, fun j => ?_, fun j => ?_⟩
  · have agree := h.agree j k
    unfold Lane.holdsPermitFor at agree ⊢
    rw [person, lane]
    by_cases hj : j = i
    · subst hj
      have := unheld k
      unfold Lane.holdsPermitFor at this
      by_cases hk : k = l
      · simp [hk]
      · simp [hk, this, Ne.symm hk]
    · rw [if_neg hj, agree]
      by_cases hk : k = l
      · subst hk
        simp [Ne.symm hj, or_and_right, exists_or]
      · simp [hk]
  · rw [lane]
    split
    · rw [List.length_append]
      exact room
    · exact h.atMost j
  · rw [lane]
    split
    · rw [List.map_append, List.nodup_append]
      refine ⟨h.once l, by simp, ?_⟩
      intro a ha b hb hab
      obtain ⟨q, hq, rfl⟩ := List.mem_map.mp ha
      rw [List.map_singleton, List.mem_singleton] at hb
      exact unheld l ⟨q, hq, hab.trans hb⟩
    · exact h.once j

theorem State.PermitsAgree.mapRecords (h : s.PermitsAgree) {g : Person → Person} (hg : ∀ p, (g p).gatePermit = p.gatePermit)
    (hp : t.persons = s.persons.mapRecords none (Option.map g)) (hl : t.lanes = s.lanes) : t.PermitsAgree := by
  refine h.of_kept (hp ▸ Table.wf_mapRecords h.persons _) (hl ▸ h.lanes) (fun i => ?_) fun l => by unfold State.lane; rw [hl]
  unfold State.person
  rw [hp, Table.read_mapRecords h.persons rfl]
  cases Table.read none s.persons i with
  | none => rfl
  | some p => exact hg p

theorem Change.permitsAgree (hc : c.lanes) (h : Change c s t) (hs : s.PermitsAgree) : t.PermitsAgree := by
  cases h with
  | aside h _ => exact hs.of_eq h.persons h.lanes
  | lane l v hl permits =>
    refine hs.of_kept hs.persons (Table.wf_write hs.lanes _ _) (fun _ => rfl) fun j => ?_
    rw [lane_putLane hs.lanes]
    split
    · rename_i hj
      rw [hj, permits hc]
    · rfl
  | remove l gone hl => exact hs.removePermits l gone
  | grant l i p _ _ _ record without room => exact hs.granted record without room
  | stray l d permit _ first nobody =>
    have held := (hs.agree permit.person l).mpr ⟨permit, List.mem_of_find?_eq_some (first hc), rfl⟩
    rw [nobody] at held
    cases held
  | passage l d permit p target _ first record =>
    refine hs.drop (l := l) (rest := consume d (s.lane l).permits) (State.wf_changePerson (by exact hs.persons) _ _)
      (Table.wf_write hs.lanes _ _) (consume_sublist d _) (fun j => ?_) (fun i hi => ?_) fun i hi => ?_
    · refine (congrArg Lane.permits (lane_putLane hs.lanes l _ j)).trans ?_
      split <;> rfl
    · rw [State.person_changePerson (by exact hs.persons), if_pos ((consume_none_left (hs.once l) (first hc)).mp hi)]
      rfl
    · rw [State.person_changePerson (by exact hs.persons),
        if_neg fun he => hi ((consume_none_left (hs.once l) (first hc)).mpr he)]
      rfl
  | person i new fits => exact hs.changePerson fits.permit
  | ledger slots journal i f _ _ _ _ =>
    rw [State.changeAccount_ledger]
    have changed : (s.changeAccount i f).PermitsAgree :=
      State.changeAccount_keeps (P := State.PermitsAgree) (fun p a hp _ => hs.changePerson (by rw [hp]; rfl)) hs
    exact changed.of_eq rfl rfl
  | muster id _ _ =>
    refine State.PermitsAgree.cancelAllPermits (hs.mapRecords (g := Person.atMusterStart) ?_ ?_ ?_)
    · exact fun _ => rfl
    · rfl
    · rfl
  | dismiss _ _ => exact hs.mapRecords (g := Person.atMusterEnd) (fun _ => rfl) rfl rfl
  | closing now =>
    refine State.PermitsAgree.cancelAllPermits (hs.of_eq ?_ ?_) <;> rfl
  | _ => exact hs.of_eq rfl rfl

/-! ### Resets -/

theorem State.resetPart_lane (cause : ResetCause) (pins : BitVec 4) (s : State) (l : Nat) :
    (s.resetPart cause pins).lane l = if l < 4 then (s.lane l).afterReset else Lane.reset := by
  unfold State.lane
  rw [State.resetPart_lanes]
  exact Table.read_ofEntries_range _ _ _

theorem State.resetPart_stations (cause : ResetCause) (pins : BitVec 4) (s : State) : (s.resetPart cause pins).stations = [] := by
  obtain ⟨phase, started, store, h⟩ := State.resetPart_rest cause pins s
  rw [h]
  rfl

theorem State.resetPart_permits (cause : ResetCause) (pins : BitVec 4) (s : State) (l : Nat) :
    ((s.resetPart cause pins).lane l).permits = [] := by
  rw [State.resetPart_lane]
  split <;> rfl

theorem State.resetPart_permitsHeldBack (cause : ResetCause) (pins : BitVec 4) (s : State) :
    (s.resetPart cause pins).PermitsHeldBack where
  lanes := by rw [State.resetPart_lanes]; exact Table.wf_ofEntries _
  stations := by rw [State.resetPart_stations]; exact Table.wf_nil
  numbered e he := by
    rw [State.resetPart_lanes] at he
    obtain ⟨l, hl, rfl⟩ := List.mem_map.mp (Table.mem_ofEntries he)
    exact List.mem_range.mp hl
  bound a l _ hb := by
    unfold State.stationEntry at hb
    rw [State.resetPart_stations] at hb
    cases hb
  none _ l := State.resetPart_permits cause pins s l

theorem State.resetPart_permitsAgree (cause : ResetCause) (pins : BitVec 4) (s : State) :
    (s.resetPart cause pins).PermitsAgree where
  persons := State.resetPart_wf cause pins s
  lanes := by rw [State.resetPart_lanes]; exact Table.wf_ofEntries _
  agree i l := by
    unfold Lane.holdsPermitFor
    rw [State.resetPart_permits]
    cases hp : (s.resetPart cause pins).person i with
    | none => simp
    | some p =>
      obtain ⟨e, rfl⟩ := State.resetPart_record hp
      simp [restoredPerson]
  atMost l := by rw [State.resetPart_permits]; exact Nat.zero_le _
  once l := by rw [State.resetPart_permits]; exact List.nodup_nil

/-- What is assumed of a state whose table of lanes is canonical. -/
def Setting.laned : Setting := { opens := True, lanes := True, slots := False }

/-- Settles O57: both are kept by every kind of change and by a reset. -/
theorem stepsKeepPermitsAgreed : Obligations.StepsKeepPermitsAgreed := by
  refine fun s t h => ⟨step_keeps .laned trivial (fun _ _ hs => hs.lanes) False.elim
      (fun _ _ ha hs => hs.aside ha) (fun _ _ hc => hc.permitsHeldBack trivial)
      (fun cause pins s _ => State.resetPart_permitsHeldBack cause pins s) (fun _ _ hs => hs.of_same rfl rfl id) h,
    fun _ => step_keeps .laned trivial (fun _ _ hs => hs.lanes) False.elim (fun _ _ ha hs => hs.of_eq ha.persons ha.lanes)
      (fun _ _ hc => hc.permitsAgree trivial) (fun cause pins s _ => State.resetPart_permitsAgree cause pins s)
      (fun _ _ hs => hs.of_eq rfl rfl) h⟩

end Sys2Proof.Machine
end

section
/-!
PROOFS. The muster counts and the sweep states agree with the records and the cabins after every step (O58).
-/

namespace Sys2Proof.Machine

variable {c : Setting} {s t : State}

/-! ### The counts of the muster unit -/

/-- The count that a muster state belongs to (R127). -/
def Muster.count (m : Muster) : MusterState → Nat
  | .none => 0
  | .unmustered => m.unmustered
  | .mustered q => m.points.read 0 q
  | .unrecorded => m.unrecorded

/-- The weight of a cabin in the unswept count. -/
def Cabin.unsweptWeight (v : Cabin) : Nat := (v.sweep == .unswept).toNat

/-- The agreement of the muster unit with the records and the cabins, the permits apart. -/
structure State.MusterCounts (s : State) : Prop where
  persons : s.persons.wf none
  cabins : s.cabins.wf Cabin.reset
  points : s.muster.points.wf 0
  counts : ∀ k, k ≠ .none → s.muster.count k = s.countPersons fun p => p.muster == k
  unswept : s.muster.unswept = Table.total Cabin.unsweptWeight s.cabins
  idle : s.muster.active = false → ∀ i p, s.person i = some p → p.muster = .none
  active : s.muster.active = true → ∀ i p, s.person i = some p → (p.location = .aboard ↔ p.muster ≠ .none)
  idleSweeps : s.muster.active = false → ∀ k, (s.cabin k).sweep = .none
  activeSweeps : s.muster.active = true → ∀ k, (s.cabin k).configured = true ↔ (s.cabin k).sweep ≠ .none

theorem State.musterAgrees_iff : s.MusterAgrees ↔ s.PermitsHeldBack ∧ s.MusterCounts := by
  have total := Table.length_filter_eq_total (fun v : Cabin => v.sweep == .unswept) s.cabins
  constructor
  · intro h
    refine ⟨h.heldBack, { h with counts := fun k hk => ?_, unswept := h.unswept.trans total }⟩
    cases k with
    | none => exact absurd rfl hk
    | unmustered => exact h.unmustered
    | mustered q => exact h.point q
    | unrecorded => exact h.unrecorded
  · rintro ⟨hb, h⟩
    exact { h with
      heldBack := hb
      unmustered := h.counts .unmustered (by simp)
      unrecorded := h.counts .unrecorded (by simp)
      point := fun q => h.counts (.mustered q) (by simp)
      unswept := h.unswept.trans total.symm }

theorem Muster.lower_count {m : Muster} (h : m.points.wf 0) (old : MusterState) {k : MusterState} (hk : k ≠ .none) :
    (m.lower old).count k = m.count k - if old = k then 1 else 0 := by
  cases old with
  | none => rw [if_neg (Ne.symm hk)]; rfl
  | unmustered => cases k <;> simp [Muster.lower, Muster.count]
  | unrecorded => cases k <;> simp [Muster.lower, Muster.count]
  | mustered q =>
    cases k with
    | mustered q' =>
      simp only [Muster.lower, Muster.count, Table.read_write h, MusterState.mustered.injEq]
      by_cases hq : q' = q
      · simp [hq]
      · simp [hq, Ne.symm hq]
    | _ => simp [Muster.lower, Muster.count]

theorem Muster.lift_count {m : Muster} (h : m.points.wf 0) (new : MusterState) {k : MusterState} (hk : k ≠ .none) :
    (m.lift new).count k = m.count k + if new = k then 1 else 0 := by
  cases new with
  | none => rw [if_neg (Ne.symm hk)]; rfl
  | unmustered => cases k <;> simp [Muster.lift, Muster.count]
  | unrecorded => cases k <;> simp [Muster.lift, Muster.count]
  | mustered q =>
    cases k with
    | mustered q' =>
      simp only [Muster.lift, Muster.count, Table.read_write h, MusterState.mustered.injEq]
      by_cases hq : q' = q
      · simp [hq]
      · simp [hq, Ne.symm hq]
    | _ => simp [Muster.lift, Muster.count]

theorem Muster.move_count {m : Muster} (h : m.points.wf 0) (old new : MusterState) {k : MusterState} (hk : k ≠ .none) :
    (m.move old new).count k
      = if old = new then m.count k else m.count k - (if old = k then 1 else 0) + if new = k then 1 else 0 := by
  unfold Muster.move
  split
  · rfl
  · rw [Muster.lift_count (Muster.lower_points_wf h old) new hk, Muster.lower_count h old hk]

theorem Muster.move_unswept (m : Muster) (old new : MusterState) : (m.move old new).unswept = m.unswept := by
  have lowered : (m.lower old).unswept = m.unswept := by cases old <;> rfl
  have lifted : ∀ m : Muster, (m.lift new).unswept = m.unswept := fun m => by cases new <;> rfl
  unfold Muster.move
  split
  · rfl
  · rw [lifted, lowered]

theorem any_muster (o : Option Person) {k : MusterState} (hk : k ≠ .none) :
    (o.any fun p => p.muster == k) = decide (musterOf o = k) := by
  cases o with
  | none => simp [musterOf, Ne.symm hk]
  | some p => by_cases h : p.muster = k <;> simp [musterOf, h]

/-! ### Sweeps -/

/-- A cabin as far as sweeps go. -/
def Cabin.sweepFacts (v : Cabin) : Bool × Sweep := (v.configured, v.sweep)

theorem Cabin.unsweptWeight_of_facts {v w : Cabin} (h : v.sweepFacts = w.sweepFacts) : v.unsweptWeight = w.unsweptWeight := by
  unfold Cabin.unsweptWeight
  rw [(Prod.mk.inj h).2]

/-- A write that keeps the facts of sweeps keeps the unswept count. -/
theorem total_unswept_write {ct : Table Cabin} (h : ct.wf Cabin.reset) {k : Nat} {v : Cabin}
    (hv : v.sweepFacts = (ct.read Cabin.reset k).sweepFacts) :
    Table.total Cabin.unsweptWeight (ct.write Cabin.reset k v) = Table.total Cabin.unsweptWeight ct := by
  have := Table.total_write (w := Cabin.unsweptWeight) h rfl k v
  rw [Cabin.unsweptWeight_of_facts hv] at this
  omega

theorem occupantsAt_sweeps {ct : Table Cabin} (h : ct.wf Cabin.reset) (f : Nat → Nat) (o : Option Nat) :
    Table.total Cabin.unsweptWeight (occupantsAt f ct o) = Table.total Cabin.unsweptWeight ct
      ∧ ∀ k, ((occupantsAt f ct o).read Cabin.reset k).sweepFacts = (ct.read Cabin.reset k).sweepFacts := by
  cases o with
  | none => exact ⟨rfl, fun _ => rfl⟩
  | some j =>
    refine ⟨total_unswept_write h rfl, fun k => ?_⟩
    rw [occupantsAt, Table.read_write h]
    split
    · rename_i hk
      rw [hk]
      rfl
    · rfl

theorem moveOccupant_sweeps {ct : Table Cabin} (h : ct.wf Cabin.reset) (old new : Option Nat) :
    Table.total Cabin.unsweptWeight (moveOccupant ct old new) = Table.total Cabin.unsweptWeight ct
      ∧ ∀ k, ((moveOccupant ct old new).read Cabin.reset k).sweepFacts = (ct.read Cabin.reset k).sweepFacts := by
  unfold moveOccupant
  split
  · exact ⟨rfl, fun _ => rfl⟩
  · have first := occupantsAt_sweeps h (· - 1) old
    have second := occupantsAt_sweeps (occupantsAt_wf (· - 1) h old) (· + 1) new
    exact ⟨second.1.trans first.1, fun k => (second.2 k).trans (first.2 k)⟩

/-! ### The kinds of change -/

theorem State.MusterCounts.of_eq (h : s.MusterCounts) (hp : t.persons = s.persons) (hc : t.cabins = s.cabins)
    (hm : t.muster = s.muster) : t.MusterCounts where
  persons := hp ▸ h.persons
  cabins := hc ▸ h.cabins
  points := hm ▸ h.points
  counts k hk := by unfold State.countPersons; rw [hm, hp]; exact h.counts k hk
  unswept := by rw [hm, hc]; exact h.unswept
  idle := by unfold State.person; rw [hm, hp]; exact h.idle
  active := by unfold State.person; rw [hm, hp]; exact h.active
  idleSweeps := by unfold State.cabin; rw [hm, hc]; exact h.idleSweeps
  activeSweeps := by unfold State.cabin; rw [hm, hc]; exact h.activeSweeps

theorem State.MusterCounts.changePerson (h : s.MusterCounts) (i : Nat) (new : Option Person)
    (idle : s.muster.active = false → musterOf (s.person i) = .none → musterOf new = .none)
    (active : s.muster.active = true → (∀ p, s.person i = some p → (p.location = .aboard ↔ p.muster ≠ .none)) →
      ∀ p, new = some p → (p.location = .aboard ↔ p.muster ≠ .none)) : (s.changePerson i new).MusterCounts := by
  have sweeps := moveOccupant_sweeps h.cabins (cabinOf (s.person i)) (cabinOf new)
  have facts : ∀ k, (((s.changePerson i new).cabin k).configured, ((s.changePerson i new).cabin k).sweep)
      = ((s.cabin k).configured, (s.cabin k).sweep) := sweeps.2
  constructor
  case persons => exact State.wf_changePerson h.persons i new
  case cabins => exact moveOccupant_wf h.cabins _ _
  case points => exact Muster.move_points_wf h.points _ _
  case counts =>
    intro k hk
    have moved := State.countPersons_write h.persons (fun p => p.muster == k) i new (t := s.changePerson i new) rfl
    have counted := h.counts k hk
    have present : musterOf (s.person i) = k → 0 < s.countPersons fun p => p.muster == k := by
      cases hp : s.person i with
      | none => exact fun hn => absurd hn.symm hk
      | some p => exact fun hn => State.countPersons_pos hp (by simpa [musterOf] using hn)
    simp only [any_muster _ hk] at moved
    rw [State.changePerson_muster, Muster.move_count h.points _ _ hk]
    by_cases hsame : musterOf (s.person i) = musterOf new
    · rw [if_pos hsame]
      rw [hsame] at moved
      omega
    · rw [if_neg hsame]
      by_cases ho : musterOf (s.person i) = k
      · have hn : musterOf new ≠ k := fun hn => hsame (ho.trans hn.symm)
        have := present ho
        simp only [ho, hn, if_true, if_false, decide_true, decide_false, Bool.toNat_true, Bool.toNat_false] at moved ⊢
        omega
      · by_cases hn : musterOf new = k
        · simp only [ho, hn, if_true, if_false, decide_true, decide_false, Bool.toNat_true, Bool.toNat_false] at moved ⊢
          omega
        · simp only [ho, hn, if_false, decide_false, Bool.toNat_false] at moved ⊢
          omega
  case unswept =>
    rw [State.changePerson_muster, Muster.move_unswept, h.unswept]
    exact sweeps.1.symm
  case idle =>
    rw [State.changePerson_muster, Muster.move_active]
    intro ha j p hj
    rw [State.person_changePerson h.persons] at hj
    split at hj
    · have none := idle ha (by
        cases hp : s.person i with
        | none => rfl
        | some q => exact h.idle ha i q hp)
      rw [hj] at none
      exact none
    · exact h.idle ha j p hj
  case active =>
    rw [State.changePerson_muster, Muster.move_active]
    intro ha j p hj
    rw [State.person_changePerson h.persons] at hj
    split at hj
    · exact active ha (h.active ha i) p hj
    · exact h.active ha j p hj
  case idleSweeps =>
    rw [State.changePerson_muster, Muster.move_active]
    exact fun ha k => (Prod.mk.inj (facts k)).2.trans (h.idleSweeps ha k)
  case activeSweeps =>
    rw [State.changePerson_muster, Muster.move_active]
    intro ha k
    rw [(Prod.mk.inj (facts k)).1, (Prod.mk.inj (facts k)).2]
    exact h.activeSweeps ha k

/-- A change of a record that reaches neither its location nor its muster state. -/
theorem State.MusterCounts.changeQuietly (h : s.MusterCounts) {i : Nat} {p q : Person} (record : s.person i = some p)
    (same : q.location = p.location ∧ q.muster = p.muster) : (s.changePerson i (some q)).MusterCounts := by
  refine h.changePerson i _ (fun _ hm => ?_) fun _ ha => ?_
  · rw [record] at hm
    exact same.2.trans hm
  · rintro _ ⟨⟩
    rw [same.1, same.2]
    exact ha p record

/-- A cabin is written, and the unswept count follows. -/
theorem State.MusterCounts.write (h : s.MusterCounts) {k : Nat} {v : Cabin} (hp : t.persons = s.persons)
    (hc : t.cabins = s.cabins.write Cabin.reset k v) (hm : t.muster = { s.muster with unswept := t.muster.unswept })
    (unswept : t.muster.unswept + (s.cabin k).unsweptWeight = s.muster.unswept + v.unsweptWeight)
    (idle : s.muster.active = false → v.sweep = .none)
    (active : s.muster.active = true → (v.configured = true ↔ v.sweep ≠ .none)) : t.MusterCounts := by
  have hactive : t.muster.active = s.muster.active := by rw [hm]
  have cabin : ∀ j, t.cabin j = if j = k then v else s.cabin j := fun j => by
    unfold State.cabin
    rw [hc, Table.read_write h.cabins]
  constructor
  case persons => exact hp ▸ h.persons
  case cabins => exact hc ▸ Table.wf_write h.cabins _ _
  case points => rw [hm]; exact h.points
  case counts =>
    intro j hj
    have same : t.muster.count j = s.muster.count j := by rw [hm]; cases j <;> rfl
    rw [same, h.counts j hj]
    unfold State.countPersons
    rw [hp]
  case unswept =>
    have total := Table.total_write (w := Cabin.unsweptWeight) h.cabins rfl k v
    have counted := h.unswept
    unfold State.cabin at unswept
    rw [hc]
    omega
  case idle => unfold State.person; rw [hactive, hp]; exact h.idle
  case active => unfold State.person; rw [hactive, hp]; exact h.active
  case idleSweeps =>
    rw [hactive]
    intro ha j
    rw [cabin]
    split
    · exact idle ha
    · exact h.idleSweeps ha j
  case activeSweeps =>
    rw [hactive]
    intro ha j
    rw [cabin]
    split
    · exact active ha
    · exact h.activeSweeps ha j

theorem State.MusterCounts.removePermits (h : s.MusterCounts) (l : Nat) (gone : Permit → Bool) :
    (s.removePermits l gone).MusterCounts :=
  State.removePermits_keeps (P := State.MusterCounts) (fun _ _ _ hu hp => hu.changeQuietly hp ⟨rfl, rfl⟩)
    (fun _ _ hu => hu.of_eq rfl rfl rfl) h

theorem State.MusterCounts.cancelAllPermits (h : s.MusterCounts) : s.cancelAllPermits.MusterCounts :=
  State.cancelAllPermits_keeps (P := State.MusterCounts) (fun _ l _ hu => hu.removePermits l _) h

theorem person_mapRecords {g : Person → Person} (h : s.persons.wf none) (hp : t.persons = s.persons.mapRecords none (Option.map g))
    (i : Nat) : t.person i = (s.person i).map g := by
  unfold State.person
  rw [hp, Table.read_mapRecords h rfl]

theorem cabin_mapRecords {f : Cabin → Cabin} (hr : f Cabin.reset = Cabin.reset) (h : s.cabins.wf Cabin.reset)
    (hc : t.cabins = s.cabins.mapRecords Cabin.reset f) (k : Nat) : t.cabin k = f (s.cabin k) := by
  unfold State.cabin
  rw [hc, Table.read_mapRecords h hr]

/-- A muster starts (R128): the ABOARD are UNMUSTERED, the configured cabins UNSWEPT, and both are counted. -/
theorem State.MusterCounts.start (h : s.MusterCounts) (idle : s.muster.active = false)
    (hp : t.persons = s.persons.mapRecords none (Option.map Person.atMusterStart))
    (hc : t.cabins = s.cabins.mapRecords Cabin.reset Cabin.atMusterStart) {id : Nat}
    (hm : t.muster = { active := true, id, points := [], unrecorded := 0, unmustered := s.aboardCount
                       unswept := s.configuredCount }) : t.MusterCounts := by
  have person := person_mapRecords h.persons hp
  have cabin := cabin_mapRecords rfl h.cabins hc
  constructor
  case persons => exact hp ▸ Table.wf_mapRecords h.persons _
  case cabins => exact hc ▸ Table.wf_mapRecords h.cabins _
  case points => rw [hm]; exact Table.wf_nil
  case counts =>
    intro k hk
    rw [State.countPersons_mapRecords hp]
    cases k with
    | none => exact absurd rfl hk
    | unmustered =>
      rw [hm]
      change s.countPersons (fun p => p.location == .aboard) = _
      refine State.countPersons_congr h.persons fun i p hi => ?_
      have := h.idle idle i p hi
      by_cases hl : p.location = .aboard <;> simp [Person.atMusterStart, hl, this]
    | mustered q =>
      rw [hm]
      refine ((State.countPersons_eq_zero h.persons).mpr fun i p hi => ?_).symm
      have := h.idle idle i p hi
      by_cases hl : p.location = .aboard <;> simp [Person.atMusterStart, hl, this]
    | unrecorded =>
      rw [hm]
      refine ((State.countPersons_eq_zero h.persons).mpr fun i p hi => ?_).symm
      have := h.idle idle i p hi
      by_cases hl : p.location = .aboard <;> simp [Person.atMusterStart, hl, this]
  case unswept =>
    rw [hm, hc, Table.total_mapRecords (d := Cabin.reset) _ _ rfl]
    refine (Table.length_filter_eq_total (fun v : Cabin => v.configured) s.cabins).trans (Table.total_congr h.cabins fun k => ?_)
    have : ((s.cabins.read Cabin.reset k)).sweep = .none := h.idleSweeps idle k
    simp only [Cabin.unsweptWeight, Cabin.atMusterStart, Function.comp_apply, this]
    cases (s.cabins.read Cabin.reset k).configured <;> rfl
  case idle => rw [hm]; exact fun ha => nomatch ha
  case active =>
    intro _ i p hi
    rw [person, Option.map_eq_some_iff] at hi
    obtain ⟨v, hv, rfl⟩ := hi
    have := h.idle idle i v hv
    by_cases hl : v.location = .aboard <;> simp [Person.atMusterStart, hl, this]
  case idleSweeps => rw [hm]; exact fun ha => nomatch ha
  case activeSweeps =>
    intro _ k
    have := h.idleSweeps idle k
    rw [cabin]
    cases hconf : (s.cabin k).configured <;> simp [Cabin.atMusterStart, hconf, this]

/-- A muster ends (R136): every muster and sweep state is none, and every count is 0. -/
theorem State.MusterCounts.finish (h : s.MusterCounts)
    (hp : t.persons = s.persons.mapRecords none (Option.map Person.atMusterEnd))
    (hc : t.cabins = s.cabins.mapRecords Cabin.reset Cabin.atMusterEnd) {id : Nat}
    (hm : t.muster = { active := false, id, points := [], unrecorded := 0, unmustered := 0, unswept := 0 }) : t.MusterCounts := by
  have person := person_mapRecords h.persons hp
  have cabin := cabin_mapRecords rfl h.cabins hc
  have cleared : ∀ i p, t.person i = some p → p.muster = .none := fun i p hi => by
    rw [person, Option.map_eq_some_iff] at hi
    obtain ⟨v, -, rfl⟩ := hi
    rfl
  have wf : t.persons.wf none := hp ▸ Table.wf_mapRecords h.persons _
  constructor
  case persons => exact wf
  case cabins => exact hc ▸ Table.wf_mapRecords h.cabins _
  case points => rw [hm]; exact Table.wf_nil
  case counts =>
    intro k hk
    have zero : t.muster.count k = 0 := by rw [hm]; cases k <;> rfl
    rw [zero, eq_comm, State.countPersons_eq_zero wf]
    intro i p hi
    simpa [cleared i p hi] using Ne.symm hk
  case unswept =>
    rw [hm, hc]
    refine ((Table.total_eq_zero (Table.wf_mapRecords h.cabins _) rfl).mpr fun k => ?_).symm
    rw [Table.read_mapRecords h.cabins rfl]
    rfl
  case idle => exact fun _ => cleared
  case active => rw [hm]; exact fun ha => nomatch ha
  case idleSweeps => exact fun _ k => by rw [cabin]; rfl
  case activeSweeps => rw [hm]; exact fun ha => nomatch ha

theorem Change.musterCounts (hc : c.lanes) (h : Change c s t) (hb : s.PermitsHeldBack) (hs : s.MusterCounts) : t.MusterCounts := by
  cases h with
  | aside h _ => exact hs.of_eq h.persons h.cabins h.muster
  | remove l gone _ => exact hs.removePermits l gone
  | grant l i p _ _ _ record _ _ =>
    exact (hs.changeQuietly (q := { p with gatePermit := some l }) record ⟨rfl, rfl⟩).of_eq rfl rfl rfl
  | passage l d permit p target _ first record =>
    have put : (s.putLane l { s.lane l with permits := consume d (s.lane l).permits }).MusterCounts := hs.of_eq rfl rfl rfl
    refine put.changePerson _ _ (fun ha _ => hs.idle ha _ p record) fun ha => ?_
    have first := first hc
    rw [hb.none (.inl ha) l] at first
    cases first
  | cabin k v same =>
    obtain ⟨configured, sweep, -⟩ := same
    refine hs.write (k := k) (v := v) rfl rfl rfl ?_ (fun ha => sweep.trans (hs.idleSweeps ha k)) fun ha => ?_
    · unfold Cabin.unsweptWeight
      rw [sweep]
      rfl
    · rw [configured, sweep]
      exact hs.activeSweeps ha k
  | sweep k unswept =>
    have counted : (s.cabin k).unsweptWeight ≤ s.muster.unswept := hs.unswept ▸ Table.le_total (d := Cabin.reset) rfl k
    have weight : (s.cabin k).unsweptWeight = 1 := by simp [Cabin.unsweptWeight, unswept]
    refine hs.write (k := k) (v := { s.cabin k with sweep := .swept }) rfl rfl rfl ?_ (fun ha => ?_) fun ha => ?_
    · rw [weight] at counted ⊢
      exact Nat.sub_add_cancel counted
    · have := hs.idleSweeps ha k
      rw [unswept] at this
      cases this
    · have := hs.activeSweeps ha k
      simpa [unswept] using this
  | configure k unserved =>
    have none : (s.cabin k).sweep = .none := by
      cases ha : s.muster.active with
      | false => exact hs.idleSweeps ha k
      | true =>
        by_contra hn
        have := (hs.activeSweeps ha k).mpr hn
        rw [unserved] at this
        cases this
    refine hs.write (k := k) (v := (s.cabin k).configure s.muster.active) rfl rfl rfl ?_ (fun ha => ?_) fun ha => ?_
    · cases ha : s.muster.active <;> simp [Cabin.unsweptWeight, Cabin.configure, none]
    · simp [Cabin.configure, ha]
    · simp [Cabin.configure, ha]
  | unconfigure k idle =>
    refine hs.write (k := k) (v := (s.cabin k).unconfigure) rfl rfl rfl ?_ (fun _ => rfl) fun ha => ?_
    · simp [Cabin.unsweptWeight, Cabin.unconfigure, hs.idleSweeps idle k, Cabin.reset]
    · rw [idle] at ha
      cases ha
  | person i new fits => exact hs.changePerson i new fits.idle fits.active
  | ledger slots journal i f _ _ _ _ =>
    rw [State.changeAccount_ledger]
    have changed : (s.changeAccount i f).MusterCounts :=
      State.changeAccount_keeps (P := State.MusterCounts) (fun _ _ hp _ => hs.changeQuietly hp ⟨rfl, rfl⟩) hs
    exact changed.of_eq rfl rfl rfl
  | muster id idle _ =>
    refine State.MusterCounts.cancelAllPermits (hs.start idle (id := id) ?_ ?_ ?_) <;> rfl
  | dismiss _ _ => exact hs.finish rfl rfl rfl
  | closing now =>
    refine State.MusterCounts.cancelAllPermits (hs.of_eq ?_ ?_ ?_) <;> rfl
  | _ => exact hs.of_eq rfl rfl rfl

/-! ### Resets -/

theorem countMuster_eq (k : MusterState) (ps : Table (Option Person)) :
    countMuster k ps = (ps.filter fun e => e.2.any fun p => p.muster == k).length := by
  unfold countMuster
  congr 2
  funext e
  cases e.2 with
  | none => rfl
  | some p => rfl

theorem restoredMusterUnit_idle {r : Restored} (h : r.found.facts.musterActive = false) : restoredMusterUnit r = Muster.reset := by
  rw [restoredMusterUnit, h]
  rfl

theorem restoredMusterUnit_active {r : Restored} (h : r.found.facts.musterActive = true) :
    restoredMusterUnit r =
      { active := true, id := r.found.facts.musterId, points := [], unrecorded := countMuster .unrecorded r.persons
        unmustered := countMuster .unmustered r.persons, unswept := 0 } := by
  rw [restoredMusterUnit, h]
  rfl

theorem State.resetPart_musterCounts (cause : ResetCause) (pins : BitVec 4) (s : State) : (s.resetPart cause pins).MusterCounts := by
  have wf := State.resetPart_wf cause pins s
  have cabin : ∀ k, (s.resetPart cause pins).cabin k = Cabin.reset := fun k => by
    unfold State.cabin
    rw [State.resetPart_cabins]
    rfl
  have active : (s.resetPart cause pins).muster.active = s.foundActive := by
    rw [State.resetPart_muster]
    unfold restoredMusterUnit State.foundActive
    split <;> simp_all [Muster.reset]
  constructor
  case persons => exact wf
  case cabins => rw [State.resetPart_cabins]; exact Table.wf_nil
  case points => rw [State.resetPart_muster, restoredMusterUnit_points]; exact Table.wf_nil
  case counts =>
    intro k hk
    have none_of : (∀ i p, (s.resetPart cause pins).person i = some p → p.muster ≠ k) →
        (s.resetPart cause pins).countPersons (fun p => p.muster == k) = 0 := fun hn =>
      (State.countPersons_eq_zero wf).mpr fun i p hp => by simpa using hn i p hp
    have counted : countMuster k s.restoring.persons = (s.resetPart cause pins).countPersons fun p => p.muster == k := by
      unfold State.countPersons
      rw [State.resetPart_persons, countMuster_eq]
    rw [State.resetPart_muster]
    cases ha : s.foundActive with
    | false =>
      rw [restoredMusterUnit_idle ha, none_of]
      · cases k <;> rfl
      · intro i p hp
        obtain ⟨e, rfl⟩ := State.resetPart_record hp
        simpa [restoredPerson, restoredMuster, ha] using Ne.symm hk
    | true =>
      rw [restoredMusterUnit_active ha]
      cases k with
      | none => exact absurd rfl hk
      | unmustered => exact counted
      | unrecorded => exact counted
      | mustered q =>
        refine (none_of fun i p hp => ?_).symm
        obtain ⟨e, rfl⟩ := State.resetPart_record hp
        unfold restoredPerson restoredMuster
        dsimp only
        split
        · split <;> simp
        · simp
  case unswept =>
    rw [State.resetPart_muster, State.resetPart_cabins]
    unfold restoredMusterUnit
    split <;> rfl
  case idle =>
    rw [active]
    intro ha i p hp
    obtain ⟨e, rfl⟩ := State.resetPart_record hp
    simp [restoredPerson, restoredMuster, ha]
  case active =>
    rw [active]
    intro ha i p hp
    obtain ⟨e, rfl⟩ := State.resetPart_record hp
    by_cases hl : e.location = .aboard <;> cases hm : e.mustered <;> simp [restoredPerson, restoredMuster, ha, hl, hm]
  case idleSweeps => exact fun _ k => by rw [cabin]; rfl
  case activeSweeps => exact fun _ k => by rw [cabin]; decide

/-- Settles O58: with the permits held back, the counts are kept by every kind of change and by a reset. -/
theorem stepsKeepTheMusterAgreed : Obligations.StepsKeepTheMusterAgreed := by
  intro s t hs h
  rw [State.musterAgrees_iff] at hs ⊢
  exact step_keeps (P := fun u => u.PermitsHeldBack ∧ u.MusterCounts) .laned trivial (fun _ _ hu => hu.1.lanes) False.elim
    (fun _ _ ha hu => ⟨hu.1.aside ha, hu.2.of_eq ha.persons ha.cabins ha.muster⟩)
    (fun _ _ hc hu => ⟨hc.permitsHeldBack trivial hu.1, hc.musterCounts trivial hu.1 hu.2⟩)
    (fun cause pins u _ => ⟨State.resetPart_permitsHeldBack cause pins u, State.resetPart_musterCounts cause pins u⟩)
    (fun _ _ hu => ⟨hu.1.of_same rfl rfl id, hu.2.of_eq rfl rfl rfl⟩) h hs

end Sys2Proof.Machine
end

section
/-!
PROOFS. The held and unposted totals agree with the holds and the journal after every step (O59).
-/

namespace Sys2Proof.Machine

variable {c : Setting} {s t : State}

/-- Accounts, holds and entries as they were. -/
theorem State.AccountsAgree.of_accounts (h : s.AccountsAgree) (hp : t.persons.wf none) (hs : t.slots = s.slots)
    (hj : t.journal = s.journal) (accounts : ∀ i, t.accountOf i = s.accountOf i) : t.AccountsAgree where
  persons := hp
  slots := hs ▸ h.slots
  held i a ha := by
    unfold State.heldAmounts
    rw [hs]
    exact h.held i a (accounts i ▸ ha)
  unposted i a ha := by
    unfold State.unpostedAmounts
    rw [hj]
    exact h.unposted i a (accounts i ▸ ha)
  holdOwner k hold hk := by
    unfold State.slot at hk
    rw [hs] at hk
    rw [accounts]
    exact h.holdOwner k hold hk
  entryOwner e he ht := by
    rw [accounts]
    exact h.entryOwner e (hj ▸ he) ht

theorem State.AccountsAgree.of_eq (h : s.AccountsAgree) (hp : t.persons = s.persons) (hs : t.slots = s.slots)
    (hj : t.journal = s.journal) : t.AccountsAgree :=
  h.of_accounts (hp ▸ h.persons) hs hj fun i => by unfold State.accountOf State.person; rw [hp]

/-- A person without an account has no hold (R103). -/
theorem State.AccountsAgree.held_none (h : s.AccountsAgree) {i : Nat} (hi : s.accountOf i = none) : s.heldAmounts i = 0 := by
  rw [State.heldAmounts_eq_total, Table.total_eq_zero h.slots rfl]
  intro k
  change Slot.heldFor i (s.slot k) = 0
  cases hk : (s.slot k).hold with
  | none => exact Slot.heldFor_none hk i
  | some hold =>
    rw [Slot.heldFor_some hk, if_neg]
    intro hp
    have := (h.holdOwner k hold hk).2
    rw [hp, hi] at this
    cases this

/-- A person without an account has no entry that weighs (R113). -/
theorem State.AccountsAgree.unposted_none (h : s.AccountsAgree) {i : Nat} (hi : s.accountOf i = none) : s.unpostedAmounts i = 0 := by
  rw [State.unpostedAmounts_eq, List.sum_eq_zero_iff]
  intro n hn
  obtain ⟨e, he, rfl⟩ := List.mem_map.mp hn
  unfold Entry.unpostedFor
  split
  · rename_i hp
    by_contra hpos
    have := h.entryOwner e he (Nat.pos_of_ne_zero hpos)
    rw [hp, hi] at this
    cases this
  · rfl

/-- A record is replaced by one whose account has the same held and unposted amounts (R12, R19). -/
theorem State.AccountsAgree.changePerson (h : s.AccountsAgree) (i : Nat) (new : Option Person)
    (account : ∀ a, new.bind Person.account = some a →
      (∃ b, s.accountOf i = some b ∧ b.held = a.held ∧ b.unposted = a.unposted)
        ∨ (s.accountOf i = none ∧ a.held = 0 ∧ a.unposted = 0))
    (closed : new.bind Person.account = none → ∀ a, s.accountOf i = some a → a.held = 0 ∧ a.unposted = 0) :
    (s.changePerson i new).AccountsAgree := by
  have accountOf : ∀ j, (s.changePerson i new).accountOf j = if j = i then new.bind Person.account else s.accountOf j :=
    fun j => by
      unfold State.accountOf
      rw [State.person_changePerson h.persons]
      split <;> rfl
  have amounts : ∀ a, new.bind Person.account = some a → a.held = s.heldAmounts i ∧ a.unposted = s.unpostedAmounts i := by
    intro a ha
    rcases account a ha with ⟨b, hb, held, unposted⟩ | ⟨hn, held, unposted⟩
    · exact ⟨held.symm.trans (h.held i b hb), unposted.symm.trans (h.unposted i b hb)⟩
    · exact ⟨held.trans (h.held_none hn).symm, unposted.trans (h.unposted_none hn).symm⟩
  have kept : ∀ j, (s.accountOf j).isSome → ¬ ((s.changePerson i new).accountOf j).isSome →
      j = i ∧ s.heldAmounts i = 0 ∧ s.unpostedAmounts i = 0 := by
    intro j hj hn
    rw [accountOf] at hn
    split at hn
    · rename_i hji
      subst hji
      obtain ⟨a, ha⟩ := Option.isSome_iff_exists.mp hj
      have zero := closed (Option.not_isSome_iff_eq_none.mp hn) a ha
      exact ⟨rfl, h.held j a ha ▸ zero.1, h.unposted j a ha ▸ zero.2⟩
    · exact absurd hj hn
  refine ⟨State.wf_changePerson h.persons i new, h.slots, fun j a ha => ?_, fun j a ha => ?_, fun k hold hk => ?_, fun e he ht => ?_⟩
  · rw [accountOf] at ha
    split at ha
    · rename_i hj
      rw [hj]
      exact (amounts a ha).1
    · exact h.held j a ha
  · rw [accountOf] at ha
    split at ha
    · rename_i hj
      rw [hj]
      exact (amounts a ha).2
    · exact h.unposted j a ha
  · obtain ⟨hpos, hsome⟩ := h.holdOwner k hold hk
    refine ⟨hpos, ?_⟩
    by_contra hn
    obtain ⟨hi, hz, -⟩ := kept _ hsome hn
    have le := s.heldFor_le i k
    rw [Slot.heldFor_some (show (s.slot k).hold = some hold from hk), if_pos hi] at le
    omega
  · have hsome := h.entryOwner e he ht
    by_contra hn
    obtain ⟨hi, -, hz⟩ := kept _ hsome hn
    rw [State.unpostedAmounts_eq, List.sum_eq_zero_iff] at hz
    have := hz _ (List.mem_map_of_mem he)
    rw [Entry.unpostedFor, if_pos hi] at this
    omega

/-- A change of a record that leaves its account as it is. -/
theorem State.AccountsAgree.changeQuietly (h : s.AccountsAgree) {i : Nat} {p q : Person} (record : s.person i = some p)
    (same : q.account = p.account) : (s.changePerson i (some q)).AccountsAgree := by
  refine h.of_accounts (State.wf_changePerson h.persons i _) rfl rfl fun j => ?_
  unfold State.accountOf
  rw [State.person_changePerson h.persons]
  split
  · rename_i hj
    rw [hj, record]
    exact same
  · rfl

theorem State.AccountsAgree.removePermits (h : s.AccountsAgree) (l : Nat) (gone : Permit → Bool) :
    (s.removePermits l gone).AccountsAgree :=
  State.removePermits_keeps (P := State.AccountsAgree) (fun _ _ _ hu hp => hu.changeQuietly hp rfl)
    (fun _ _ hu => hu.of_eq rfl rfl rfl) h

theorem State.AccountsAgree.cancelAllPermits (h : s.AccountsAgree) : s.cancelAllPermits.AccountsAgree :=
  State.cancelAllPermits_keeps (P := State.AccountsAgree) (fun _ l _ hu => hu.removePermits l _) h

theorem State.AccountsAgree.mapRecords (h : s.AccountsAgree) {g : Person → Person} (hg : ∀ p, (g p).account = p.account)
    (hp : t.persons = s.persons.mapRecords none (Option.map g)) (hs : t.slots = s.slots) (hj : t.journal = s.journal) :
    t.AccountsAgree := by
  refine h.of_accounts (hp ▸ Table.wf_mapRecords h.persons _) hs hj fun i => ?_
  unfold State.accountOf
  rw [person_mapRecords h.persons hp]
  cases s.person i with
  | none => rfl
  | some p => exact hg p

/-- The amount of a hold stands whatever its arrival flag. -/
theorem Slot.heldFor_of_same {k k' : Slot} (same : k'.hold.map (fun h => (h.person, h.amount)) = k.hold.map fun h => (h.person, h.amount))
    (i : Nat) : k'.heldFor i = k.heldFor i := by
  unfold Slot.heldFor
  cases hk : k.hold <;> cases hk' : k'.hold <;> rw [hk, hk'] at same
  · cases same
  · cases same
  · obtain ⟨hperson, hamount⟩ := Prod.mk.inj (Option.some.inj same)
    dsimp only
    rw [hperson, hamount]

theorem State.AccountsAgree.arrivals (h : s.AccountsAgree) {f : Slot → Slot} (unlisted : f Slot.reset = Slot.reset)
    (same : ∀ k, (f k).hold.map (fun h => (h.person, h.amount)) = k.hold.map fun h => (h.person, h.amount)) :
    State.AccountsAgree { s with slots := s.slots.mapRecords Slot.reset f } where
  persons := h.persons
  slots := Table.wf_mapRecords h.slots _
  held i a ha := by
    rw [State.heldAmounts_eq_total, Table.total_mapRecords (d := Slot.reset) _ _ rfl]
    refine (h.held i a ha).trans ?_
    rw [State.heldAmounts_eq_total]
    exact Table.total_congr h.slots fun k => (Slot.heldFor_of_same (same _) i).symm
  unposted := h.unposted
  holdOwner k hold hk := by
    unfold State.slot at hk
    rw [Table.read_mapRecords h.slots unlisted] at hk
    have mapped := same (s.slot k)
    unfold State.slot at mapped
    rw [hk, eq_comm, Option.map_some, Option.map_eq_some_iff] at mapped
    obtain ⟨old, hold', hsame⟩ := mapped
    obtain ⟨hperson, hamount⟩ := Prod.mk.inj hsame
    have := h.holdOwner k old hold'
    rw [hperson, hamount] at this
    exact this
  entryOwner := h.entryOwner

theorem Change.accountsAgree (hc : c.slots) (h : Change c s t) (hs : s.AccountsAgree) : t.AccountsAgree := by
  cases h with
  | aside h _ => exact hs.of_eq h.persons h.slots h.journal
  | remove l gone _ => exact hs.removePermits l gone
  | grant l i p _ _ _ record _ _ =>
    exact (hs.changeQuietly (q := { p with gatePermit := some l }) record rfl).of_eq rfl rfl rfl
  | passage l d permit p target _ _ record =>
    have put : (s.putLane l { s.lane l with permits := consume d (s.lane l).permits }).AccountsAgree := hs.of_eq rfl rfl rfl
    exact put.changeQuietly record rfl
  | person i new fits => exact hs.changePerson i new fits.account fits.closed
  | ledger slots journal i f _ _ _ agrees => exact agrees hc hs
  | arrivals f unlisted same => exact hs.arrivals unlisted same
  | muster id _ _ =>
    refine State.AccountsAgree.cancelAllPermits (hs.mapRecords (g := Person.atMusterStart) ?_ ?_ ?_ ?_)
    · exact fun _ => rfl
    all_goals rfl
  | dismiss _ _ => exact hs.mapRecords (g := Person.atMusterEnd) (fun _ => rfl) rfl rfl rfl
  | closing now =>
    refine State.AccountsAgree.cancelAllPermits (hs.of_eq ?_ ?_ ?_) <;> rfl
  | _ => exact hs.of_eq rfl rfl rfl

theorem State.resetPart_ledger (cause : ResetCause) (pins : BitVec 4) (s : State) :
    (s.resetPart cause pins).slots = [] ∧ (s.resetPart cause pins).journal = [] := by
  obtain ⟨phase, started, store, h⟩ := State.resetPart_rest cause pins s
  rw [h]
  exact ⟨rfl, rfl⟩

theorem State.resetPart_accountsAgree (cause : ResetCause) (pins : BitVec 4) (s : State) : (s.resetPart cause pins).AccountsAgree := by
  obtain ⟨slots, journal⟩ := State.resetPart_ledger cause pins s
  have accountOf : ∀ i, (s.resetPart cause pins).accountOf i = none := fun i => by
    unfold State.accountOf
    cases hp : (s.resetPart cause pins).person i with
    | none => rfl
    | some p =>
      obtain ⟨e, rfl⟩ := State.resetPart_record hp
      rfl
  refine ⟨State.resetPart_wf cause pins s, slots ▸ Table.wf_nil, fun i a ha => ?_, fun i a ha => ?_, fun k hold hk => ?_, fun e he => ?_⟩
  · rw [accountOf] at ha
    cases ha
  · rw [accountOf] at ha
    cases ha
  · unfold State.slot at hk
    rw [slots] at hk
    cases hk
  · rw [journal] at he
    cases he

/-- What is assumed of a state whose table of slots is canonical. -/
def Setting.slotted : Setting := { opens := True, lanes := False, slots := True }

/-- Settles O59: the totals are kept by every kind of change and by a reset. -/
theorem stepsKeepAccountsAgreed : Obligations.StepsKeepAccountsAgreed := fun _ _ hs h =>
  step_keeps .slotted trivial False.elim (fun _ _ hu => hu.slots) (fun _ _ ha hu => hu.of_eq ha.persons ha.slots ha.journal)
    (fun _ _ hc => hc.accountsAgree trivial) (fun cause pins u _ => State.resetPart_accountsAgree cause pins u)
    (fun _ _ hu => hu.of_eq rfl rfl rfl) h hs

end Sys2Proof.Machine
end

section
/-!
PROOFS. The retention store stays faithful to the records (O60): what a person block's contents depend on, what each operation
of the store keeps, and the changes.
-/

namespace Sys2Proof.Machine

variable {c : Setting} {s t : State}

/-! ### The contents of a person block -/

/-- Two lists of numbered things, both ascending, with the same members. -/
theorem eq_of_ascending {β : Type} {l l' : List (Nat × β)} (h : l.Pairwise fun x y => x.1 < y.1)
    (h' : l'.Pairwise fun x y => x.1 < y.1) (hm : ∀ x, x ∈ l ↔ x ∈ l') : l = l' := by
  have nodup : ∀ {l : List (Nat × β)}, (l.Pairwise fun x y => x.1 < y.1) → l.Nodup := fun hl => hl.imp fun hlt he => by
    rw [he] at hlt
    exact Nat.lt_irrefl _ hlt
  refine List.Perm.eq_of_pairwise (fun a b _ _ hab hba => absurd hba (Nat.lt_asymm hab)) h h' ?_
  exact (List.perm_ext_iff_of_nodup (nodup h) (nodup h')).mpr hm

/-- What a person block holds of a record: its retained fields (R155). -/
theorem mem_personCopy {ps : Table (Option Person)} (h : ps.wf none) {b i : Nat} {e : StoredEntry} :
    (i, e) ∈ personCopy ps b ↔ blockOf i = b ∧ retained (ps.read none i) = some e := by
  unfold personCopy
  simp only [List.mem_filterMap, List.mem_filter, beq_iff_eq, Option.map_eq_some_iff, Prod.mk.injEq]
  constructor
  · rintro ⟨⟨k, v⟩, ⟨hm, hb⟩, r, hr, rfl, rfl⟩
    rw [Table.read_of_mem h hm]
    exact ⟨hb, hr⟩
  · rintro ⟨hb, hr⟩
    have hne : ps.read none i ≠ none := fun hn => by rw [hn] at hr; cases hr
    exact ⟨_, ⟨Table.mem_of_read hne, hb⟩, e, hr, rfl, rfl⟩

theorem personCopy_ascending {ps : Table (Option Person)} (h : ps.wf none) (b : Nat) :
    (personCopy ps b).Pairwise fun x y => x.1 < y.1 := by
  refine List.Pairwise.filterMap _ (S := fun x y : Nat × StoredEntry => x.1 < y.1) (R := fun x y => x.1 < y.1) ?_ (h.1.filter _)
  intro x y hxy u hu v hv
  obtain ⟨_, _, rfl⟩ := Option.map_eq_some_iff.mp hu
  obtain ⟨_, _, rfl⟩ := Option.map_eq_some_iff.mp hv
  exact hxy

theorem personCopy_entriesOf {ps : Table (Option Person)} (h : ps.wf none) (b : Nat) : EntriesOf b (personCopy ps b) :=
  ⟨personCopy_ascending h b, fun _ he => ((mem_personCopy h).mp he).1⟩

/-- The contents of a block depend on the retained fields of its records alone. -/
theorem personCopy_congr {ps ps' : Table (Option Person)} (h : ps.wf none) (h' : ps'.wf none) {b : Nat}
    (same : ∀ i, blockOf i = b → retained (ps'.read none i) = retained (ps.read none i)) : personCopy ps' b = personCopy ps b := by
  refine eq_of_ascending (personCopy_ascending h' b) (personCopy_ascending h b) fun x => ?_
  rw [show x = (x.1, x.2) from rfl, mem_personCopy h', mem_personCopy h]
  exact and_congr_right fun hb => by rw [same _ hb]

/-! ### What a store holds -/

/-- The part of the agreement that is the store's own: its blocks against what they are to hold. -/
structure Store.Holds (u : Store) (copy : Nat → List (Nat × StoredEntry)) : Prop where
  dirty : u.dirty.Pairwise (· < ·) ∧ ∀ b ∈ u.dirty, b ≤ 128
  blocks : u.blocks.wf .erased
  stored : ∀ b l, u.blocks.read .erased b = .entries l → EntriesOf b l
  flight : ∀ f, u.inFlight = some f → f.WellFormed
  faithful : ∀ b, b < 128 → b ∉ u.dirty → u.isFailed b = false → (u.coming b).holds (copy b)
  drained : u.state = .closed → u.dirty = [] ∧ u.inFlight = none
  unlisted : u.unlistedFailed ≠ none → u.writer ≠ .normal
  lastWrites : u.writer ≠ .normal → ∀ f, u.inFlight = some f → f.block = controlBlock

theorem State.storeFaithful_iff : s.StoreFaithful ↔ s.PermitsHeldBack ∧ (s.persons.wf none ∧ (∀ e ∈ s.persons, e.1 < 8192)
    ∧ (s.muster.active = false → ∀ i p, s.person i = some p → p.muster = .none)) ∧ s.store.Holds (personCopy s.persons) := by
  constructor
  · intro h
    exact ⟨h.heldBack, ⟨h.persons, h.records, h.idle⟩, { h with }⟩
  · rintro ⟨heldBack, ⟨persons, records, idle⟩, h⟩
    exact { h with heldBack, persons, records, idle }

section Holds

variable {u : Store} {copy copy' : Nat → List (Nat × StoredEntry)}

theorem Store.Holds.of_copy (h : u.Holds copy) (same : ∀ b < 128, b ∉ u.dirty → u.isFailed b = false → copy' b = copy b) :
    u.Holds copy' :=
  { h with faithful := fun b hb hd hf => same b hb hd hf ▸ h.faithful b hb hd hf }

/-- A mark keeps the store faithful to contents that have changed in the marked block alone (R9, R156). -/
theorem Store.Holds.mark (h : u.Holds copy) {k : Nat} (hk : k ≤ 128) (unclosed : u.state ≠ .closed)
    (same : ∀ b, b ≠ k → copy' b = copy b) : (u.markWhen true k).Holds copy' := by
  refine { h with dirty := ⟨?_, fun b hb => ?_⟩, faithful := fun b hb hd hf => ?_, drained := fun hc => absurd hc unclosed }
  · unfold Store.markWhen
    dsimp only
    split
    · exact insertAscending_ascending h.dirty.1
    · exact h.dirty.1
  · rcases Store.mem_markWhen.mp hb with ⟨rfl, -, -⟩ | hb
    · exact hk
    · exact h.dirty.2 b hb
  · rw [Store.mem_markWhen, not_or] at hd
    have hbk : b ≠ k := fun e => hd.1 ⟨e, rfl, e ▸ hf⟩
    rw [same b hbk]
    exact h.faithful b hb hd.2 hf

theorem Store.Holds.markWhen (h : u.Holds copy) (m : Bool) {k : Nat} (hk : k ≤ 128) (unclosed : m = true → u.state ≠ .closed)
    (same : ∀ b, m = false ∨ b ≠ k → copy' b = copy b) : (u.markWhen m k).Holds copy' := by
  cases m with
  | false => exact h.of_copy fun b _ _ _ => same b (.inl rfl)
  | true => exact h.mark hk (unclosed rfl) fun b hb => same b (.inr hb)

/-- The state of the store changes, but not to CLOSED. -/
theorem Store.Holds.withState (h : u.Holds copy) {state : StoreState} (hs : state ≠ .closed) (orderly : Bool) (assertedAt : Nat) :
    Store.Holds { u with state, orderly, assertedAt } copy := { h with drained := fun hc => absurd hc hs }

/-- What a write start leaves to come in a block. -/
theorem Store.coming_of_none (hn : u.inFlight = none) (b : Nat) : u.coming b = u.blocks.read .erased b := by
  unfold Store.coming
  rw [hn]

/-- A write start keeps the store faithful: what is copied is what the block is to hold (R157). -/
theorem Store.Holds.startWrite {ps : Table (Option Person)} (hw : ps.wf none) (h : u.Holds (personCopy ps)) (hn : u.inFlight = none)
    {k : Nat} (hk : k ∈ u.dirty ∨ k = controlBlock ∧ u.state ≠ .closed) (last : u.writer ≠ .normal → k = controlBlock) (m : Muster) (now : Nat) :
    (u.startWrite ps m now k).Holds (personCopy ps) := by
  have nodup : u.dirty.Nodup := h.dirty.1.imp fun hlt => Nat.ne_of_lt hlt
  have mem : ∀ {b}, b ∈ u.dirty.erase k ↔ b ≠ k ∧ b ∈ u.dirty := nodup.mem_erase_iff
  constructor
  case dirty =>
    exact ⟨h.dirty.1.sublist List.erase_sublist, fun b hb => h.dirty.2 b (mem.mp hb).2⟩
  case blocks => exact h.blocks
  case stored => exact h.stored
  case flight =>
    rintro _ ⟨⟩
    unfold Flight.WellFormed
    by_cases hc : k = controlBlock
    · simp only [hc, if_true]
      rfl
    · simp only [hc, if_false]
      have := h.dirty.2 k (hk.resolve_right fun hk => hc hk.1)
      have hc' : k ≠ 128 := hc
      exact ⟨by omega, personCopy_entriesOf hw k⟩
  case faithful =>
    intro b hb hd hf
    have before : b ≠ k → (u.coming b).holds (personCopy ps b) := fun hbk =>
      h.faithful b hb (fun hm => hd (mem.mpr ⟨hbk, hm⟩)) hf
    rw [Store.coming_of_none hn] at before
    unfold Store.coming Store.startWrite
    by_cases hc : k = controlBlock
    · simp only [hc, if_true]
      exact before fun hbk => by
        have : k = 128 := hc
        omega
    · simp only [hc, if_false]
      by_cases hbk : k = b
      · subst hbk
        simp only [if_true]
        rfl
      · rw [if_neg hbk]
        exact before (Ne.symm hbk)
  case drained =>
    intro hs
    rcases hk with hk | hk
    · rw [(h.drained hs).1] at hk
      cases hk
    · exact absurd hs hk.2
  case unlisted => exact h.unlisted
  case lastWrites =>
    rintro hw _ ⟨⟩
    exact last hw

/-- The next block is a dirty one, and the control block where the writer is not at work as usual (R157, R159). -/
theorem Store.nextBlock_spec {waits : Bool} {b : Nat} (h : u.nextBlock waits = some b) :
    b ∈ u.dirty ∧ (u.writer ≠ .normal → b = controlBlock) := by
  unfold Store.nextBlock at h
  cases hw : u.writer with
  | stopped => rw [hw] at h; cases h
  | lastOwed =>
    simp only [hw, Option.ite_none_right_eq_some, List.contains_iff_mem, Option.some.injEq] at h
    obtain ⟨hm, rfl⟩ := h
    exact ⟨hm, fun _ => rfl⟩
  | normal =>
    refine ⟨?_, fun hn => absurd rfl hn⟩
    simp only [hw] at h
    split at h
    · rename_i hm
      cases h
      exact List.contains_iff_mem.mp hm
    · split at h
      · cases h
      · cases hf : u.dirty.find? fun b => decide (u.lastWritten < b) with
        | some b' =>
          rw [hf] at h
          cases h
          exact List.mem_of_find?_eq_some hf
        | none =>
          rw [hf] at h
          exact List.mem_of_mem_head? h

theorem Store.Holds.turn {ps : Table (Option Person)} (hw : ps.wf none) (h : u.Holds (personCopy ps)) (waits : Bool) (m : Muster)
    (now : Nat) : (u.turn waits ps m now).Holds (personCopy ps) := by
  have closing : (u.closingTurn waits).Holds (personCopy ps) := by
    unfold Store.closingTurn
    dsimp only
    split
    · rename_i hb
      simp only [Bool.and_eq_true, beq_iff_eq, List.isEmpty_iff] at hb
      obtain ⟨⟨⟨⟨⟨-, hstate⟩, hdirty⟩, -⟩, -⟩, -⟩ := hb
      refine { h with
        dirty := ⟨List.pairwise_singleton _ _, fun b hb => by rw [List.mem_singleton.mp hb]; exact Nat.le_refl 128⟩
        faithful := fun b hb hd hf => h.faithful b hb (by rw [hdirty]; exact List.not_mem_nil) hf
        drained := fun hc => ?_ }
      have hc' : u.state = .closed := hc
      rw [hstate] at hc'
      cases hc'
    · exact { h with }
  rcases u.turn_cases waits ps m now with ⟨-, he⟩ | ⟨b, hn, hb, he⟩ <;> rw [he]
  · exact closing
  · obtain ⟨hm, hlast⟩ := Store.nextBlock_spec hb
    exact closing.startWrite hw hn (.inl hm) hlast m now

end Holds

/-! ### A write's completion -/

section Completion

variable {u : Store} {copy : Nat → List (Nat × StoredEntry)} {f : Flight} {agrees : Bool}

/-- The blocks as a completed write leaves them. -/
def Store.blocksAfter (u : Store) (f : Flight) (agrees : Bool) : Table StoredBlock :=
  (({ u with inFlight := none } : Store).landed f agrees).blocks

theorem Store.blocksAfter_person {l : List (Nat × StoredEntry)} (hf : f.copy = .person l) :
    u.blocksAfter f agrees = u.blocks.write .erased f.block (if agrees then .entries l else .failing) := by
  unfold Store.blocksAfter Store.landed
  rw [hf]

theorem Store.blocksAfter_control {facts : ControlFacts} (hf : f.copy = .control facts) : u.blocksAfter f agrees = u.blocks := by
  unfold Store.blocksAfter Store.landed
  rw [hf]

/-- A completed write leaves in a block what was to come, but for the block of a write that disagrees. -/
theorem Store.Holds.blocksAfter_read (h : u.Holds copy) (hf : u.inFlight = some f) {b : Nat}
    (hok : agrees = true ∨ b ≠ f.block) : (u.blocksAfter f agrees).read .erased b = u.coming b := by
  have wellFormed := h.flight f hf
  obtain ⟨block, startedAt, fc⟩ := f
  cases fc with
  | control facts =>
    rw [Store.blocksAfter_control rfl]
    unfold Store.coming
    rw [hf]
  | person l =>
    rw [Store.blocksAfter_person rfl, Table.read_write h.blocks]
    unfold Store.coming
    rw [hf]
    dsimp only at hok ⊢
    by_cases hbb : b = block
    · subst hbb
      rcases hok with hok | hok
      · simp [hok]
      · exact absurd rfl hok
    · rw [if_neg hbb, if_neg (Ne.symm hbb)]

/-- What stands as entries after a completed write belongs to its block. -/
theorem Store.Holds.blocksAfter_stored (h : u.Holds copy) (hf : u.inFlight = some f) {b : Nat} {l : List (Nat × StoredEntry)}
    (hl : (u.blocksAfter f agrees).read .erased b = .entries l) : EntriesOf b l := by
  have wellFormed := h.flight f hf
  obtain ⟨block, startedAt, fc⟩ := f
  cases fc with
  | control facts =>
    rw [Store.blocksAfter_control rfl] at hl
    exact h.stored b l hl
  | person l' =>
    rw [Store.blocksAfter_person rfl, Table.read_write h.blocks] at hl
    split at hl
    · rename_i hb
      cases agrees <;> cases hl
      rw [hb]
      exact wellFormed.2
    · exact h.stored b l hl

theorem Store.Holds.blocksAfter_wf (h : u.Holds copy) : (u.blocksAfter f agrees).wf .erased := by
  cases hc : f.copy with
  | person l => rw [Store.blocksAfter_person hc]; exact Table.wf_write h.blocks _ _
  | control facts => rw [Store.blocksAfter_control hc]; exact h.blocks

/-- A write in flight is of a block that there is. -/
theorem Store.Holds.flight_le (h : u.Holds copy) (hf : u.inFlight = some f) : f.block ≤ 128 := by
  have wellFormed := h.flight f hf
  unfold Flight.WellFormed at wellFormed
  cases hc : f.copy with
  | person l =>
    rw [hc] at wellFormed
    exact Nat.le_of_lt wellFormed.1
  | control facts =>
    rw [hc] at wellFormed
    exact Nat.le_of_eq wellFormed

/-- A store that a completed write leaves faithful: the block of a write that disagrees is dirty or FAILED, and no other leaves
the dirty set or is no longer FAILED. -/
theorem Store.Holds.landing (h : u.Holds copy) (hf : u.inFlight = some f) {w : Store} (blocks : w.blocks = u.blocksAfter f agrees)
    (inFlight : w.inFlight = none) (dirty : w.dirty.Pairwise (· < ·) ∧ ∀ b ∈ w.dirty, b ≤ 128)
    (clean : ∀ b < 128, b ∉ w.dirty → w.isFailed b = false → b ∉ u.dirty ∧ u.isFailed b = false ∧ (agrees = true ∨ b ≠ f.block))
    (drained : w.state = .closed → w.dirty = []) (unlisted : w.unlistedFailed ≠ none → w.writer ≠ .normal) : w.Holds copy where
  dirty := dirty
  blocks := blocks ▸ h.blocksAfter_wf
  stored b l hl := h.blocksAfter_stored hf (blocks ▸ hl)
  flight g hg := by rw [inFlight] at hg; cases hg
  faithful b hb hd hfail := by
    obtain ⟨hd', hfail', hok⟩ := clean b hb hd hfail
    rw [Store.coming_of_none inFlight, blocks, h.blocksAfter_read hf hok]
    exact h.faithful b hb hd' hfail'
  drained hs := ⟨drained hs, inFlight⟩
  unlisted := unlisted
  lastWrites _ g hg := by rw [inFlight] at hg; cases hg

/-- While a write is in flight the store is not CLOSED. -/
theorem Store.Holds.unclosed (h : u.Holds copy) (hf : u.inFlight = some f) : u.state ≠ .closed := fun hs => by
  have := (h.drained hs).2
  rw [hf] at this
  cases this

/-- The last owed write's end keeps the store faithful. -/
theorem Store.Holds.afterLast (h : u.Holds copy) (hn : u.inFlight = none) (owed : Bool) (block : Nat) :
    (u.afterLast owed block).Holds copy := by
  refine { h with unlisted := fun hu => ?_, lastWrites := fun _ g hg => ?_ }
  · have := h.unlisted hu
    unfold Store.afterLast
    dsimp only
    split
    · exact fun hw => nomatch hw
    · exact this
  · have hg' : u.inFlight = some g := hg
    rw [hn] at hg'
    cases hg'

/-- What the landing of a write leaves of the store, its block's contents apart. -/
theorem Store.landed_rest (v : Store) (f : Flight) (agrees : Bool) : ∃ blocks control lastWritten,
    v.landed f agrees = { v with blocks, control, lastWritten } := by
  unfold Store.landed
  cases f.copy <;> exact ⟨_, _, _, rfl⟩

theorem Store.isFailed_false {v : Store} {b : Nat} : v.isFailed b = false ↔ b ∉ v.failedList ∧ v.unlistedFailed ≠ some b := by
  simp [Store.isFailed]

/-- A marking leaves the dirty set ascending and within the store. -/
theorem Store.markWhen_dirty {v : Store} (m : Bool) {k : Nat} (hk : k ≤ 128) (h : v.dirty.Pairwise (· < ·) ∧ ∀ b ∈ v.dirty, b ≤ 128) :
    (v.markWhen m k).dirty.Pairwise (· < ·) ∧ ∀ b ∈ (v.markWhen m k).dirty, b ≤ 128 := by
  refine ⟨?_, fun b hb => ?_⟩
  · unfold Store.markWhen
    dsimp only
    split
    · exact insertAscending_ascending h.1
    · exact h.1
  · rcases Store.mem_markWhen.mp hb with ⟨rfl, -, -⟩ | hb
    · exact hk
    · exact h.2 b hb

theorem erase_ascending {l : List Nat} (h : l.Pairwise (· < ·) ∧ ∀ b ∈ l, b ≤ 128) (k : Nat) :
    (l.erase k).Pairwise (· < ·) ∧ ∀ b ∈ l.erase k, b ≤ 128 :=
  ⟨h.1.sublist List.erase_sublist, fun b hb => h.2 b (List.mem_of_mem_erase hb)⟩

theorem Store.Holds.completed (h : u.Holds copy) (hf : u.inFlight = some f) : (u.completed f agrees).Holds copy := by
  have unclosed := h.unclosed hf
  have blocks : (({ u with inFlight := none } : Store).landed f agrees).blocks = u.blocksAfter f agrees := rfl
  have none_of : f.block ≠ controlBlock → u.unlistedFailed = none := fun hb => by
    by_contra hn
    exact hb (h.lastWrites (h.unlisted hn) f hf)
  obtain ⟨bs, control, lastWritten, hv⟩ := Store.landed_rest { u with inFlight := none } f agrees
  unfold Store.completed
  rw [hv] at blocks ⊢
  dsimp only at blocks ⊢
  cases agrees with
  | true =>
    refine Store.Holds.afterLast ?_ ?_ _ _
    · refine h.landing hf blocks rfl h.dirty (fun b _ hd hfail => ⟨hd, hfail, .inl rfl⟩) ?_ h.unlisted
      unfold Store.agreed Store.closes Store.reopens
      simp only [if_true]
      split
      · rename_i hc
        simp only [Bool.and_eq_true, List.isEmpty_iff] at hc
        exact fun _ => hc.1.2
      · split
        · exact fun hn => nomatch hn
        · exact fun hc => absurd hc unclosed
    · rfl
  | false =>
    refine Store.Holds.afterLast ?_ ?_ _ _
    · unfold Store.faulted
      simp only [Bool.false_eq_true, if_false]
      split
      · refine h.landing hf blocks rfl (Store.markWhen_dirty true (h.flight_le hf) h.dirty) (fun b _ hd hfail => ?_)
          (fun hc => absurd hc unclosed) h.unlisted
        rw [Store.mem_markWhen, not_or] at hd
        exact ⟨hd.2, hfail, .inr fun e => hd.1 ⟨e, rfl, e ▸ hfail⟩⟩
      · split
        · rename_i hb
          refine h.landing hf blocks rfl (Store.markWhen_dirty _ (Nat.le_refl 128) h.dirty) (fun b hb128 hd hfail => ?_) ?_ ?_
          · rw [Store.spoil] at hd
            exact ⟨fun hm => hd (Store.mem_markWhen.mpr (.inr hm)), hfail, .inr fun e => by
              have : b = 128 := e.trans hb
              omega⟩
          · intro hc
            unfold Store.spoil at hc
            dsimp only [Store.markWhen] at hc
            split at hc
            · cases hc
            · exact absurd hc unclosed
          · exact fun _ hw => nomatch hw
        · rename_i hb
          have kept : ∀ b, b ≠ f.block → b ∉ u.dirty.erase f.block → b ∉ u.dirty := fun b hne hd hm =>
            hd ((List.mem_erase_of_ne hne).mpr hm)
          unfold Store.fail
          dsimp only
          split
          · refine h.landing hf blocks rfl (Store.markWhen_dirty true (Nat.le_refl 128) (erase_ascending h.dirty f.block))
              (fun b _ hd hfail => ?_) (fun hc => absurd hc unclosed) h.unlisted
            have hfail' := Store.isFailed_false.mp hfail
            simp only [Store.markWhen, List.mem_append, List.mem_singleton, not_or] at hfail'
            exact ⟨kept b hfail'.1.2 fun hm => hd (Store.mem_markWhen.mpr (.inr hm)),
              Store.isFailed_false.mpr ⟨hfail'.1.1, hfail'.2⟩, .inr hfail'.1.2⟩
          · refine h.landing hf blocks rfl (Store.markWhen_dirty _ (Nat.le_refl 128) (erase_ascending h.dirty f.block))
              (fun b _ hd hfail => ?_) ?_ ?_
            · have hfail' := Store.isFailed_false.mp hfail
              have hne : b ≠ f.block := fun e => hfail'.2 (congrArg some e.symm)
              refine ⟨kept b hne fun hm => hd (Store.mem_markWhen.mpr (.inr hm)), Store.isFailed_false.mpr ⟨hfail'.1, ?_⟩, .inr hne⟩
              rw [none_of hb]
              exact fun hn => nomatch hn
            · intro hc
              unfold Store.spoil at hc
              dsimp only [Store.markWhen] at hc
              split at hc
              · cases hc
              · exact absurd hc unclosed
            · exact fun _ hw => nomatch hw
    · unfold Store.faulted Store.fail Store.spoil Store.markWhen
      simp only [Bool.false_eq_true, if_false]
      split
      · rfl
      · split
        · rfl
        · split <;> rfl

end Completion

end Sys2Proof.Machine
end

section
/-!
PROOFS. The retention store stays faithful to the records (O60): the kinds of change, the reset, and what no change of a store
that is not OPEN reaches.
-/

namespace Sys2Proof.Machine

variable {c : Setting} {s t : State}

/-- A release keeps the store faithful (R162). -/
theorem Store.Holds.released {u : Store} {copy : Nat → List (Nat × StoredEntry)} (h : u.Holds copy) {state : StoreState}
    (hs : state ≠ .closed) : (u.released state).Holds copy := by
  have set := h.withState hs u.orderly u.assertedAt
  have marked := set.markWhen u.orderly (Nat.le_refl 128) (fun _ => hs) fun _ _ => rfl
  exact marked.withState hs false u.assertedAt

/-! ### The records -/

/-- The records' part of the agreement: their indices are the part's, and none carries a muster state while none is ACTIVE. -/
structure State.RecordsKept (s : State) : Prop where
  persons : s.persons.wf none
  records : ∀ e ∈ s.persons, e.1 < 8192
  idle : s.muster.active = false → ∀ i p, s.person i = some p → p.muster = .none

/-- What a store holds and the records it is faithful to. -/
structure State.Stored (s : State) : Prop where
  kept : s.RecordsKept
  store : s.store.Holds (personCopy s.persons)

theorem State.storeFaithful_iff_stored : s.StoreFaithful ↔ s.PermitsHeldBack ∧ s.Stored := by
  rw [State.storeFaithful_iff]
  exact ⟨fun ⟨hb, ⟨hp, hr, hi⟩, hs⟩ => ⟨hb, ⟨hp, hr, hi⟩, hs⟩, fun ⟨hb, ⟨hp, hr, hi⟩, hs⟩ => ⟨hb, ⟨hp, hr, hi⟩, hs⟩⟩

theorem State.RecordsKept.of_eq (h : s.RecordsKept) (hp : t.persons = s.persons) (hm : t.muster.active = s.muster.active) :
    t.RecordsKept where
  persons := hp ▸ h.persons
  records := hp ▸ h.records
  idle := by unfold State.person; rw [hm, hp]; exact h.idle

theorem State.Stored.of_eq (h : s.Stored) (hp : t.persons = s.persons) (hm : t.muster.active = s.muster.active)
    (hs : t.store = s.store) : t.Stored := ⟨h.kept.of_eq hp hm, by rw [hs, hp]; exact h.store⟩

theorem State.Stored.withStore (h : s.Stored) {u : Store} (hu : u.Holds (personCopy s.persons)) : State.Stored { s with store := u } :=
  ⟨h.kept.of_eq rfl rfl, hu⟩

theorem State.blockOf_lt {i : Nat} (h : i < 8192) : blockOf i < 128 := Nat.div_lt_of_lt_mul h

theorem State.RecordsKept.index (h : s.RecordsKept) {i : Nat} (hi : (s.person i).isSome ∨ i < 8192) : i < 8192 := by
  rcases hi with hi | hi
  · exact h.records _ (Table.mem_of_read (d := none) fun hn => by
      unfold State.person at hi
      rw [hn] at hi
      cases hi)
  · exact hi

theorem State.RecordsKept.changePerson (h : s.RecordsKept) {i : Nat} {new : Option Person} (hi : i < 8192)
    (idle : s.muster.active = false → musterOf (s.person i) = .none → musterOf new = .none) : (s.changePerson i new).RecordsKept where
  persons := State.wf_changePerson h.persons i new
  records e he := by
    rcases Table.mem_write he with rfl | he
    · exact hi
    · exact h.records e he
  idle := by
    rw [State.changePerson_muster, Muster.move_active]
    intro ha j p hj
    rw [State.person_changePerson h.persons] at hj
    split at hj
    · have none := idle ha (by
        cases hp : s.person i with
        | none => rfl
        | some q => exact h.idle ha i q hp)
      rw [hj] at none
      exact none
    · exact h.idle ha j p hj

/-- A change of one record marks its block where a retained field changes, the store being OPEN (R9). -/
theorem State.Stored.changePerson (h : s.Stored) {i : Nat} {new : Option Person} (hi : (s.person i).isSome ∨ i < 8192)
    (idle : s.muster.active = false → musterOf (s.person i) = .none → musterOf new = .none)
    (opened : s.store.state = .opened ∨ retained (s.person i) = retained new) : (s.changePerson i new).Stored := by
  have index := h.kept.index hi
  refine ⟨h.kept.changePerson index idle, ?_⟩
  refine h.store.markWhen _ (Nat.le_of_lt (State.blockOf_lt index)) (fun hm => ?_) fun b hb => ?_
  · rcases opened with ho | hr
    · rw [ho]
      exact fun hn => nomatch hn
    · exact absurd hr (of_decide_eq_true hm)
  · refine personCopy_congr h.kept.persons (State.wf_changePerson h.kept.persons i new) fun j hj => ?_
    have read : (s.changePerson i new).persons.read none j = if j = i then new else s.persons.read none j :=
      State.person_changePerson h.kept.persons i new j
    rw [read]
    split
    · rename_i hji
      subst hji
      rcases hb with hb | hb
      · exact (not_not.mp (of_decide_eq_false hb)).symm
      · exact absurd hj.symm hb
    · rfl

/-- A change of a record that reaches no retained field, and not its muster state. -/
theorem State.Stored.changeQuietly (h : s.Stored) {i : Nat} {p q : Person} (record : s.person i = some p)
    (same : retained (some q) = retained (some p)) (muster : q.muster = p.muster) : (s.changePerson i (some q)).Stored := by
  refine h.changePerson (.inl (by rw [record]; rfl)) (fun _ hm => ?_) (.inr (by rw [record]; exact same.symm))
  rw [record] at hm
  exact muster.trans hm

theorem State.Stored.removePermits (h : s.Stored) (l : Nat) (gone : Permit → Bool) : (s.removePermits l gone).Stored :=
  State.removePermits_keeps (P := State.Stored) (fun _ _ _ hu hp => hu.changeQuietly hp rfl rfl) (fun _ _ hu => hu.of_eq rfl rfl rfl) h

theorem State.Stored.cancelAllPermits (h : s.Stored) : s.cancelAllPermits.Stored :=
  State.cancelAllPermits_keeps (P := State.Stored) (fun _ l _ hu => hu.removePermits l _) h

/-- Every record changes, and no retained field of a block that the store is faithful to. -/
theorem State.Stored.mapRecords (h : s.Stored) {g : Person → Person} (hp : t.persons = s.persons.mapRecords none (Option.map g))
    (hs : t.store = s.store) (idle : t.muster.active = false → ∀ p, (g p).muster = .none)
    (same : ∀ i p, s.person i = some p → blockOf i ∈ s.store.dirty ∨ s.store.isFailed (blockOf i) = true
      ∨ retained (some (g p)) = retained (some p)) : t.Stored := by
  have wf : t.persons.wf none := hp ▸ Table.wf_mapRecords h.kept.persons _
  refine ⟨⟨wf, fun e he => ?_, fun ha i p hi => ?_⟩, ?_⟩
  · rw [hp] at he
    obtain ⟨x, hx, rfl⟩ := List.mem_map.mp (List.mem_of_mem_filter he)
    exact h.kept.records x hx
  · rw [person_mapRecords h.kept.persons hp, Option.map_eq_some_iff] at hi
    obtain ⟨v, -, rfl⟩ := hi
    exact idle ha v
  · rw [hs]
    refine h.store.of_copy fun b _ hd hf => personCopy_congr h.kept.persons wf fun i hi => ?_
    have read : t.persons.read none i = (s.person i).map g := person_mapRecords h.kept.persons hp i
    rw [read]
    change _ = retained (s.person i)
    cases hpi : s.person i with
    | none => rfl
    | some p =>
      rcases same i p hpi with hm | hm | hm
      · exact absurd (hi ▸ hm) hd
      · rw [hi, hf] at hm
        cases hm
      · exact hm

theorem State.Stored.ledger (h : s.Stored) (slots : Table Slot) (journal : List Entry) (i : Nat) (f : Account → Account) :
    ({ s with slots, journal }.changeAccount i f).Stored := by
  rw [State.changeAccount_ledger]
  have changed : (s.changeAccount i f).Stored :=
    State.changeAccount_keeps (P := State.Stored) (fun _ _ hp _ => h.changeQuietly hp rfl rfl) h
  exact changed.of_eq rfl rfl rfl

/-- A permit at the head of a queue shows that the store is OPEN and no muster ACTIVE (R58). -/
theorem State.PermitsHeldBack.opened_of_first (h : s.PermitsHeldBack) {l : Nat} {d : Direction} {permit : Permit}
    (first : (s.lane l).permits.find? (fun p => decide (p.direction = d)) = some permit) : ¬ s.holdsBack := fun hb => by
  rw [h.none hb l] at first
  cases first

theorem Change.stored (hc : c.lanes) (h : Change c s t) (hb : s.PermitsHeldBack) (hs : s.Stored) : t.Stored := by
  cases h with
  | aside h _ => exact hs.of_eq h.persons (by rw [h.muster]) h.store
  | remove l gone _ => exact hs.removePermits l gone
  | grant l i p _ _ _ record _ _ =>
    exact (hs.changeQuietly (q := { p with gatePermit := some l }) record rfl rfl).of_eq rfl rfl rfl
  | passage l d permit p target _ first record =>
    have put : (s.putLane l { s.lane l with permits := consume d (s.lane l).permits }).Stored := hs.of_eq rfl rfl rfl
    refine put.changePerson (.inl (by exact Option.isSome_of_eq_some record)) (fun _ hm => ?_) (.inl ?_)
    · have hm' : musterOf (s.person permit.person) = .none := hm
      rw [record] at hm'
      exact hm'
    · by_contra hn
      exact hb.opened_of_first (first hc) (.inr hn)
  | person i new fits => exact hs.changePerson fits.index fits.idle fits.opened
  | ledger slots journal i f _ _ _ _ => exact hs.ledger slots journal i f
  | muster id idle opened =>
    refine State.Stored.cancelAllPermits (hs.mapRecords (g := Person.atMusterStart) ?_ ?_ ?_ fun i p hp => ?_)
    · rfl
    · rfl
    · exact fun ha => nomatch ha
    · have := hs.kept.idle idle i p hp
      refine .inr (.inr ?_)
      by_cases hl : p.location = .aboard <;> simp [retained, Person.atMusterStart, hl, this, MusterState.isMustered]
  | dismiss opened marked =>
    refine hs.mapRecords (g := Person.atMusterEnd) rfl rfl (fun _ _ => rfl) fun i p hp => ?_
    cases hm : p.muster.isMustered with
    | true => exact (marked i p hp hm).elim .inl fun hf => .inr (.inl hf)
    | false =>
      refine .inr (.inr ?_)
      simp only [retained, Person.atMusterEnd, hm]
      rfl
  | mark b hb unclosed => exact hs.withStore (hs.store.mark (hb hs.kept.records) unclosed fun _ _ => rfl)
  | turn waits => exact hs.withStore (hs.store.turn hs.kept.persons waits s.muster s.clock.mono)
  | closing now =>
    exact State.Stored.cancelAllPermits (hs.withStore (hs.store.withState (by simp) _ _))
  | released state _ unopened after =>
    exact hs.withStore (hs.store.released after.1)
  | completed f agrees _ inFlight => exact hs.withStore (hs.store.completed inFlight)
  | started _ => exact hs.withStore (hs.store.withState (by simp) _ _)
  | _ => exact hs.of_eq rfl rfl rfl

/-! ### Resets -/

/-- The records that a restore rebuilds, as a list (R165). -/
def State.restoredEntries (s : State) : List (Nat × Option Person) :=
  (List.range 128).flatMap fun b => recordsOf s.foundActive (judgeBlock s.restoring.found s.store.interrupted.blocks b)

theorem State.restoring_persons (s : State) : s.restoring.persons = Table.ofEntries none s.restoredEntries := by
  unfold State.restoredEntries State.restoring restore
  simp only [List.flatMap_map]
  rfl

/-- What stands as entries belongs to its block (R155). -/
def Store.Ordered (u : Store) : Prop := ∀ b l, b < 128 → u.blocks.read .erased b = .entries l → EntriesOf b l

theorem judgeBlock_eq_entries {found : Found} {blocks : Table StoredBlock} {b : Nat} {l : List (Nat × StoredEntry)} :
    judgeBlock found blocks b = .entries l ↔ found.judgement ≠ .blank ∧ b ∉ found.facts.failedList
      ∧ (blocks.read .erased b = .entries l ∨ blocks.read .erased b = .erased ∧ Config.erasedBlockAgrees b = true ∧ l = []) := by
  unfold judgeBlock
  by_cases hj : found.judgement = .blank
  · simp [hj]
  · by_cases hf : b ∈ found.facts.failedList
    · simp [hj, hf]
    · cases hb : blocks.read .erased b with
      | entries k => simp [hj, hf]
      | failing => simp [hj, hf]
      | erased =>
        cases he : Config.erasedBlockAgrees b <;> simp [hj, hf, eq_comm]

/-- Entries that a restore finds in a block belong to it. -/
theorem Store.Ordered.judged {u : Store} (h : u.Ordered) {found : Found} {b : Nat} (hb : b < 128) {l : List (Nat × StoredEntry)}
    (hl : judgeBlock found u.blocks b = .entries l) : EntriesOf b l := by
  obtain ⟨-, -, hr | ⟨-, -, rfl⟩⟩ := judgeBlock_eq_entries.mp hl
  · exact h b l hb hr
  · exact ⟨List.Pairwise.nil, fun _ he => absurd he List.not_mem_nil⟩

/-- The restored records of a store whose blocks hold their own entries stand in ascending order (R155, R165). -/
theorem State.restoredEntries_wf (h : s.store.interrupted.Ordered) : Table.wf none s.restoredEntries := by
  refine ⟨List.pairwise_flatMap.mpr ⟨fun b hb => ?_, ?_⟩, fun x hx => ?_⟩
  · unfold recordsOf
    cases hj : judgeBlock s.restoring.found s.store.interrupted.blocks b with
    | entries l => exact List.pairwise_map.mpr ((h.judged (List.mem_range.mp hb) hj).1.imp fun hlt => hlt)
    | _ => exact List.Pairwise.nil
  · refine List.pairwise_lt_range.imp_of_mem fun {a b} ha hb hab x hx y hy => ?_
    obtain ⟨l, e, hl, hm, -⟩ := mem_recordsOf.mp hx
    obtain ⟨l', e', hl', hm', -⟩ := mem_recordsOf.mp hy
    have hxa : x.1 / 64 = a := (h.judged (List.mem_range.mp ha) hl).2 _ hm
    have hyb : y.1 / 64 = b := (h.judged (List.mem_range.mp hb) hl').2 _ hm'
    by_contra hle
    have := Nat.div_le_div_right (c := 64) (Nat.not_lt.mp hle)
    omega
  · obtain ⟨b, -, hx⟩ := List.mem_flatMap.mp hx
    obtain ⟨_, _, -, -, he⟩ := mem_recordsOf.mp hx
    rw [he]
    exact fun hn => nomatch hn

/-- The record that a restore rebuilds at an index (R165). -/
theorem State.restoring_read (h : s.store.interrupted.Ordered) {i : Nat} {v : Person} :
    s.restoring.persons.read none i = some v ↔ blockOf i < 128 ∧ ∃ l e,
      judgeBlock s.restoring.found s.store.interrupted.blocks (blockOf i) = .entries l ∧ (i, e) ∈ l
      ∧ v = restoredPerson s.foundActive e := by
  have wf := State.restoredEntries_wf h
  rw [State.restoring_persons, Table.ofEntries_eq_self wf]
  have mem : (i, some v) ∈ s.restoredEntries ↔ Table.read none s.restoredEntries i = some v := by
    rw [Table.mem_iff_read (d := none) wf]
    simp
  rw [← mem]
  unfold State.restoredEntries
  simp only [List.mem_flatMap, List.mem_range, mem_recordsOf, Option.some.injEq]
  constructor
  · rintro ⟨b, hb, l, e, hl, hm, hv⟩
    have hbi : blockOf i = b := (h.judged hb hl).2 _ hm
    exact ⟨hbi ▸ hb, l, e, hbi ▸ hl, hm, hv⟩
  · rintro ⟨hb, l, e, hl, hm, hv⟩
    exact ⟨_, hb, l, e, hl, hm, hv⟩

/-- A reset's part-written block holds no entries; what stands as entries after it stood before (R157). -/
theorem Store.interrupted_read {u : Store} (hw : u.blocks.wf .erased) (b : Nat) :
    u.interrupted.blocks.read .erased b = .failing ∨ u.interrupted.blocks.read .erased b = u.blocks.read .erased b := by
  rcases u.interrupted_blocks with hb | ⟨k, hb⟩ <;> rw [hb]
  · exact .inr rfl
  · rw [Table.read_write hw]
    split
    · exact .inl rfl
    · exact .inr rfl

theorem State.Stored.ordered (h : s.Stored) : s.store.interrupted.Ordered := by
  intro b l _ hl
  rcases Store.interrupted_read h.store.blocks b with hb | hb <;> rw [hb] at hl
  · cases hl
  · exact h.store.stored b l hl

theorem mem_restoring_dirty {b : Nat} : b ∈ s.restoring.dirty
    ↔ b < 128 ∧ dirties s.restoring.found (judgeBlock s.restoring.found s.store.interrupted.blocks b) = true := by
  unfold State.restoring restore
  simp only [List.mem_map, List.mem_filter, List.mem_range]
  constructor
  · rintro ⟨_, ⟨⟨b', hb', rfl⟩, hd⟩, rfl⟩
    exact ⟨hb', hd⟩
  · rintro ⟨hb, hd⟩
    exact ⟨_, ⟨⟨b, hb, rfl⟩, hd⟩, rfl⟩

theorem restoring_dirty_ascending (s : State) : s.restoring.dirty.Pairwise (· < ·) := by
  unfold State.restoring restore
  dsimp only
  rw [List.pairwise_map]
  refine List.Pairwise.filter _ (List.pairwise_map.mpr ?_)
  exact List.pairwise_lt_range

/-- The retained fields of a restored record are those of its entry, where no mustered flag is cleared (R139, R140). -/
theorem retained_restoredPerson {active : Bool} {e : StoredEntry} (h : clearsMustered active e = false) :
    retained (some (restoredPerson active e)) = some e := by
  have kept : (restoredMuster active e).isMustered = e.mustered := by
    unfold restoredMuster
    cases hm : e.mustered with
    | false => split <;> rfl
    | true =>
      have : active = true ∧ e.location = .aboard := by simpa [clearsMustered, hm] using h
      rw [if_pos this]
      rfl
  simp only [retained, restoredPerson, kept]

/-! ### The store that a reset leaves -/

theorem State.resetPart_holds (h : s.Stored) (cause : ResetCause) (pins : BitVec 4) :
    (s.resetPart cause pins).store.Holds (personCopy (s.resetPart cause pins).persons) := by
  rw [State.resetPart_persons, State.resetPart_store]
  have ordered := h.ordered
  have restored : (restoredStore s.store.interrupted s.restoring).Holds (personCopy s.restoring.persons) := by
    constructor
    case dirty => exact ⟨restoring_dirty_ascending s, fun b hb => Nat.le_of_lt (mem_restoring_dirty.mp hb).1⟩
    case blocks =>
      change s.store.interrupted.blocks.wf .erased
      rcases s.store.interrupted_blocks with hb | ⟨b, hb⟩ <;> rw [hb]
      · exact h.store.blocks
      · exact Table.wf_write h.store.blocks _ _
    case stored =>
      intro b l hl
      rcases Store.interrupted_read h.store.blocks b with hb | hb
      · exact absurd (hb.symm.trans hl) (by simp)
      · exact h.store.stored b l (hb.symm.trans hl)
    case flight => exact fun f hf => nomatch hf
    case faithful =>
      intro b hb hd hf
      have clean : dirties s.restoring.found (judgeBlock s.restoring.found s.store.interrupted.blocks b) = false := by
        by_contra hn
        exact hd (mem_restoring_dirty.mpr ⟨hb, by simpa using hn⟩)
      have listed : b ∉ s.restoring.found.facts.failedList := (Store.isFailed_false.mp hf).1
      obtain ⟨l, hl⟩ : ∃ l, judgeBlock s.restoring.found s.store.interrupted.blocks b = .entries l := by
        cases hj : judgeBlock s.restoring.found s.store.interrupted.blocks b with
        | entries l => exact ⟨l, rfl⟩
        | empty => rw [hj] at clean; cases clean
        | lost => rw [hj] at clean; cases clean
        | failed =>
          unfold judgeBlock at hj
          split at hj
          · cases hj
          · split at hj
            · exact absurd (List.contains_iff_mem.mp ‹_›) listed
            · split at hj
              · cases hj
              · cases hj
              · split at hj <;> cases hj
      have entries := ordered.judged hb hl
      have copied : personCopy s.restoring.persons b = l := by
        refine eq_of_ascending (personCopy_ascending s.restoring_wf b) entries.1 fun x => ?_
        rw [show x = (x.1, x.2) from rfl, mem_personCopy s.restoring_wf]
        have unmarked : ∀ e, (x.1, e) ∈ l → clearsMustered s.foundActive e = false := fun e hm => by
          rw [hl] at clean
          by_contra hn
          exact absurd clean (by
            rw [Bool.not_eq_false]
            exact List.any_eq_true.mpr ⟨(x.1, e), hm, by simpa using hn⟩)
        constructor
        · rintro ⟨hi, hr⟩
          cases hv : s.restoring.persons.read none x.1 with
          | none => rw [hv] at hr; cases hr
          | some v =>
            obtain ⟨-, l', e, hl', hm, rfl⟩ := (State.restoring_read ordered).mp hv
            rw [hi, hl] at hl'
            cases hl'
            rw [hv, retained_restoredPerson (unmarked e hm)] at hr
            cases hr
            exact hm
        · intro hm
          have hi : blockOf x.1 = b := entries.2 _ hm
          have hv := (State.restoring_read ordered).mpr ⟨hi ▸ hb, l, x.2, hi ▸ hl, hm, rfl⟩
          exact ⟨hi, by rw [hv, retained_restoredPerson (unmarked _ hm)]⟩
      rw [copied]
      obtain ⟨-, -, hr | ⟨hr, -, rfl⟩⟩ := judgeBlock_eq_entries.mp hl
      · have : (restoredStore s.store.interrupted s.restoring).coming b = .entries l := hr
        rw [this]
        rfl
      · have : (restoredStore s.store.interrupted s.restoring).coming b = .erased := hr
        rw [this]
        rfl
    case drained => exact fun hn => nomatch hn
    case unlisted => exact fun hn => absurd rfl hn
    case lastWrites => exact fun _ f hf => nomatch hf
  split
  · exact restored.withState (by simp) _ _
  · exact restored.startWrite s.restoring_wf rfl (.inr ⟨rfl, by exact fun hn => nomatch hn⟩) (fun _ => rfl) _ _

theorem State.resetPart_stored (h : s.Stored) (cause : ResetCause) (pins : BitVec 4) : (s.resetPart cause pins).Stored := by
  have counts := State.resetPart_musterCounts cause pins s
  refine ⟨⟨counts.persons, fun x hx => ?_, counts.idle⟩, State.resetPart_holds h cause pins⟩
  rw [State.resetPart_persons] at hx
  have hv := (Table.mem_iff_read s.restoring_wf).mp (show (x.1, x.2) ∈ _ from hx)
  cases hx2 : x.2 with
  | none => exact absurd hx2 hv.2
  | some v =>
    have lt := ((State.restoring_read h.ordered).mp (hv.1.trans hx2)).1
    exact Nat.lt_of_not_le fun hle => absurd (Nat.div_le_div_right (c := 64) hle) (Nat.not_le.mpr lt)

/-! ### While the store is not OPEN -/

/-- No retained field differs (R9). -/
def SameRetained (s t : State) : Prop := ∀ i, retained (t.person i) = retained (s.person i)

theorem SameRetained.of_persons (h : t.persons = s.persons) : SameRetained s t := fun i => by unfold State.person; rw [h]

theorem SameRetained.trans {u : State} (h : SameRetained s t) (h' : SameRetained t u) : SameRetained s u :=
  fun i => (h' i).trans (h i)

theorem SameRetained.changePerson (hw : s.persons.wf none) {i : Nat} {new : Option Person}
    (same : retained (s.person i) = retained new) : SameRetained s (s.changePerson i new) := fun j => by
  rw [State.person_changePerson hw]
  split
  · rename_i hj
    rw [hj, same]
  · rfl

theorem SameRetained.removePermits (hw : s.persons.wf none) (l : Nat) (gone : Permit → Bool) :
    SameRetained s (s.removePermits l gone) := fun i => by
  rw [State.person_removePermits hw]
  split
  · cases s.person i <;> rfl
  · rfl

theorem SameRetained.cancelAllPermits (hw : s.persons.wf none) : SameRetained s s.cancelAllPermits :=
  (State.cancelAllPermits_keeps (P := fun u => u.persons.wf none ∧ SameRetained s u)
    (fun _ l _ hu => ⟨State.wf_removePermits hu.1 l _, hu.2.trans (.removePermits hu.1 l _)⟩) ⟨hw, fun _ => rfl⟩).2

/-- A change of an unopened store's part that does not open it reaches no retained field, and the store stays unopened (R160). -/
theorem Change.shut (hc : c.lanes) (ho : ¬ c.opens) (h : Change c s t) (hb : s.PermitsHeldBack) (hw : s.persons.wf none)
    (hs : s.store.state ≠ .opened) : t.persons.wf none ∧ t.store.state ≠ .opened ∧ SameRetained s t := by
  cases h with
  | aside h _ => exact ⟨h.persons ▸ hw, h.store ▸ hs, .of_persons h.persons⟩
  | remove l gone _ =>
    refine ⟨State.wf_removePermits hw l gone, ?_, .removePermits hw l gone⟩
    obtain ⟨ps, hf⟩ := State.removePermits_frame l gone s
    rw [hf]
    exact hs
  | grant l i p _ _ opened _ _ _ => exact absurd opened hs
  | passage l d permit p target _ first _ => exact absurd (.inr hs) (hb.opened_of_first (first hc))
  | person i new fits =>
    exact ⟨State.wf_changePerson hw i new, hs, .changePerson hw (fits.opened.resolve_left hs)⟩
  | ledger slots journal i f _ _ _ _ =>
    rw [State.changeAccount_ledger]
    have changed : (s.changeAccount i f).persons.wf none ∧ (s.changeAccount i f).store.state ≠ .opened
        ∧ SameRetained s (s.changeAccount i f) :=
      State.changeAccount_keeps (P := fun u => u.persons.wf none ∧ u.store.state ≠ .opened ∧ SameRetained s u)
        (fun p a hp _ => ⟨State.wf_changePerson hw i _, hs, .changePerson hw (by rw [hp]; rfl)⟩) ⟨hw, hs, fun _ => rfl⟩
    exact changed
  | muster id _ opened => exact absurd opened hs
  | dismiss opened _ => exact absurd opened hs
  | turn waits => exact ⟨hw, by rw [State.turnAs, Store.turn_state]; exact hs, fun _ => rfl⟩
  | closing now =>
    refine ⟨?_, ?_, ?_⟩
    · exact (State.cancelAllPermits_keeps (P := fun u => u.persons.wf none) (fun _ l _ hu => State.wf_removePermits hu l _) hw)
    · obtain ⟨ps, ls, hf⟩ := State.cancelAllPermits_frame
        ({ s with store := { s.store with state := .closing, assertedAt := now } } : State)
      rw [hf]
      exact fun hn => nomatch hn
    · exact .cancelAllPermits (s := { s with store := { s.store with state := .closing, assertedAt := now } }) hw
  | released state may _ _ => exact absurd may ho
  | completed f agrees may _ => exact absurd may ho
  | started may => exact absurd may ho
  | _ => exact ⟨hw, hs, fun _ => rfl⟩

/-- What is assumed of a command that does not open the store. -/
def Setting.shut : Setting := { opens := False, lanes := True, slots := False }

/-- What a course in an unopened store keeps. -/
theorem Course.shut (h : Course .shut s t) (hb : s.PermitsHeldBack) (hw : s.persons.wf none) (hs : s.store.state ≠ .opened) :
    SameRetained s t :=
  (Course.keeps (P := fun u => u.PermitsHeldBack ∧ u.persons.wf none ∧ u.store.state ≠ .opened ∧ SameRetained s u)
    (fun _ _ hc ⟨hb, hw, hs, same⟩ =>
      have ⟨hw', hs', same'⟩ := hc.shut trivial id hb hw hs
      ⟨hc.permitsHeldBack trivial hb, hw', hs', same.trans same'⟩)
    (fun _ _ ha ⟨hb, hw, hs, same⟩ =>
      ⟨hb.aside ha, ha.persons ▸ hw, ha.store ▸ hs, same.trans (.of_persons ha.persons)⟩)
    h ⟨hb, hw, hs, fun _ => rfl⟩).2.2.2

theorem State.inputFalls_persons (h : s.inputFalls = .next t) : t.persons = s.persons := by
  simp only [State.inputFalls] at h
  split at h
  · rw [eq_of_event h]; rfl
  · cases hs : s.store.state <;> (rw [hs] at h; rw [eq_of_event h]; rfl)

theorem execStoreWriteComplete_persons {duration : Nat} {agrees : Bool} (h : execStoreWriteComplete duration agrees s = .next t) :
    t.persons = s.persons := by
  unfold execStoreWriteComplete at h
  split at h
  · cases h
  · cases hf : s.store.inFlight with
    | none => rw [hf] at h; cases h; rfl
    | some f =>
      rw [hf] at h
      rw [← Host.Outcome.next.inj h]
      unfold State.afterStartUpWrite
      split
      · split <;> rfl
      · rfl
      · rfl

/-- Settles O60: with the permits held back, every kind of change and a reset keep the store faithful; and no kind of change that
may occur in an unopened store reaches a retained field. -/
theorem stepsKeepTheStoreFaithful : Obligations.StepsKeepTheStoreFaithful := by
  refine ⟨fun s t hs h => ?_, fun cmd s t hb hw hs hr h => ?_⟩
  · rw [State.storeFaithful_iff_stored] at hs ⊢
    exact step_keeps (P := fun u => u.PermitsHeldBack ∧ u.Stored) .laned trivial (fun _ _ hu => hu.1.lanes) False.elim
      (fun _ _ ha hu => ⟨hu.1.aside ha, hu.2.of_eq ha.persons (by rw [ha.muster]) ha.store⟩)
      (fun _ _ hc hu => ⟨hc.permitsHeldBack trivial hu.1, hc.stored trivial hu.1 hu.2⟩)
      (fun cause pins u hu => ⟨State.resetPart_permitsHeldBack cause pins u, State.resetPart_stored hu.2 cause pins⟩)
      (fun _ _ hu => ⟨hu.1.of_same rfl rfl id, hu.2.of_eq rfl rfl rfl⟩) h hs
  · cases ho : mayOpen cmd with
    | false =>
      exact Course.shut (exec_course (fun hn => by rw [ho] at hn; cases hn) (fun _ => hb.lanes) False.elim hr h) hb hw hs
    | true =>
      cases cmd with
      | storeWriteComplete duration agrees => exact SameRetained.of_persons (execStoreWriteComplete_persons h)
      | powerFailRelease =>
        change execPowerFailRelease s = .next t at h
        unfold execPowerFailRelease at h
        split at h
        · rw [← Host.Outcome.next.inj h]; exact fun _ => rfl
        · exact (Course.shut State.takeDueAssertion_path.course hb hw hs).trans (.of_persons (State.inputFalls_persons h))
      | _ => cases ho

end Sys2Proof.Machine
end

section
/-!
PROOFS. The reset state meets every invariant (O4).
-/

namespace Sys2Proof.Machine

theorem State.reset_tidy : State.reset.Tidy where
  decoders := Table.wf_nil
  persons := Table.wf_nil
  tally := Table.wf_nil
  stations := Table.wf_nil
  lanes := Table.wf_nil
  cabins := Table.wf_nil
  outlets := Table.wf_nil
  slots := Table.wf_nil
  points := Table.wf_nil
  levels := (by decide : defaultLevels.wf 0)
  groupsPending := Table.wf_nil
  members := Table.wf_nil
  blocks := Table.wf_nil
  faults := Table.wf_nil

theorem State.reset_permitsHeldBack : State.reset.PermitsHeldBack where
  lanes := Table.wf_nil
  stations := Table.wf_nil
  numbered _ he := absurd he List.not_mem_nil
  bound _ _ _ hb := nomatch hb
  none _ _ := rfl

theorem State.reset_permitsAgree : State.reset.PermitsAgree where
  persons := Table.wf_nil
  lanes := Table.wf_nil
  agree _ _ := ⟨(nomatch ·), fun ⟨_, hp, _⟩ => absurd hp List.not_mem_nil⟩
  atMost _ := Nat.zero_le _
  once _ := List.nodup_nil

theorem State.reset_musterAgrees : State.reset.MusterAgrees where
  heldBack := State.reset_permitsHeldBack
  persons := Table.wf_nil
  cabins := Table.wf_nil
  points := Table.wf_nil
  unmustered := rfl
  unrecorded := rfl
  point _ := rfl
  unswept := rfl
  idle _ _ _ hp := nomatch hp
  active ha := nomatch ha
  idleSweeps _ _ := rfl
  activeSweeps ha := nomatch ha

theorem State.reset_accountsAgree : State.reset.AccountsAgree where
  persons := Table.wf_nil
  slots := Table.wf_nil
  held _ _ ha := nomatch ha
  unposted _ _ ha := nomatch ha
  holdOwner _ _ hk := nomatch hk
  entryOwner _ he := absurd he List.not_mem_nil

theorem State.reset_withinCapacity : State.reset.WithinCapacity := by constructor <;> exact Nat.zero_le _

theorem State.reset_levelsInRange : State.reset.LevelsInRange :=
  (State.restarted_levelsInRange .powerOn 0 State.reset).of_notices rfl

/-- Every person block of the reset state is dirty, and its control block's write in flight (R166). -/
theorem State.reset_storeFaithful : State.reset.StoreFaithful where
  heldBack := State.reset_permitsHeldBack
  persons := Table.wf_nil
  records _ he := absurd he List.not_mem_nil
  dirty := ⟨List.pairwise_lt_range, fun _ hb => Nat.le_of_lt (List.mem_range.mp hb)⟩
  blocks := Table.wf_nil
  idle _ _ _ hp := nomatch hp
  stored _ _ hl := nomatch hl
  flight := by rintro _ ⟨⟩; rfl
  faithful b hb hd := absurd (List.mem_range.mpr hb) hd
  drained hs := nomatch hs
  unlisted hu := absurd rfl hu
  lastWrites hw := absurd rfl hw

/-- Settles O4: of the reset state every table but the levels is empty. -/
theorem resetMeetsEveryInvariant : Obligations.ResetMeetsEveryInvariant :=
  ⟨State.reset_tidy, ⟨Table.wf_nil, Table.wf_nil, fun _ _ => rfl⟩, ⟨Table.wf_nil, fun _ _ hp => nomatch hp⟩,
    ⟨Table.wf_nil, Table.wf_nil, fun _ => rfl, fun _ => Nat.zero_le _⟩, State.reset_permitsAgree, State.reset_permitsHeldBack,
    State.reset_musterAgrees, State.reset_accountsAgree, State.reset_withinCapacity, State.reset_levelsInRange,
    State.reset_storeFaithful⟩

end Sys2Proof.Machine
end

section
/-!
PROOFS. Which units an operation reaches, one rule per operation, and how a claim of `Keeps` follows from what the operations
that make up a command reach.
-/

namespace Sys2Proof.Machine

variable {s t u : State} {a b : List Part}

/-! ### The reach of a change -/

/-- A unit is as it was, the store too: nothing has taken the writer's turn. -/
def Part.steady (s t : State) : Part → Prop
  | .store => t.store = s.store
  | p => p.kept s t

/-- A change reaches units of a list alone: every other is steady. -/
def Reaches (changed : List Part) (s t : State) : Prop := ∀ p : Part, p ∉ changed → p.steady s t

theorem Part.steady_trans {p : Part} (h : p.steady s t) (h' : p.steady t u) : p.steady s u := by
  cases p with
  | pins => exact ⟨h'.1.trans h.1, h'.2.1.trans h.2.1, h'.2.2.trans h.2.2⟩
  | tally => exact ⟨h'.1.trans h.1, h'.2.trans h.2⟩
  | deadline => exact ⟨h'.1.trans h.1, h'.2.1.trans h.2.1, h'.2.2.trans h.2.2⟩
  | movements => exact ⟨h'.1.trans h.1, h'.2.trans h.2⟩
  | journal => exact ⟨h'.1.trans h.1, h'.2.1.trans h.2.1, h'.2.2.1.trans h.2.2.1, h'.2.2.2.trans h.2.2.2⟩
  | host =>
    have ht : { t.host with wake := s.host.wake } = s.host := h
    have hu : { u.host with wake := t.host.wake } = t.host := h'
    change { u.host with wake := s.host.wake } = s.host
    rw [← ht, ← hu]
  | _ => exact Eq.trans h' h

theorem Reaches.trans (h : Reaches a s t) (h' : Reaches b t u) : Reaches (a ++ b) s u := fun p hp =>
  Part.steady_trans (h p fun hm => hp (List.mem_append_left b hm)) (h' p fun hm => hp (List.mem_append_right a hm))

theorem Reaches.mono (h : Reaches a s t) (hab : ∀ p ∈ a, p ∈ b) : Reaches b s t := fun p hp => h p fun hm => hp (hab p hm)

/-- Steps that reach units of one list. -/
theorem Reaches.then (h : Reaches a s t) (h' : Reaches a t u) : Reaches a s u := fun p hp => Part.steady_trans (h p hp) (h' p hp)

theorem Part.steady_refl (p : Part) (s : State) : p.steady s s := by
  cases p with
  | pins => exact ⟨rfl, rfl, rfl⟩
  | tally => exact ⟨rfl, rfl⟩
  | deadline => exact ⟨rfl, rfl, rfl⟩
  | movements => exact ⟨rfl, rfl⟩
  | journal => exact ⟨rfl, rfl, rfl, rfl⟩
  | _ => rfl

theorem Reaches.start (s : State) : Reaches a s s := fun p _ => p.steady_refl s

/-- A state with one unit put back as it was in another. -/
def Part.restore (s : State) (p : Part) (t : State) : State :=
  match p with
  | .queue => { t with pending := s.pending }
  | .phase => { t with phase := s.phase }
  | .pins => { t with unitAddressPins := s.unitAddressPins, unitAddress := s.unitAddress, powerFailLevel := s.powerFailLevel }
  | .clock => { t with clock := s.clock }
  | .decoders => { t with decoders := s.decoders }
  | .persons => { t with persons := s.persons }
  | .tally => { t with tally := s.tally, tallySequence := s.tallySequence }
  | .stations => { t with stations := s.stations }
  | .lanes => { t with lanes := s.lanes }
  | .deadline =>
    { t with deadline := s.deadline, deadlineArrived := s.deadlineArrived, guestsReported := s.guestsReported }
  | .movements => { t with movementLog := s.movementLog, discardCount := s.discardCount }
  | .cabins => { t with cabins := s.cabins }
  | .doorSettings => { t with doorSettings := s.doorSettings }
  | .outlets => { t with outlets := s.outlets }
  | .holds => { t with slots := s.slots }
  | .journal =>
    { t with
      journal := s.journal, allowance := s.allowance, nextCharge := s.nextCharge
      journalFullReported := s.journalFullReported }
  | .muster => { t with muster := s.muster }
  | .notices => { t with notices := s.notices }
  | .wake => { t with host := { t.host with wake := s.host.wake } }
  | .host => { t with host := { s.host with wake := t.host.wake } }
  | .station => { t with station := s.station }
  | .store => { t with store := s.store }
  | .freeIndex => { t with freeIndex := s.freeIndex }

/-- Putting one unit back leaves every other as it is. -/
theorem Part.steady_of_restore {p p' : Part} (hne : p ≠ p') (h : p.steady s (p'.restore s t)) : p.steady s t := by
  cases p' <;> cases p <;> first | exact h | exact absurd rfl hne

/-- A state that is another once some units are put back differs from it in those alone. -/
theorem Reaches.of_restore (h : a.foldr (Part.restore s) t = s) : Reaches a s t := by
  intro p hp
  have steady : p.steady s (a.foldr (Part.restore s) t) := by
    rw [h]
    exact p.steady_refl s
  clear h
  induction a with
  | nil => exact steady
  | cons p' a ih =>
    rw [List.mem_cons, not_or] at hp
    exact ih hp.2 (Part.steady_of_restore hp.1 steady)

theorem Keeps.mono (h : Keeps a s t) (hab : ∀ p ∈ a, p ∈ b) : Keeps b s t := fun p hp => h p fun hm => hp (hab p hm)

/-- The turn with which an event ends reaches the store alone, and in the way that `Keeps` allows. -/
theorem Reaches.turned (h : Reaches a s t) : Keeps a s t.writerTurn := fun p hp => by
  have hp := h p hp
  cases p with
  | store =>
    have hs : t.store = s.store := hp
    change t.store.turn _ _ _ _ = s.store.turn _ _ _ _
    rw [hs]
    rfl
  | _ => exact hp

/-! ### The taking and the answering of a request -/

theorem Reaches.dropHostRequest (s : State) : Reaches [.host] s s.dropHostRequest := .of_restore rfl

theorem Reaches.hostReply (s : State) (r : HostReply) : Reaches [.host] s (s.hostReply r) := .of_restore rfl

theorem Reaches.dropStationRequest (s : State) : Reaches [.station] s s.dropStationRequest := .of_restore rfl

theorem Reaches.stationReply (s : State) (r : StationReply) : Reaches [.station] s (s.stationReply r) := .of_restore rfl

/-- What a host command reaches besides the link, its owner's act reaches. -/
theorem Reaches.hostKeeps (h : Reaches a s.dropHostRequest u) (r : HostReply) : Keeps (.host :: a) s (u.hostReply r).writerTurn := by
  refine Reaches.turned ((((Reaches.dropHostRequest s).trans h).trans (Reaches.hostReply u r)).mono fun p hp => ?_)
  simp only [List.mem_append, List.mem_cons, List.not_mem_nil, or_false] at hp ⊢
  tauto

theorem Reaches.stationKeeps (h : Reaches a s.dropStationRequest u) (r : StationReply) :
    Keeps (.station :: a) s (u.stationReply r).writerTurn := by
  refine Reaches.turned ((((Reaches.dropStationRequest s).trans h).trans (Reaches.stationReply u r)).mono fun p hp => ?_)
  simp only [List.mem_append, List.mem_cons, List.not_mem_nil, or_false] at hp ⊢
  tauto

/-- An owner that leaves the host link alone leaves it to the reply. -/
theorem Reaches.hostAnswered (h : Reaches a s.dropHostRequest u) (hn : Part.host ∉ a) (r : HostReply) :
    HostAnswered s (u.hostReply r).writerTurn r := by
  have hu : { u.host with wake := s.host.wake } = s.dropHostRequest.host := h .host hn
  change { { u.host with wake := s.host.wake } with replies := u.host.replies ++ [r] } = _
  have hr : u.host.replies = s.host.replies := (congrArg HostLink.replies hu :)
  rw [hu, hr]
  rfl

theorem Reaches.stationAnswered (h : Reaches a s.dropStationRequest u) (hn : Part.station ∉ a) (r : StationReply) :
    StationAnswered s (u.stationReply r).writerTurn r := by
  have hu : u.station = s.dropStationRequest.station := h .station hn
  change { u.station with replies := u.station.replies ++ [r] } = _
  rw [hu]
  rfl

section Acts

variable {α : Type} {kind : Byte} {decode : List Byte → Option α} {r : Request} {q : α} {c : Instr} {P : State → Prop}

/-- A host request whose owner acts and answers: the reply, what the act leaves, and what it leaves alone. -/
theorem host_acts {act : α → State → State × HostAnswer} {answer : HostAnswer} (h : HostOffer s kind decode r q)
    (hx : exec c s = takeHost kind decode act r s) (ha : act q s.dropHostRequest = (u, answer))
    (hf : Reaches a s.dropHostRequest u) (hn : Part.host ∉ a)
    (hp : P (u.hostReply ⟨kind, r.tag, answer.result, answer.fields⟩).writerTurn) :
    ∃ t, exec c s = .next t ∧ HostAnswered s t ⟨kind, r.tag, answer.result, answer.fields⟩ ∧ P t ∧ Keeps (.host :: a) s t := by
  refine takeHost_done h hx ?_
  rw [ha]
  exact ⟨hf.hostAnswered hn _, hp, hf.hostKeeps _⟩

/-- The same of a station request. -/
theorem station_acts {act : α → State → State × StationAnswer} {answer : StationAnswer} (h : StationOffer s kind decode r q)
    (hx : exec c s = takeStation kind decode act r s) (ha : act q s.dropStationRequest = (u, answer))
    (hf : Reaches a s.dropStationRequest u) (hn : Part.station ∉ a)
    (hp : P (u.stationReply ⟨kind, r.tag, answer.result, answer.groups⟩).writerTurn) :
    ∃ t, exec c s = .next t ∧ StationAnswered s t ⟨kind, r.tag, answer.result, answer.groups⟩ ∧ P t
      ∧ Keeps (.station :: a) s t := by
  refine takeStation_done h hx ?_
  rw [ha]
  exact ⟨hf.stationAnswered hn _, hp, hf.stationKeeps _⟩

/-- An event and what it leaves alone. -/
theorem event_acts (hx : exec c s = event u) (hf : Reaches a s u) (hp : P u.writerTurn) :
    ∃ t, exec c s = .next t ∧ P t ∧ Keeps a s t := ⟨_, hx, hp, hf.turned⟩

end Acts

/-! ### The operations -/

theorem Reaches.raiseWhen (s : State) (c : Bool) (m : MemberId) (d : Nat) : Reaches [.notices, .wake] s (s.raiseWhen c m d) := .of_restore rfl

theorem Reaches.raise (s : State) (m : MemberId) (d : Nat) : Reaches [.notices, .wake] s (s.raise m d) := Reaches.raiseWhen s true m d

theorem Reaches.advanceTo (s : State) (due : Nat) : Reaches [.clock] s (s.advanceTo due) := .of_restore rfl

theorem Reaches.putLane (s : State) (l : Nat) (v : Lane) : Reaches [.lanes] s (s.putLane l v) := .of_restore rfl

theorem Reaches.putCabin (s : State) (k : Nat) (v : Cabin) : Reaches [.cabins] s (s.putCabin k v) := .of_restore rfl

theorem Reaches.putSlot (s : State) (k : Nat) (v : Slot) : Reaches [.holds] s (s.putSlot k v) := .of_restore rfl

/-- A change of the person records alone. -/
theorem Reaches.persons (s : State) (ps : Table (Option Person)) : Reaches [.persons] s { s with persons := ps } := .of_restore rfl

theorem Reaches.lanes (s : State) (ls : Table Lane) : Reaches [.lanes] s { s with lanes := ls } := .of_restore rfl

theorem Reaches.changeAccount (s : State) (i : Nat) (f : Account → Account) : Reaches [.persons] s (s.changeAccount i f) := by
  obtain ⟨ps, h⟩ := State.changeAccount_rest s i f
  rw [h]
  exact Reaches.persons s ps

theorem Reaches.removePermits (s : State) (l : Nat) (gone : Permit → Bool) : Reaches [.persons, .lanes] s (s.removePermits l gone) := by
  obtain ⟨ps, h⟩ := State.removePermits_frame l gone s
  rw [h]
  exact (Reaches.persons s ps).trans (Reaches.lanes { s with persons := ps } _)

theorem Reaches.cancelAllPermits (s : State) : Reaches [.persons, .lanes] s s.cancelAllPermits := by
  obtain ⟨ps, ls, h⟩ := State.cancelAllPermits_frame s
  rw [h]
  exact (Reaches.persons s ps).trans (Reaches.lanes { s with persons := ps } ls)

theorem Reaches.changePerson (s : State) (i : Nat) (new : Option Person) : Reaches personUnits s (s.changePerson i new) := by
  unfold State.changePerson
  dsimp only
  refine Reaches.mono (((Reaches.of_restore (a := [.persons, .tally, .cabins, .muster, .store, .deadline]) ?_).trans
    (Reaches.raiseWhen _ _ _ _)).trans (Reaches.raiseWhen _ _ _ _)) (by decide)
  simp only [List.foldr, Part.restore]

end Sys2Proof.Machine
end

section
/-!
PROOFS. The host's messages on settings, and the requests of sources that the tables do not serve.
-/

namespace Sys2Proof.Machine

open Sys2Proof

/-- A lane is held elsewhere exactly where another address is bound to it with kind LANE, enabled or not. -/
theorem State.laneHeldElsewhere_iff {s : State} (h : s.stations.wf Station.reset) (a : Nat) (e : Station) :
    s.laneHeldElsewhere a e = true ↔ e.kind = .lane ∧ ∃ b, b ≠ a ∧ (s.stationEntry b).kind = .lane
      ∧ (s.stationEntry b).binding = e.binding := by
  simp only [State.laneHeldElsewhere, Bool.and_eq_true, decide_eq_true_eq, List.any_eq_true]
  refine and_congr_right fun _ => ⟨?_, ?_⟩
  · rintro ⟨⟨b, v⟩, hm, hb, hk, hv⟩
    have hr : s.stationEntry b = v := ((Table.mem_iff_read h).mp hm).1
    exact ⟨b, hb, by rw [hr]; exact hk, by rw [hr]; exact hv⟩
  · rintro ⟨b, hb, hk, hv⟩
    refine ⟨(b, s.stationEntry b), (Table.mem_iff_read h).mpr ⟨rfl, fun hr => ?_⟩, hb, hk, hv⟩
    rw [hr] at hk
    exact absurd hk (by decide)

/-- Settles O21: each message writes what it carries, clamped, to one record of its table. -/
theorem settingsHoldWhatWasSet : Obligations.SettingsHoldWhatWasSet := by
  refine ⟨fun s r k d hs h => ?_, fun s r a e hs h => ⟨fun held => ?_, fun free => ?_⟩, fun s r k o hs h => ?_,
    fun s r d h => ?_⟩
  · exact host_acts (act := doSetDecoder) h rfl rfl (a := [.decoders]) (.of_restore rfl) (by decide)
      (P := fun t => ∀ j, t.decoder j = if j = k then d else s.decoder j) fun j => Table.read_write hs.decoders k d j
  · refine host_refused (act := doConfigureStation) h rfl (if_pos ?_)
    exact (State.laneHeldElsewhere_iff (s := s.dropHostRequest) hs.stations a e).mpr held
  · refine host_acts h rfl (act := doConfigureStation) (if_neg fun held => free ?_) (a := [.stations]) (.of_restore rfl) (by decide)
      (P := fun t => ∀ j, t.stationEntry j = if j = a then e else s.stationEntry j)
      fun j => Table.read_write hs.stations a e j
    exact (State.laneHeldElsewhere_iff (s := s.dropHostRequest) hs.stations a e).mp held
  · exact host_acts (act := doConfigureOutlet) h rfl rfl (a := [.outlets]) (.of_restore rfl) (by decide)
      (P := fun t => ∀ j, t.outlet j = if j = k then Outlet.clamped o else s.outlet j)
      fun j => Table.read_write hs.outlets k (Outlet.clamped o) j
  · exact host_acts (act := doSetDoorSettings) h rfl rfl (a := [.doorSettings]) (.of_restore rfl) (by decide)
      (P := fun t => t.doorSettings = DoorSettings.clamped d) rfl

/-! ### Sources that the tables do not serve -/

/-- A source that is refused raises UNCONFIGURED_SOURCE and nothing else. -/
theorem refusesUnserved_of {α : Type} {command : Request → Instr} {kind : Byte} {decode : List Byte → Option α}
    {source : α → Nat} {unserved : State → α → Prop} {act : α → State → State × StationAnswer}
    (hx : ∀ r s, exec (command r) s = takeStation kind decode act r s)
    (ha : ∀ q s, unserved s q → act q s.dropStationRequest = refuseSource (source q) s.dropStationRequest) :
    RefusesUnserved command kind decode source unserved := fun s r q h hu =>
  station_acts h (hx r s) (ha q s hu) (Reaches.raise _ _ _) (by decide)
    (P := fun t => Raised s t MemberId.unconfiguredSource (source q)) (Raised.of_raise s.dropStationRequest _ _)

/-- An entry of another kind, or one not enabled, refuses the source. -/
theorem atStation_unserved {s : State} {kind : StationKind} {a : Nat} (h : s.doesNotServe kind a)
    (owner : Nat → State → State × StationAnswer) :
    atStation kind a owner s.dropStationRequest = refuseSource a s.dropStationRequest := by
  have hb : s.dropStationRequest.bindingFor kind a = none := if_neg fun ⟨hk, he⟩ => h.elim (· hk) fun hf => by
    rw [State.dropStationRequest_stationEntry, hf] at he
    exact Bool.noConfusion he
  simp only [atStation, hb]

/-- Settles O24: the station-table check, and the configured flag of a cabin, come before every other test. -/
theorem unconfiguredSourcesAreRefused : Obligations.UnconfiguredSourcesAreRefused := by
  have door : ∀ {c : Nat} {s : State}, (s.cabin c).configured = false → (!(s.dropStationRequest.cabin c).configured) = true :=
    fun h => by rw [State.dropStationRequest_cabin, h]; rfl
  refine ⟨?_, ?_, ?_, ?_, ?_, ?_, ?_, ?_⟩
  iterate 6 exact refusesUnserved_of (fun _ _ => rfl) fun q s hu => atStation_unserved hu _
  · exact refusesUnserved_of (act := doDoorTap) (fun _ _ => rfl) fun q s hu => if_pos (door hu)
  · exact refusesUnserved_of (act := doDoorReport) (fun _ _ => rfl) fun q s hu => if_pos (door hu)

end Sys2Proof.Machine
end

section
/-!
PROOFS. The host's messages on person records.
-/

namespace Sys2Proof.Machine

open Sys2Proof

variable {s : State}

/-! ### What a change of one record leaves, in the terms of claims -/

/-- The unmustered count follows the muster state of a record. -/
theorem Muster.move_unmustered (m : Muster) (old new : MusterState) :
    (m.move old new).unmustered = if old = new then m.unmustered else if old = .unmustered then m.unmustered - 1
      else if new = .unmustered then m.unmustered + 1 else m.unmustered := by
  unfold Muster.move
  split
  · rfl
  · next hne => cases old <;> cases new <;> first | rfl | exact absurd rfl hne

theorem Muster.move_id (m : Muster) (old new : MusterState) : (m.move old new).id = m.id := by
  unfold Muster.move
  split
  · rfl
  · cases old <;> cases new <;> rfl

/-- A change of one occupant count leaves the rest of every cabin. -/
theorem read_occupantsAt {ct : Table Cabin} (h : ct.wf Cabin.reset) (f : Nat → Nat) (o : Option Nat) (c n : Nat) :
    { (occupantsAt f ct o).read Cabin.reset c with occupants := n } = { ct.read Cabin.reset c with occupants := n } := by
  cases o with
  | none => rfl
  | some k =>
    simp only [occupantsAt, Table.read_write h]
    split
    · next hc => rw [hc]
    · rfl

theorem read_moveOccupant {ct : Table Cabin} (h : ct.wf Cabin.reset) (old new : Option Nat) (c n : Nat) :
    { (moveOccupant ct old new).read Cabin.reset c with occupants := n } = { ct.read Cabin.reset c with occupants := n } := by
  unfold moveOccupant
  split
  · rfl
  · rw [read_occupantsAt (occupantsAt_wf _ h _), read_occupantsAt h]

/-- ALL_GUESTS_ABOARD is due to a change where `GuestsCome` says so. -/
theorem State.guestsDue_iff (i : Nat) (new : Option Person) (p : Prop) [Decidable p] :
    s.guestsDue (decide p) (s.changePerson i new).tally = true ↔ GuestsCome s (s.changePerson i new) p := by
  simp [State.guestsDue, State.tallyCount, and_assoc]

/-- The change of one record, with the writer's turn after it. -/
theorem OnePersonChanged.of_change (h : s.Tidy) (i : Nat) (new : Option Person) :
    OnePersonChanged s (s.changePerson i new).writerTurn i := by
  have person : ∀ j, (s.changePerson i new).writerTurn.person j = if j = i then new else s.person j :=
    fun j => State.person_changePerson h.persons i new j
  have this : (s.changePerson i new).writerTurn.person i = new := (person i).trans (if_pos rfl)
  constructor
  · exact fun j hj => (person j).trans (if_neg hj)
  · rw [this]
    change (if decide (placeOf (s.person i) ≠ placeOf new) = true then _ else _) = _
    by_cases hp : placeOf (s.person i) = placeOf new <;> simp [hp]
  · exact fun c => read_moveOccupant h.cabins _ _ c _
  · exact ⟨Muster.move_active _ _ _, Muster.move_id _ _ _, Muster.move_unswept _ _ _⟩
  · rw [this]
    exact Muster.move_unmustered _ _ _
  · rw [this]
    refine ⟨⟨rfl, rfl⟩, Bool.or_eq_true_iff.trans (or_congr_right ?_)⟩
    exact State.guestsDue_iff i new _
  · rw [this]
    exact State.changePerson_raised h.members i new
  · rw [this]
    rfl

/-- A host request whose owner changes one record. -/
theorem OnePersonChanged.of_host (h : s.Tidy) (i : Nat) (new : Option Person) (r : HostReply) :
    OnePersonChanged s ((s.dropHostRequest.changePerson i new).hostReply r).writerTurn i :=
  have one := OnePersonChanged.of_change (s := s.dropHostRequest) { h with } i new
  { others := one.others, sequence := one.sequence, cabins := one.cabins, muster := one.muster
    unmustered := one.unmustered, deadline := ⟨one.deadline.deadline, one.deadline.reported⟩, notices := one.notices
    store := one.store }

/-- A change that the counts do not follow, and that no retained field records, reaches the records alone. -/
theorem Reaches.changePerson_account {i : Nat} {p : Person} (hp : s.person i = some p) (a : Option Account) :
    Reaches [.persons] s (s.changePerson i (some { p with account := a })) := by
  rw [State.changePerson_account hp]
  exact Reaches.persons s _

/-- A change that keeps class, location, cabin and muster state reaches the record and the dirty set. -/
theorem Reaches.changePerson_placed {i : Nat} {p q : Person} (hp : s.person i = some p) (hplace : placeOf (some p) = placeOf (some q))
    (hm : p.muster = q.muster) (hc : p.cabin = q.cabin) : Reaches [.persons, .store] s (s.changePerson i (some q)) := by
  have hmu : s.muster.move p.muster q.muster = s.muster := if_pos hm
  have hd : (decide (0 < s.muster.unmustered) && s.muster.unmustered == 0) = false := by
    cases s.muster.unmustered <;> rfl
  simp only [State.changePerson, hp, musterOf, hmu, hd, hplace, cabinOf, hc, moveTally, moveOccupant, State.guestsDue,
    if_true, ne_eq, not_true_eq_false, decide_false, Bool.false_and, State.raiseWhen_false, Bool.or_false]
  exact .of_restore rfl

/-! ### ADJUST_BALANCE and UPDATE_ACCOUNT -/

/-- The account that a message on accounts works on. -/
theorem accountFor_ok {i : Nat} {p : Person} {a : Account} (hp : s.person i = some p) (hl : p.loaded = true)
    (ha : p.account = some a) : accountFor s i = .ok (p, a) := by
  simp only [accountFor, hp, hl, ha, Bool.not_true, Bool.false_eq_true, if_false]

theorem accountFor_noRecord {i : Nat} (hp : s.person i = none) : accountFor s i = .error .noRecord := by
  simp only [accountFor, hp]

theorem accountFor_incomplete {i : Nat} {p : Person} (hp : s.person i = some p) (hl : p.loaded = false) :
    accountFor s i = .error .recordIncomplete := by simp only [accountFor, hp, hl, Bool.not_false, if_true]

theorem accountFor_noAccount {i : Nat} {p : Person} (hp : s.person i = some p) (hl : p.loaded = true) (ha : p.account = none) :
    accountFor s i = .error .noAccount := by
  simp only [accountFor, hp, hl, ha, Bool.not_true, Bool.false_eq_true, if_false]

theorem doAdjustBalance_refused {q : Nat × Int} {reason : Result} (h : accountFor s q.1 = .error reason) :
    doAdjustBalance q s = (s, .plain reason) := by simp only [doAdjustBalance, h]

theorem doUpdateAccount_refused {q : Nat × AccountTerms} {reason : Result} (h : accountFor s q.1 = .error reason) :
    doUpdateAccount q s = (s, .plain reason) := by simp only [doUpdateAccount, h]

theorem doAdjustBalance_granted {q : Nat × Int} {p : Person} {a : Account} (h : accountFor s q.1 = .ok (p, a)) :
    doAdjustBalance q s = if balanceInRange (a.posted + q.2) then
      (s.changePerson q.1 (some { p with account := some { a with posted := a.posted + q.2 } }), .okay [.s4 (a.posted + q.2)])
    else (s, .plain .outOfRange) := by simp only [doAdjustBalance, h]

theorem doUpdateAccount_granted {q : Nat × AccountTerms} {p : Person} {a : Account} (h : accountFor s q.1 = .ok (p, a)) :
    doUpdateAccount q s = (s.changePerson q.1 (some { p with account := some (a.withTerms q.2) }), .plain .ok) := by
  simp only [doUpdateAccount, h]

/-- The change of one account: what is read of the records afterwards. -/
theorem read_changed (h : s.Tidy) (i : Nat) (new : Option Person) (r : HostReply) :
    ((s.dropHostRequest.changePerson i new).hostReply r).writerTurn.person i = new
      ∧ ∀ j, j ≠ i → ((s.dropHostRequest.changePerson i new).hostReply r).writerTurn.person j = s.person j := by
  have person := State.person_changePerson (s := s.dropHostRequest) h.persons i new
  exact ⟨(person i).trans (if_pos rfl), fun j hj => (person j).trans (if_neg hj)⟩

/-- Settles O19: the three tests of an account message, then, for ADJUST_BALANCE, the range of the sum. -/
theorem accountMessages : Obligations.AccountMessages := by
  refine ⟨fun s r i delta h => ⟨fun hp => ?_, fun p hp hl => ?_, fun p hp hl ha => ?_, fun p a hp hl ha => ⟨fun hr => ?_,
    fun hs hr => ?_⟩⟩, fun s r i terms h => ⟨fun hp => ?_, fun p hp hl => ?_, fun p hp hl ha => ?_, fun p a hs hp hl ha => ?_⟩⟩
  · exact host_refused h rfl (doAdjustBalance_refused (accountFor_noRecord hp))
  · exact host_refused h rfl (doAdjustBalance_refused (accountFor_incomplete hp hl))
  · exact host_refused h rfl (doAdjustBalance_refused (accountFor_noAccount hp hl ha))
  · refine host_refused h rfl ((doAdjustBalance_granted (accountFor_ok hp hl ha)).trans (if_neg ?_))
    rwa [balanceInRange_iff]
  · have act := (doAdjustBalance_granted (s := s.dropHostRequest) (q := (i, delta)) (accountFor_ok hp hl ha)).trans
      (if_pos (balanceInRange_iff.mpr hr))
    obtain ⟨t, hx, hans, ⟨hi, hj⟩, hk⟩ := host_acts (c := .adjustBalance r) (act := doAdjustBalance) (P := fun t =>
      t.person i = some { p with account := some { a with posted := a.posted + delta } } ∧ ∀ j, j ≠ i → t.person j = s.person j)
      h rfl act (Reaches.changePerson_account (s := s.dropHostRequest) hp _) (by decide) (read_changed hs i _ _)
    exact ⟨t, hx, hans, hi, hj, hk⟩
  · exact host_refused h rfl (doUpdateAccount_refused (accountFor_noRecord hp))
  · exact host_refused h rfl (doUpdateAccount_refused (accountFor_incomplete hp hl))
  · exact host_refused h rfl (doUpdateAccount_refused (accountFor_noAccount hp hl ha))
  · obtain ⟨t, hx, hans, ⟨hi, hj⟩, hk⟩ := host_acts (c := .updateAccount r) (act := doUpdateAccount) (P := fun t =>
      t.person i = some { p with account := some (a.withTerms terms) } ∧ ∀ j, j ≠ i → t.person j = s.person j)
      h rfl (doUpdateAccount_granted (accountFor_ok hp hl ha))
      (Reaches.changePerson_account (s := s.dropHostRequest) hp _) (by decide) (read_changed hs i _ _)
    exact ⟨t, hx, hans, hi, hj, hk⟩

/-! ### SET_LOCATION and REISSUE_CARD -/

/-- A host request whose owner changes one record: the reply, the record, the rest of the change and its reach. -/
theorem host_changes {α : Type} {kind : Byte} {decode : List Byte → Option α} {r : Request} {q : α} {c : Instr}
    {act : α → State → State × HostAnswer} {i : Nat} {new : Option Person} {answer : HostAnswer} {a : List Part} (hs : s.Tidy)
    (h : HostOffer s kind decode r q) (hx : exec c s = takeHost kind decode act r s)
    (ha : act q s.dropHostRequest = (s.dropHostRequest.changePerson i new, answer))
    (hf : Reaches a s.dropHostRequest (s.dropHostRequest.changePerson i new)) (hn : Part.host ∉ a) :
    ∃ t, exec c s = .next t ∧ HostAnswered s t ⟨kind, r.tag, answer.result, answer.fields⟩ ∧ t.person i = new
      ∧ OnePersonChanged s t i ∧ Keeps (.host :: a) s t := by
  obtain ⟨t, hx, hans, ⟨hi, hone⟩, hk⟩ := host_acts (P := fun t => t.person i = new ∧ OnePersonChanged s t i) h hx ha hf hn
    ⟨(read_changed hs i new _).1, OnePersonChanged.of_host hs i new _⟩
  exact ⟨t, hx, hans, hi, hone, hk⟩

theorem doSetLocation_record {i : Nat} {loc : Location} {p : Person} (ho : s.store.state = .opened) (hp : s.person i = some p) :
    doSetLocation (i, loc) s = (s.changePerson i (some { p with
      location := loc, muster := if s.muster.active then placedMuster loc else p.muster }), .okay [.b1 loc.code]) := by
  simp only [doSetLocation, ho, hp, ne_eq, not_true_eq_false, if_false]

theorem doReissueCard_record {i : Nat} {p : Person} (ho : s.store.state = .opened) (hp : s.person i = some p) :
    doReissueCard i s = (s.changePerson i (some { p with generation := p.generation + 1 }),
      .okay [.b1 (p.generation + 1).toNat]) := by
  simp only [doReissueCard, ho, hp, ne_eq, not_true_eq_false, if_false]

/-- Settles O18: the store's state and the record decide, and one record changes. -/
theorem locationAndGenerationAreSet : Obligations.LocationAndGenerationAreSet := by
  refine ⟨fun s r i loc h => ⟨fun hc => ?_, fun ho hp => ?_, fun p hs ho hp => ?_⟩,
    fun s r i h => ⟨fun hc => ?_, fun ho hp => ?_, fun p hs ho hp => ?_⟩⟩
  · exact host_refused (act := doSetLocation) h rfl (if_pos hc)
  · refine host_refused (act := doSetLocation) h rfl ((if_neg (not_not.mpr ho)).trans ?_)
    simp only [State.dropHostRequest_person, hp]
  · exact host_changes (c := .setLocation r) (act := doSetLocation) hs h rfl (doSetLocation_record ho hp)
      (Reaches.changePerson _ _ _) (by decide)
  · exact host_refused (act := doReissueCard) h rfl (if_pos hc)
  · refine host_refused (act := doReissueCard) h rfl ((if_neg (not_not.mpr ho)).trans ?_)
    simp only [State.dropHostRequest_person, hp]
  · exact host_changes (c := .reissueCard r) (act := doReissueCard) hs h rfl (doReissueCard_record ho hp)
      (Reaches.changePerson_placed (s := s.dropHostRequest) hp rfl rfl rfl) (by decide)

/-! ### CLEAR_PERSON -/

theorem doClearPerson_refused {i : Nat} {reason : Result} (h : clearRefusal s i = some reason) :
    doClearPerson i s = (s, .plain reason) := by simp only [doClearPerson, h]

theorem doClearPerson_granted {i : Nat} (h : clearRefusal s i = none) :
    doClearPerson i s = (s.changePerson i none, .plain .ok) := by simp only [doClearPerson, h]

/-- The tests of CLEAR_PERSON on a record, the store being OPEN. -/
theorem clearRefusal_of_record {i : Nat} {p : Person} (ho : s.store.state = .opened) (hp : s.person i = some p) :
    clearRefusal s i = if p.location = .aboard then some .aboard
      else if p.gatePermit.isSome then some .hasPermit
      else if (p.account.map Account.held).getD 0 > 0 then some .hasHolds
      else if (p.account.map Account.unposted).getD 0 > 0 then some .hasUnposted
      else none := by simp only [clearRefusal, ho, ne_eq, not_true_eq_false, if_false, hp]

/-- Settles O20: the five tests in order, and the record's removal. -/
theorem clearPersonEmptiesTheRecord : Obligations.ClearPersonEmptiesTheRecord := by
  refine fun s r i h => ⟨fun hc => ?_, fun ho hp => ?_, fun p ho hp => ?_⟩
  · exact host_refused h rfl (doClearPerson_refused (if_pos hc))
  · refine host_refused h rfl (doClearPerson_refused ((if_neg (not_not.mpr ho)).trans ?_))
    simp only [State.dropHostRequest_person, hp]
  · have tests := clearRefusal_of_record (s := s.dropHostRequest) ho hp
    refine ⟨fun hl => ?_, fun hl hg => ?_, fun a hl hg ha hh => ?_, fun a hl hg ha hh hu => ?_, fun hs hl hg ha => ?_⟩
    · exact host_refused h rfl (doClearPerson_refused (tests.trans (if_pos hl)))
    · refine host_refused h rfl (doClearPerson_refused (tests.trans ?_))
      rw [if_neg hl, if_pos (Option.isSome_iff_ne_none.mpr hg)]
    · refine host_refused h rfl (doClearPerson_refused (tests.trans ?_))
      simp only [hl, hg, ha, Option.isSome_none, Option.map_some, Option.getD_some, hh, if_false, if_true, Bool.false_eq_true,
        gt_iff_lt]
    · refine host_refused h rfl (doClearPerson_refused (tests.trans ?_))
      simp only [hl, hg, ha, Option.isSome_none, Option.map_some, Option.getD_some, hh, hu, if_false, if_true,
        Bool.false_eq_true, gt_iff_lt, Nat.lt_irrefl]
    · have none_owed : clearRefusal s.dropHostRequest i = none := by
        rw [tests, if_neg hl, hg]
        cases ha' : p.account with
        | none => rfl
        | some a =>
          obtain ⟨hh, hu⟩ := ha a ha'
          simp [hh, hu]
      exact host_changes (c := .clearPerson r) (act := doClearPerson) hs h rfl (doClearPerson_granted none_owed)
        (Reaches.changePerson _ _ _) (by decide)

/-! ### LOAD_PERSON -/

theorem doLoadPerson_refused {q : LoadPerson} {reason : Result} (h : loadRefusal s q = some reason) :
    doLoadPerson q s = (s, .plain reason) := by simp only [doLoadPerson, h]

theorem FirstFailing.nil_iff {outcome : Option Result} : FirstFailing [] outcome ↔ none = outcome := eq_comm

/-- A list of tests, its first written as the branch that gives its reason. -/
theorem FirstFailing.cons_iff {p p' : Prop} [Decidable p'] {x : Result} {rest : List (Prop × Result)} {o outcome : Option Result}
    (hp : p ↔ p') (h : FirstFailing rest outcome ↔ o = outcome) :
    FirstFailing ((p, x) :: rest) outcome ↔ (if p' then some x else o) = outcome := by
  by_cases hp' : p'
  · simp [FirstFailing, hp, hp', eq_comm]
  · simp [FirstFailing, hp, hp', h]

theorem doLoadPerson_granted {q : LoadPerson} (h : loadRefusal s q = none) : doLoadPerson q s
    = (s.changePerson q.index (some (loadedPerson s.muster.active (s.person q.index) q)), .plain .ok) := by
  simp only [doLoadPerson, h]

/-- An amount of an account that may not be there is above 0 only where there is one. -/
theorem amount_pos {o : Option Account} {f : Account → Nat} :
    (o.map f).getD 0 > 0 ↔ ∃ a, o = some a ∧ 0 < f a := by
  cases o <;> simp

/-- The four tests of LOAD_PERSON, judged in order. -/
theorem loadTests_iff (q : LoadPerson) (outcome : Option Result) :
    FirstFailing
      [(s.store.state ≠ .opened, .powerFail),
       (q.account = none ∧ ∃ a, s.accountOf q.index = some a ∧ 0 < a.held, .hasHolds),
       (q.account = none ∧ ∃ a, s.accountOf q.index = some a ∧ 0 < a.unposted, .hasUnposted),
       (∃ c, q.cabin = some c ∧ 8 ≤ (s.cabin c).occupants ∧ cabinOf (s.person q.index) ≠ some c, .cabinFull)] outcome
      ↔ loadRefusal s q = outcome := by
  unfold loadRefusal
  refine FirstFailing.cons_iff Iff.rfl (FirstFailing.cons_iff ?_ (FirstFailing.cons_iff ?_ ?_))
  · rw [amount_pos, Option.isNone_iff_eq_none]; rfl
  · rw [amount_pos, Option.isNone_iff_eq_none]; rfl
  · cases hc : q.cabin with
    | none => simp [FirstFailing, eq_comm]
    | some c => exact FirstFailing.cons_iff (by simp) FirstFailing.nil_iff

/-- Settles O17: the tests in order, and the record that a load leaves, whether there was one or not. -/
theorem loadPersonReplacesTheRecord : Obligations.LoadPersonReplacesTheRecord := by
  refine ⟨fun s r q h reason hf => ?_, fun s r q hs h ho ha hc => ?_⟩
  · exact host_refused h rfl (doLoadPerson_refused ((loadTests_iff (s := s.dropHostRequest) q _).mp hf))
  · have granted : loadRefusal s.dropHostRequest q = none := by
      refine (loadTests_iff (s := s.dropHostRequest) q _).mp ?_
      refine .inr ⟨not_not.mpr ho, .inr ⟨?_, .inr ⟨?_, .inr ⟨?_, rfl⟩⟩⟩⟩
      · rintro ⟨hq, a, hacc, hheld⟩
        exact absurd (ha hq a hacc).1 hheld.ne'
      · rintro ⟨hq, a, hacc, hunposted⟩
        exact absurd (ha hq a hacc).2 hunposted.ne'
      · rintro ⟨c, hcabin, hfull, hother⟩
        exact (hc c hcabin).elim (fun hroom => absurd hfull (Nat.not_le.mpr hroom)) hother
    obtain ⟨t, hx, hans, hrec, hone, hk⟩ := host_changes (c := .loadPerson r) (act := doLoadPerson) hs h rfl
      (doLoadPerson_granted granted) (Reaches.changePerson _ _ _) (by decide)
    refine ⟨t, hx, hans, fun hp => ?_, fun p hp => ?_, hone, hk⟩
    · rw [hrec, State.dropHostRequest_person, hp]
      cases hl : q.location <;> cases hacc : q.account <;>
        simp [loadedPerson, loadedAccount, Account.fresh, placedMuster, hl, hacc] <;> cases s.muster.active <;> simp
    · refine ⟨loadedAccount p.account q.account q.posted, ?_, fun hq => ?_, fun a hq hacc => ?_, fun a b hq hacc => ?_⟩
      · rw [hrec, State.dropHostRequest_person, hp]
        rfl
      · rw [hq]; rfl
      · rw [hq, hacc]; rfl
      · rw [hq, hacc]; rfl

end Sys2Proof.Machine
end

section
/-!
PROOFS. The reach of the gate unit's operations, and the taking and answering of requests on both links.
-/

namespace Sys2Proof.Machine

open Sys2Proof

variable {s t u : State}

/-! ### The reach of the gate unit's operations -/

/-- A change of class, location or gate permit leaves the cabins and the muster counts. -/
theorem Reaches.changePerson_moved {i : Nat} {p q : Person} (hp : s.person i = some p) (hm : p.muster = q.muster)
    (hc : p.cabin = q.cabin) :
    Reaches [.persons, .tally, .store, .deadline, .notices, .wake] s (s.changePerson i (some q)) := by
  have hmu : s.muster.move p.muster q.muster = s.muster := if_pos hm
  have hd : (decide (0 < s.muster.unmustered) && s.muster.unmustered == 0) = false := by
    cases s.muster.unmustered <;> rfl
  simp only [State.changePerson, hp, musterOf, hmu, hd, cabinOf, hc, moveOccupant, if_true, State.raiseWhen_false]
  refine ((Reaches.of_restore (a := [.persons, .tally, .store, .deadline]) ?_).trans (Reaches.raiseWhen _ _ _ _)).mono (by decide)
  simp only [List.foldr, Part.restore]

theorem Reaches.appendMovement (s : State) (m : Movement) : Reaches [.movements, .notices, .wake] s (s.appendMovement m) := by
  refine (((Reaches.of_restore (a := [.movements]) ?_).trans (Reaches.raiseWhen _ _ _ _)).trans (Reaches.raiseWhen _ _ _ _)).mono
    (by decide)
  simp only [List.foldr, Part.restore]

theorem Reaches.noteSaturation (s : State) (lane : Nat) (before : LaneCounts) :
    Reaches [.lanes, .freeIndex, .notices, .wake] s (s.noteSaturation lane before) := by
  unfold State.noteSaturation
  dsimp only
  refine Reaches.trans (a := [.lanes, .freeIndex]) ?_ (Reaches.raiseWhen _ _ _ _)
  exact .of_restore rfl

theorem Reaches.tallySequence (s : State) (n : BitVec 32) : Reaches [.tally] s { s with tallySequence := n } := .of_restore rfl

/-- What a completed passage may reach. -/
def passageUnits : List Part := [.lanes, .persons, .tally, .deadline, .movements, .notices, .wake, .store]

theorem Reaches.permittedPassage (s : State) (lane : Nat) (d : Direction) (permit : Permit) :
    Reaches passageUnits s (s.permittedPassage lane d permit) := by
  cases hp : s.person permit.person with
  | none =>
    simp only [State.permittedPassage, hp]
    exact (Reaches.putLane _ _ _).mono (by decide)
  | some p =>
    simp only [State.permittedPassage, hp]
    have queued := Reaches.putLane s lane { s.lane lane with permits := consume d (s.lane lane).permits }
    have record : (s.putLane lane { s.lane lane with permits := consume d (s.lane lane).permits }).person permit.person = some p := hp
    generalize s.putLane lane { s.lane lane with permits := consume d (s.lane lane).permits } = v at queued record ⊢
    have moved := Reaches.changePerson_moved (q := { p with location := passageTarget d p.cls (s.lane lane).mode, gatePermit := Option.none })
      record rfl rfl
    exact (((queued.trans moved).trans (Reaches.tallySequence _ _)).trans (Reaches.appendMovement _ _)).mono (by decide)

theorem Reaches.judgePassage (s : State) (lane : Nat) (d : Direction) (openAtStart : Bool) :
    Reaches passageUnits s (s.judgePassage lane d openAtStart) := by
  have other : ∀ v m n, Reaches passageUnits s ((s.putLane lane v).raise m n) := fun v m n =>
    ((Reaches.putLane s lane v).trans (Reaches.raise _ m n)).mono (by decide)
  unfold State.judgePassage
  dsimp only
  split
  · exact ((Reaches.putLane s lane _).trans (Reaches.permittedPassage _ lane d _)).mono (by decide)
  · split
    · split <;> exact other _ _ _
    · exact other _ _ _

/-- What a beam event may reach. -/
def beamUnits : List Part := .freeIndex :: passageUnits

theorem Reaches.beamEvent (s : State) (lane : Nat) (b : Beam) : Reaches beamUnits s (s.beamEvent lane b) := by
  have taken := Reaches.putLane s lane (((s.lane lane).filtered b s.clock.mono).recognized b).1
  have rest : ∀ {v : State} {w : List Part}, Reaches w s v → (∀ p ∈ w, p ∈ beamUnits) →
      Reaches beamUnits s ((v.settleFlap lane).noteSaturation lane (s.lane lane).counts) := fun {v w} hv hw =>
    (hv.mono hw).then (((Reaches.putLane v lane _).trans (Reaches.noteSaturation _ lane _)).mono (by decide))
  unfold State.beamEvent
  dsimp only
  split
  · exact rest taken (by decide)
  · exact rest (taken.trans (Reaches.putLane _ lane _)) (by decide)
  · exact rest (taken.trans (Reaches.judgePassage _ lane _ _)) (by decide)

/-- The ends of a lane's filter runs leave the host link, but for the wake output, and the phase. -/
theorem State.endRuns_host (lane : Nat) (s : State) :
    { (s.endRuns lane).host with wake := s.host.wake } = s.host ∧ (s.endRuns lane).phase = s.phase := by
  refine State.endRuns_keeps (P := fun t => { t.host with wake := s.host.wake } = s.host ∧ t.phase = s.phase)
    (fun _ h => h) (fun t b h => ?_) ⟨rfl, rfl⟩
  have frame := (Reaches.beamEvent t lane b).turned
  have host : { (t.takeBeamEvent lane b).host with wake := t.host.wake } = t.host := frame .host (by decide)
  refine ⟨?_, (frame .phase (by decide)).trans h.2⟩
  have : { { (t.takeBeamEvent lane b).host with wake := t.host.wake } with wake := s.host.wake } = s.host := by
    rw [host]
    exact h.1
  exact this

/-! ### The taking of a request -/

/-- The head request of a link is answered with a result that carries nothing. -/
def State.refuse (link : Link) (f : Frame) (result : Result) (s : State) : State :=
  match link with
  | .host => s.dropHostRequest.hostReply ⟨f.kind, f.tag, result, []⟩
  | .station => s.dropStationRequest.stationReply ⟨f.kind, f.tag, result, StationGroups.empty⟩

/-- Of a link's queues, the head request has left and one reply, of the request's kind and tag, has joined. -/
def OnceAnswered (link : Link) (f : Frame) (s t : State) : Prop :=
  match link with
  | .host => ∃ r : HostReply, r.kind = f.kind ∧ r.tag = f.tag ∧ t.queues
      = ((s.host.port.requests.tail, s.host.replies ++ [r]), s.station.port.requests, s.station.replies)
  | .station => ∃ r : StationReply, r.kind = f.kind ∧ r.tag = f.tag ∧ t.queues
      = ((s.host.port.requests, s.host.replies), s.station.port.requests.tail, s.station.replies ++ [r])

theorem State.refuse_once (link : Link) (f : Frame) (result : Result) (s : State) :
    OnceAnswered link f s (s.refuse link f result).writerTurn := by
  cases link
  · exact ⟨⟨f.kind, f.tag, result, []⟩, rfl, rfl, rfl⟩
  · exact ⟨⟨f.kind, f.tag, result, StationGroups.empty⟩, rfl, rfl, rfl⟩

/-- How a command takes the request of a frame: not at all where it may not; with MALFORMED where the request is unfit; and
with one reply whatever it is. -/
structure Answers (cmd : Instr) (link : Link) (f : Frame) : Prop where
  idle : ∀ s, s.takes link f = false → exec cmd s = .next s
  unfit : ∀ s, s.takes link f = true → cmd.wellFormed = false → exec cmd s = .next (s.refuse link f .malformed).writerTurn
  once : ∀ s, s.takes link f = true → ∃ t, exec cmd s = .next t ∧ OnceAnswered link f s t

theorem Answers.runs {cmd : Instr} {link : Link} {f : Frame} (h : Answers cmd link f) (s : State) : ∃ t, exec cmd s = .next t := by
  cases ht : s.takes link f with
  | false => exact ⟨s, h.idle s ht⟩
  | true =>
    obtain ⟨t, hx, -⟩ := h.once s ht
    exact ⟨t, hx⟩

section Taking

variable {α : Type} {kind : Byte} {decode : List Byte → Option α} {r : Request}

theorem Request.unfit (h : r.wf decode = false) : r.tag = 0 ∨ decode r.body = none := by
  simpa [Request.wf, Decidable.or_iff_not_imp_left] using h

/-- The taking of a host request answers once. -/
theorem takeHost_once {act : α → State → State × HostAnswer} (ht : s.hostTakes ⟨kind, r.tag, r.body⟩ = true)
    (acts : ∀ q, decode r.body = some q → ((act q s.dropHostRequest).1).queues = s.dropHostRequest.queues) :
    ∃ t, takeHost kind decode act r s = .next t ∧ OnceAnswered .host ⟨kind, r.tag, r.body⟩ s t := by
  by_cases hb : r.tag = 0 ∨ decode r.body = none
  · exact ⟨_, takeHost_malformed ht hb act, State.refuse_once .host ⟨kind, r.tag, r.body⟩ .malformed s⟩
  · rw [not_or] at hb
    obtain ⟨q, hq⟩ := Option.ne_none_iff_exists'.mp hb.2
    refine ⟨_, takeHost_taken ⟨ht, hb.1, hq⟩ act,
      ⟨kind, r.tag, (act q s.dropHostRequest).2.result, (act q s.dropHostRequest).2.fields⟩, rfl, rfl, ?_⟩
    have := acts q hq
    simp only [State.queues, Prod.mk.injEq] at this
    obtain ⟨⟨h1, h2⟩, h3, h4⟩ := this
    simp only [State.queues, State.writerTurn_host, State.writerTurn_station, State.hostReply, h1, h2, h3, h4]
    rfl

/-- The same of a station request. -/
theorem takeStation_once {act : α → State → State × StationAnswer} (ht : s.stationTakes ⟨kind, r.tag, r.body⟩ = true)
    (acts : ∀ q, decode r.body = some q → ((act q s.dropStationRequest).1).queues = s.dropStationRequest.queues) :
    ∃ t, takeStation kind decode act r s = .next t ∧ OnceAnswered .station ⟨kind, r.tag, r.body⟩ s t := by
  by_cases hb : r.tag = 0 ∨ decode r.body = none
  · exact ⟨_, takeStation_malformed ht hb act, State.refuse_once .station ⟨kind, r.tag, r.body⟩ .malformed s⟩
  · rw [not_or] at hb
    obtain ⟨q, hq⟩ := Option.ne_none_iff_exists'.mp hb.2
    refine ⟨_, takeStation_taken ⟨ht, hb.1, hq⟩ act,
      ⟨kind, r.tag, (act q s.dropStationRequest).2.result, (act q s.dropStationRequest).2.groups⟩, rfl, rfl, ?_⟩
    have := acts q hq
    simp only [State.queues, Prod.mk.injEq] at this
    obtain ⟨⟨h1, h2⟩, h3, h4⟩ := this
    simp only [State.queues, State.writerTurn_host, State.writerTurn_station, State.stationReply, h1, h2, h3, h4]
    rfl

theorem takeHost_idle {act : α → State → State × HostAnswer} (ht : s.hostTakes ⟨kind, r.tag, r.body⟩ = false) :
    takeHost kind decode act r s = .next s := by rw [takeHost, ht]; rfl

theorem takeStation_idle {act : α → State → State × StationAnswer} (ht : s.stationTakes ⟨kind, r.tag, r.body⟩ = false) :
    takeStation kind decode act r s = .next s := by rw [takeStation, ht]; rfl

end Taking

/-- A setting of which nothing is asked. -/
def Setting.any : Setting := { opens := False, lanes := False, slots := False }

theorem Takes.answers {cmd : Instr} {link : Link} {f : Frame} (h : Takes cmd link f) : Answers cmd link f := by
  cases h with
  | host kind decode act r runs checked acts =>
    refine ⟨fun s hs => (runs s).trans (takeHost_idle hs), fun s hs hw => ?_, fun s hs => ?_⟩
    · exact (runs s).trans (takeHost_malformed hs (Request.unfit (checked ▸ hw)) act)
    · rw [runs]
      exact takeHost_once hs fun q hq => (acts (c := .any) q hq nofun).queues
  | station kind decode act r runs checked acts =>
    refine ⟨fun s hs => (runs s).trans (takeStation_idle hs), fun s hs hw => ?_, fun s hs => ?_⟩
    · exact (runs s).trans (takeStation_malformed hs (Request.unfit (checked ▸ hw)) act)
    · rw [runs]
      exact takeStation_once hs fun q hq => (acts (c := .any) q hq nofun).queues

/-- CONFIGURE_LANE answers once, the runs that end before and after it leaving the queues alone. -/
theorem answers_configureLane (r : Request) : Answers (.configureLane r) .host ⟨0x38, r.tag, r.body⟩ := by
  refine ⟨fun s hs => ?_, fun s hs hw => ?_, fun s hs => ?_⟩
  · have : configuredLane r s = none := if_neg fun h => Bool.false_ne_true (hs.symm.trans h.1)
    exact (execConfigureLane_of_none this).trans (takeHost_idle hs)
  · have bad : r.tag = 0 ∨ decodeConfigureLane r.body = none := Request.unfit hw
    refine (execConfigureLane_of_none ?_).trans (takeHost_malformed hs bad _)
    rcases bad with h | h
    · exact if_neg fun hr => hr.2 h
    · simp only [configuredLane, h, Option.map_none, ite_self]
  · have taking : ∀ {u : State}, u.hostTakes ⟨0x38, r.tag, r.body⟩ = true → ∃ t,
        takeHost 0x38 decodeConfigureLane doConfigureLane r u = .next t ∧ OnceAnswered .host ⟨0x38, r.tag, r.body⟩ u t :=
      fun hu => takeHost_once hu fun q hq => (doConfigureLane_path (c := .any) (decodeConfigureLane_lt hq)).queues
    cases hlane : configuredLane r s with
    | none =>
      obtain ⟨t, hx, ht⟩ := taking hs
      exact ⟨t, (execConfigureLane_of_none hlane).trans hx, ht⟩
    | some lane =>
      have hl : lane < 4 := by
        simp only [configuredLane, Option.ite_none_right_eq_some, Option.map_eq_some_iff] at hlane
        obtain ⟨-, q, hq, rfl⟩ := hlane
        exact decodeConfigureLane_lt hq
      have ended : ∀ u : State, (u.endRuns lane).queues = u.queues := fun u => (State.endRuns_path (c := .any) hl nofun).queues
      obtain ⟨host, phase⟩ := State.endRuns_host lane s
      have still : (s.endRuns lane).hostTakes ⟨0x38, r.tag, r.body⟩ = true := by
        rw [← hs]
        change _ = s.hostTakes _
        unfold State.hostTakes State.isRunning
        rw [phase, ← host]
      obtain ⟨t, hx, reply, hk, hg, hq⟩ := taking still
      refine ⟨t.endRuns lane, ?_, reply, hk, hg, ?_⟩
      · change execConfigureLane r s = _
        simp only [execConfigureLane, hlane, hx]
      · have before := ended s
        simp only [State.queues, Prod.mk.injEq] at before
        obtain ⟨⟨h1, h2⟩, h3, h4⟩ := before
        rw [ended t, hq, h1, h2, h3, h4]

theorem answers_unknownKindTaken {link : Link} {kind : Byte} (hk : isRequestKind link kind = false) (r : Request) :
    Answers (.unknownKindTaken link kind r) link ⟨kind, r.tag, r.body⟩ := by
  have run : ∀ s : State, exec (.unknownKindTaken link kind r) s = if s.takes link ⟨kind, r.tag, r.body⟩ then
      .next (s.refuse link ⟨kind, r.tag, r.body⟩ .unknownKind).writerTurn else .next s := fun s => by
    change execUnknownKindTaken link kind r s = _
    unfold execUnknownKindTaken
    rw [hk]
    cases link <;> rfl
  refine ⟨fun s hs => ?_, fun s hs hw => ?_, fun s hs => ⟨_, (run s).trans (if_pos hs), State.refuse_once _ _ _ _⟩⟩
  · rw [run, hs]
    rfl
  · rw [Instr.wellFormed, hk] at hw
    exact Bool.noConfusion hw

theorem kind_of_toNat {kind : Byte} {n : Nat} (h : kind.toNat = n) : kind = BitVec.ofNat 8 n := by
  rw [← h, BitVec.ofNat_toNat, BitVec.setWidth_eq]

/-- The command for a frame of a kind that its link has takes that frame. -/
theorem request_commandFor (link : Link) (f : Frame) : (commandFor link f).request = some (link, f) := by
  obtain ⟨kind, tag, body⟩ := f
  cases link
  · simp only [commandFor, hostCommand]
    split <;> first | rfl | (rename_i h; obtain rfl := kind_of_toNat h; rfl)
  · simp only [commandFor, stationCommand]
    split <;> first | rfl | (rename_i h; obtain rfl := kind_of_toNat h; rfl)

/-- A well-formed request command, or the command for a frame, takes its request. -/
theorem answers_of_request {cmd : Instr} {link : Link} {f : Frame} (h : cmd.request = some (link, f))
    (hu : ∀ l k r, cmd = .unknownKindTaken l k r → isRequestKind l k = false) : Answers cmd link f := by
  by_cases unknown : ∃ l k r, cmd = .unknownKindTaken l k r
  · obtain ⟨l, k, r, rfl⟩ := unknown
    cases h
    exact answers_unknownKindTaken (hu _ _ _ rfl) r
  by_cases lane : ∃ r, cmd = .configureLane r
  · obtain ⟨r, rfl⟩ := lane
    cases h
    exact answers_configureLane r
  · exact (takes_of_request h (fun l k r e => unknown ⟨l, k, r, e⟩) fun r e => lane ⟨r, e⟩).answers

theorem answers_commandFor (link : Link) (f : Frame) : Answers (commandFor link f) link f := by
  refine answers_of_request (request_commandFor link f) fun l k r h => ?_
  cases hk : isRequestKind link f.kind with
  | false =>
    have hc : commandFor link f = _ := Laws.Checks.unknown_of_kind hk f.tag f.body
    rw [hc] at h
    cases h
    exact hk
  | true =>
    exfalso
    cases link
    · simp only [commandFor, hostCommand] at h
      split at h <;> cases h
      revert hk
      simp only [isRequestKind, imp_false, Bool.not_eq_true, Bool.or_eq_false_iff, decide_eq_false_iff_not]
      simp only [imp_false] at *
      omega
    · simp only [commandFor, stationCommand] at h
      split at h <;> cases h
      revert hk
      simp only [isRequestKind, imp_false, Bool.not_eq_true, Bool.and_eq_false_iff, decide_eq_false_iff_not]
      simp only [imp_false] at *
      omega

end Sys2Proof.Machine
end

section
/-!
PROOFS. What is said of every request: that its command runs, that it is answered once, and that an unfit one changes nothing.
-/

namespace Sys2Proof.Machine

open Sys2Proof

variable {s t : State}

/-- Settles O12: a request command takes its request or, where it may not, does nothing. -/
theorem requestsAreAnsweredOnce : Obligations.RequestsAreAnsweredOnce := by
  intro link f s hs
  obtain ⟨t, hx, ht⟩ := (answers_commandFor link f).once s hs
  refine ⟨t, hx, ?_⟩
  cases link
  · obtain ⟨r, hk, hg, hq⟩ := ht
    simp only [State.queues, Prod.mk.injEq] at hq
    obtain ⟨⟨requests, replies⟩, stationRequests, stationReplies⟩ := hq
    exact ⟨requests, stationReplies, stationRequests, r, replies, hk, hg⟩
  · obtain ⟨r, hk, hg, hq⟩ := ht
    simp only [State.queues, Prod.mk.injEq] at hq
    obtain ⟨⟨hostRequests, hostReplies⟩, requests, replies⟩ := hq
    exact ⟨requests, hostReplies, hostRequests, r, replies, hk, hg⟩

theorem State.refuse_answered (link : Link) (f : Frame) (result : Result) (s : State) :
    Answered link s (s.refuse link f result).writerTurn f result := by
  cases link <;> rfl

theorem State.refuse_keeps (link : Link) (f : Frame) (result : Result) (s : State) :
    Keeps [Part.ofLink link] s (s.refuse link f result).writerTurn := by
  cases link
  · exact ((Reaches.dropHostRequest s).trans (Reaches.hostReply _ _)).turned.mono (by decide)
  · exact ((Reaches.dropStationRequest s).trans (Reaches.stationReply _ _)).turned.mono (by decide)

/-- Settles O13: the refusal of an unfit request takes it from its queue, answers it, and does nothing else. -/
theorem unfitRequestsChangeNothing : Obligations.UnfitRequestsChangeNothing := by
  intro link f s hs
  refine ⟨fun hk => ⟨(s.refuse link f .unknownKind).writerTurn, ?_, State.refuse_answered _ _ _ _, State.refuse_keeps _ _ _ _⟩,
    fun _ hw => ⟨_, (answers_commandFor link f).unfit s hs hw, State.refuse_answered _ _ _ _, State.refuse_keeps _ _ _ _⟩⟩
  change execUnknownKindTaken link f.kind ⟨f.tag, f.body⟩ s = _
  unfold execUnknownKindTaken
  rw [hk]
  cases link <;> exact if_pos hs

/-! ### Every well-formed command runs -/

/-- The outcome is a state. -/
def Runs (o : Host.Outcome State Fault Refusal) : Prop := ∃ t, o = .next t

theorem Runs.next (t : State) : Runs (.next t) := ⟨t, rfl⟩

theorem Runs.event (t : State) : Runs (event t) := ⟨_, rfl⟩

theorem Runs.ite {c : Prop} [Decidable c] {a b : Host.Outcome State Fault Refusal} (ha : Runs a) (hb : Runs b) :
    Runs (if c then a else b) := by
  split
  · exact ha
  · exact hb

theorem State.inputRises_runs (s : State) : Runs s.inputRises := by
  unfold State.inputRises
  refine .ite (.next _) (.ite (.event _) ?_)
  split <;> exact .event _

theorem State.inputFalls_runs (s : State) : Runs s.inputFalls := by
  unfold State.inputFalls
  refine .ite (.event _) ?_
  split <;> exact .event _

/-- A well-formed command that takes no request runs. -/
theorem event_runs {c : Instr} (hr : c.request = none) (hw : c.wellFormed = true) (s : State) : Runs (exec c s) := by
  cases c with
  | partReset cause pins => exact .event _
  | startedFrameStart =>
    change Runs (execStartedFrameStart s)
    unfold execStartedFrameStart
    split
    · exact .next _
    · exact .ite (.event _) (.next _)
  | frameReceived link bytes => exact .ite (.next _) (.event _)
  | frameTimeout link =>
    change Runs (execFrameTimeout link s)
    unfold execFrameTimeout
    split
    · exact .next _
    · exact .event _
  | hostReplyStart =>
    change Runs (execHostReplyStart s)
    unfold execHostReplyStart
    split
    · exact .next _
    · exact .ite (.event _) (.next _)
  | noticeFrameStart =>
    change Runs (execNoticeFrameStart s)
    unfold execNoticeFrameStart
    refine .ite ?_ (.next _)
    split
    · exact .next _
    · exact .event _
  | chargePostStart =>
    change Runs (execChargePostStart s)
    unfold execChargePostStart
    refine .ite ?_ (.next _)
    split
    · exact .next _
    · exact .event _
  | stationReplyStart =>
    change Runs (execStationReplyStart s)
    unfold execStationReplyStart
    split
    · exact .next _
    · exact .ite (.event _) (.next _)
  | frameSent link =>
    change Runs (execFrameSent link s)
    unfold execFrameSent
    cases link
    · dsimp only
      split
      · exact .next _
      · exact .ite (.event _) (.event _)
    · dsimp only
      split
      · exact .next _
      · exact .event _
  | shipTimeAdvance => exact .ite (.event _) (.next _)
  | beamRawChange lane b high =>
    change Runs (execBeamRawChange lane b high s)
    unfold execBeamRawChange
    rw [if_neg (not_le.mpr (of_decide_eq_true hw))]
    exact .ite (.next _) (.event _)
  | beamEvent lane b =>
    change Runs (execBeamEvent lane b s)
    unfold execBeamEvent
    rw [if_neg (not_le.mpr (of_decide_eq_true hw))]
    split
    · exact .next _
    · exact .event _
  | blockTimingExpiry lane b =>
    change Runs (execBlockTimingExpiry lane b s)
    unfold execBlockTimingExpiry
    rw [if_neg (not_le.mpr (of_decide_eq_true hw))]
    split
    · exact .next _
    · exact .event _
  | permitExpiry lane person =>
    obtain ⟨hl, hp⟩ := Bool.and_eq_true_iff.mp hw
    change Runs (execPermitExpiry lane person s)
    unfold execPermitExpiry
    rw [if_neg (not_le.mpr (of_decide_eq_true hl)), if_neg (not_le.mpr (of_decide_eq_true hp))]
    split
    · exact .next _
    · exact .event _
  | allAboardDeadlinePassed => exact .ite (.event _) (.next _)
  | strikeWindowEnd cabin =>
    change Runs (execStrikeWindowEnd cabin s)
    unfold execStrikeWindowEnd
    rw [if_neg (not_le.mpr (of_decide_eq_true hw))]
    split
    · exact .next _
    · exact .event _
  | lockoutEnd cabin =>
    change Runs (execLockoutEnd cabin s)
    unfold execLockoutEnd
    rw [if_neg (not_le.mpr (of_decide_eq_true hw))]
    split
    · exact .next _
    · exact .event _
  | ajarTimingEnd cabin =>
    change Runs (execAjarTimingEnd cabin s)
    unfold execAjarTimingEnd
    rw [if_neg (not_le.mpr (of_decide_eq_true hw))]
    split
    · exact .next _
    · exact .ite (.event _) (.next _)
  | holdExpiry slot =>
    change Runs (execHoldExpiry slot s)
    unfold execHoldExpiry
    rw [if_neg (not_le.mpr (of_decide_eq_true hw))]
    split
    · exact .next _
    · exact .ite (.event _) (.next _)
  | storeWriteComplete duration agrees =>
    obtain ⟨h1, h8⟩ := Bool.and_eq_true_iff.mp hw
    replace h1 := of_decide_eq_true h1
    replace h8 := of_decide_eq_true h8
    change Runs (execStoreWriteComplete duration agrees s)
    unfold execStoreWriteComplete
    rw [if_neg (by omega)]
    split
    · exact .next _
    · exact .next _
  | powerFailAssert =>
    change Runs (execPowerFailAssert s)
    unfold execPowerFailAssert
    split
    · exact .next _
    · exact s.inputRises_runs
    · exact s.inputRises_runs
  | powerFailRelease => exact .ite (.next _) (State.inputFalls_runs _)
  | frameStartByte link => exact .event _
  | _ => cases hr

/-- Settles O3: a request command runs in every state, and an event whose operands name parts that there are. -/
theorem wellFormedCommandsRun : Obligations.WellFormedCommandsRun := by
  refine ⟨fun c s hw => ?_, fun lane b high person s h => ⟨if_pos h, if_pos h, if_pos h, if_pos h⟩,
    fun lane person s hl hp => (if_neg (not_le.mpr hl)).trans (if_pos hp),
    fun cabin s h => ⟨if_pos h, if_pos h, if_pos h⟩, fun slot s h => if_pos h, fun duration agrees s h => if_pos h⟩
  cases hr : c.request with
  | none => exact event_runs hr hw s
  | some lf =>
    refine (answers_of_request hr fun l k r h => ?_).runs s
    subst h
    exact Bool.not_eq_true' _ ▸ hw

end Sys2Proof.Machine
end

section
/-!
PROOFS. The messages that read, with the layouts of their replies, and the messages on the links and the movement log.
-/

namespace Sys2Proof.Machine

open Sys2Proof

variable {s t : State}

/-! ### The messages that read -/

/-- A message whose owner changes nothing, and answers with fields that the taking of the request leaves alone. -/
theorem reads_of {α : Type} {command : Request → Instr} {kind : Byte} {decode : List Byte → Option α}
    {fields : α → State → List Field}
    (hx : ∀ r s, exec (command r) s = takeHost kind decode (fun q s => (s, .okay (fields q s))) r s)
    (hf : ∀ q s, fields q s.dropHostRequest = fields q s) : Reads command kind decode fields := fun s r q h =>
  ⟨_, (hx r s).trans (takeHost_taken h _), hf q s ▸ (Reaches.start _).hostAnswered (a := []) (by decide) _,
    (Reaches.start _).hostKeeps _⟩

/-! ### Layouts -/

/-- An optional field behind its presence byte. -/
theorem Field.optional_eq {given : Option (List Field) → List Field} (none : given .none = [.b1 0])
    (some : ∀ fs, given (.some fs) = .b1 1 :: fs) {α : Type} (f : α → List Field) (o : Option α) :
    Field.optional f o = given (o.map f) := by
  cases o with
  | none => exact none.symm
  | some a => exact (some (f a)).symm

/-- A list behind its count. -/
theorem Field.list_eq {α : Type} (f : α → List Field) (l : List α) :
    Field.list f l = .b1 (l.map f).length :: (l.map f).flatten := by
  rw [Field.list, List.length_map, List.flatMap_def]

/-- The occupied slots, in order. -/
theorem State.opened_spec (h : s.slots.wf Slot.reset) :
    ((s.slots.filter fun e => e.2.hold.isSome).map Prod.fst).Pairwise (· < ·)
      ∧ ∀ k, k ∈ (s.slots.filter fun e => e.2.hold.isSome).map Prod.fst ↔ (s.slot k).hold ≠ none := by
  refine ⟨List.pairwise_map.mpr (h.1.sublist List.filter_sublist), fun k => ?_⟩
  simp only [List.mem_map, List.mem_filter, Prod.exists, exists_and_right, exists_eq_right, Table.mem_iff_read h,
    Option.isSome_iff_ne_none]
  constructor
  · rintro ⟨v, ⟨rfl, -⟩, hv⟩
    exact hv
  · exact fun hk => ⟨_, ⟨rfl, fun hr => hk (congrArg Slot.hold hr)⟩, hk⟩

/-- The fields of a hold at a slot. -/
def heldFields (s : State) (e : Nat × Hold) : List Field :=
  [.b2 e.1, .b1 (s.slot e.1).tag.toNat, .b1 e.2.outlet, .b1 e.2.station, .b4 e.2.amount, .b4 e.2.opened, .b4 e.2.expiry]

/-- Slots that are occupied, each with its hold. -/
def holdsAt (l : List (Nat × Slot)) : List (Nat × Hold) := l.filterMap fun e => e.2.hold.map (Prod.mk e.1)

theorem mem_holdsAt {l : List (Nat × Slot)} {k : Nat} {h : Hold} : (k, h) ∈ holdsAt l ↔ ∃ v, (k, v) ∈ l ∧ v.hold = some h := by
  simp only [holdsAt, List.mem_filterMap, Option.map_eq_some_iff, Prod.mk.injEq, Prod.exists]
  constructor
  · rintro ⟨k, v, hm, h, hv, rfl, rfl⟩
    exact ⟨v, hm, hv⟩
  · rintro ⟨v, hm, hv⟩
    exact ⟨k, v, hm, h, hv, rfl, rfl⟩

theorem holdsAt_keys {l : List (Nat × Slot)} (h : ∀ e ∈ l, e.2.hold ≠ none) : (holdsAt l).map Prod.fst = l.map Prod.fst := by
  induction l with
  | nil => rfl
  | cons e l ih =>
    obtain ⟨v, hv⟩ := Option.ne_none_iff_exists'.mp (h e List.mem_cons_self)
    have ih := ih fun x hx => h x (List.mem_cons_of_mem _ hx)
    simp only [holdsAt, List.filterMap_cons, hv, Option.map_some, List.map_cons, List.cons.injEq, true_and] at ih ⊢
    exact ih

theorem holdsAt_fields {l : List (Nat × Slot)} (h : ∀ e ∈ l, e.2.hold ≠ none) (hs : ∀ e ∈ l, s.slot e.1 = e.2) :
    l.map holdFields = (holdsAt l).map (heldFields s) := by
  induction l with
  | nil => rfl
  | cons e l ih =>
    obtain ⟨v, hv⟩ := Option.ne_none_iff_exists'.mp (h e List.mem_cons_self)
    have ih := ih (fun x hx => h x (List.mem_cons_of_mem _ hx)) fun x hx => hs x (List.mem_cons_of_mem _ hx)
    simp only [holdsAt, List.filterMap_cons, hv, Option.map_some, List.map_cons, List.cons.injEq] at ih ⊢
    exact ⟨by simp only [holdFields, hv, heldFields, hs e List.mem_cons_self], ih⟩

/-- The holds of a person, in slot order, and their fields. -/
theorem State.holdsOf_spec (h : s.slots.wf Slot.reset) (i : Nat) :
    ((holdsAt (s.holdsOf i)).map Prod.fst).Pairwise (· < ·)
      ∧ (∀ k v, (k, v) ∈ holdsAt (s.holdsOf i) ↔ (s.slot k).hold = some v ∧ v.person = i)
      ∧ Field.list holdFields (s.holdsOf i) = .b1 ((holdsAt (s.holdsOf i)).map (heldFields s)).length
          :: ((holdsAt (s.holdsOf i)).map (heldFields s)).flatten := by
  have occupied : ∀ e ∈ s.holdsOf i, e.2.hold ≠ none := fun e he hn => by
    have := (List.mem_filter.mp he).2
    rw [hn] at this
    cases this
  refine ⟨?_, fun k v => ?_, ?_⟩
  · rw [holdsAt_keys occupied, List.pairwise_map]
    exact h.1.sublist List.filter_sublist
  · simp only [mem_holdsAt, State.holdsOf, List.mem_filter, Table.mem_iff_read h]
    constructor
    · rintro ⟨w, ⟨⟨rfl, -⟩, hi⟩, hv⟩
      rw [hv, Option.any_some, beq_iff_eq] at hi
      exact ⟨hv, hi⟩
    · rintro ⟨hv, hi⟩
      refine ⟨s.slot k, ⟨⟨rfl, fun hr => ?_⟩, ?_⟩, hv⟩
      · rw [hr] at hv
        cases hv
      · rw [hv, Option.any_some, beq_iff_eq]
        exact hi
  · rw [Field.list_eq, holdsAt_fields occupied fun e he => ((Table.mem_iff_read h).mp (List.mem_filter.mp he).1).1]

/-- The records that are UNMUSTERED at or above a start, in order. -/
theorem State.unmusteredFrom_spec (h : s.persons.wf none) (start : Nat) : (s.unmusteredFrom start).Pairwise (· < ·)
    ∧ ∀ i, i ∈ s.unmusteredFrom start ↔ start ≤ i ∧ ∃ p, s.person i = some p ∧ p.muster = .unmustered := by
  refine ⟨List.pairwise_map.mpr (h.1.sublist List.filter_sublist), fun i => ?_⟩
  simp only [State.unmusteredFrom, List.mem_map, List.mem_filter, Prod.exists, exists_and_right, exists_eq_right,
    Table.mem_iff_read h, Bool.and_eq_true, decide_eq_true_eq, beq_iff_eq]
  constructor
  · rintro ⟨v, ⟨hv, hne⟩, hi, hm⟩
    obtain ⟨p, rfl⟩ := Option.ne_none_iff_exists'.mp hne
    exact ⟨hi, p, hv, hm⟩
  · rintro ⟨hi, p, hp, hm⟩
    exact ⟨some p, ⟨hp, nofun⟩, hi, hm⟩

/-- The charge numbers of a journal that is not empty. -/
theorem oldestNewest_eq (l : List Entry) : oldestNewest l = if h : l = [] then none else
    some ((l.head h).charge, (l.getLast h).charge) := by
  cases l with
  | nil => rfl
  | cons e l => simp only [oldestNewest, List.head?_cons, List.getLast?_eq_some_getLast (List.cons_ne_nil e l),
      List.cons_ne_nil, dite_false, List.head_cons]

/-- Settles O14: each message reads its state, and each layout is the one written out. -/
theorem readingsAnswerTheState : Obligations.ReadingsAnswerTheState := by
  refine ⟨reads_of (fun _ _ => rfl) fun _ _ => rfl, reads_of (fun _ _ => rfl) fun _ _ => rfl,
    reads_of (fun _ _ => rfl) fun _ _ => rfl, reads_of (fun _ _ => rfl) fun _ _ => rfl,
    reads_of (fun _ _ => rfl) fun _ _ => rfl, reads_of (fun _ _ => rfl) fun _ _ => rfl,
    reads_of (fun _ _ => rfl) fun _ _ => rfl, reads_of (fun _ _ => rfl) fun _ _ => rfl,
    reads_of (fun _ _ => rfl) fun _ _ => rfl, reads_of (fun _ _ => rfl) fun _ _ => rfl,
    reads_of (fun _ _ => rfl) fun _ _ => rfl, reads_of (fun _ _ => rfl) fun _ _ => rfl,
    reads_of (fun _ _ => rfl) fun _ _ => rfl, ?_⟩
  intro flag given listed classes locations account muster setup permit counters settings
  have optional : ∀ {α : Type} (f : α → List Field) (o : Option α), Field.optional f o = given (o.map f) :=
    Field.optional_eq rfl fun _ => rfl
  have list : ∀ {α : Type} (f : α → List Field) (l : List α), Field.list f l = listed (l.map f) := Field.list_eq
  refine ⟨by decide, rfl, rfl, rfl, rfl, rfl, rfl, rfl, rfl, rfl, rfl, fun p => ?_, fun d => rfl, fun e => ?_, fun l now => ?_,
    fun c d now => ?_, fun o => rfl, fun t => ?_, fun s hs => ⟨rfl, ?_, fun i => ?_, fun start => ?_⟩⟩
  · have hm : p.muster.fields = muster p.muster := by cases p.muster <;> rfl
    have ha : Account.fields = account := funext fun a => by
      simp only [Account.fields, optional]
      rfl
    simp only [personFields, hm, ha, optional]
    rfl
  · simp only [stationFields, optional]
    rfl
  · have ho : l.occupancyAt now = match l.occupiedSince with
        | none => l.counts.occupancy
        | some since => min (l.counts.occupancy + (now - since)) 4294967295 := by
      unfold Lane.occupancyAt
      cases l.occupiedSince <;> rfl
    simp only [laneFields, optional, list, List.append_assoc, ho]
    cases l.occupiedSince <;> rfl
  · simp only [cabinFields, endField, optional]
    rfl
  · simp only [storeFields, optional, list]
    rfl
  · obtain ⟨hp, hm⟩ := State.opened_spec hs.slots
    refine ⟨_, hp, hm, ?_⟩
    simp only [State.journalFields, optional, oldestNewest_eq, State.openHolds, List.length_map]
    split <;> rfl
  · obtain ⟨hp, hm, hf⟩ := State.holdsOf_spec hs.slots i
    exact ⟨_, hp, hm, hf⟩
  · obtain ⟨hp, hm⟩ := State.unmusteredFrom_spec hs.persons start
    refine ⟨_, hp, hm, ?_⟩
    simp only [State.musterFields, list]
    rfl

/-! ### READ_LINK_COUNTERS, READ_MOVEMENTS, HOST_SLEEP and RESET -/

theorem Reaches.doReadLinkCounters (clear : Bool) (s : State) : Reaches [.host, .station] s (Machine.doReadLinkCounters clear s).1 :=
  .of_restore rfl

theorem Reaches.doReadMovements (n : Nat) (s : State) : Reaches [.movements] s (Machine.doReadMovements n s).1 := .of_restore rfl

theorem Reaches.doHostSleep (s : State) : Reaches [.host] s (Machine.doHostSleep () s).1 := .of_restore rfl

theorem Reaches.doReset (s : State) : Reaches [.host] s (Machine.doReset () s).1 := .of_restore rfl

/-- Settles O15: the link messages set what they name, and a part that takes no requests has no event in a request command. -/
theorem linkMessagesAndMovements : Obligations.LinkMessagesAndMovements := by
  refine ⟨fun s r clear h => ?_, fun s r count h => ?_, fun s r h => ?_, fun s r h => ?_, fun s f hs => ?_, fun m => ?_⟩
  · exact takeHost_done (c := .readLinkCounters r) (act := doReadLinkCounters) h rfl
      ⟨rfl, rfl, ((Reaches.doReadLinkCounters clear s.dropHostRequest).hostKeeps _).mono (by decide)⟩
  · obtain ⟨t, hx, ha, ⟨hl, hd⟩, hk⟩ := host_acts (c := .readMovements r) (act := doReadMovements)
      (P := fun t => t.movementLog = s.movementLog.drop count ∧ t.discardCount = 0) h rfl rfl (.doReadMovements count _)
      (by decide) ⟨rfl, rfl⟩
    exact ⟨t, hx, ha, hl, hd, hk⟩
  · exact takeHost_done (c := .hostSleep r) (act := doHostSleep) h rfl
      ⟨rfl, ((Reaches.doHostSleep s.dropHostRequest).hostKeeps _).mono (by decide)⟩
  · exact takeHost_done (c := .reset r) (act := doReset) h rfl
      ⟨rfl, ((Reaches.doReset s.dropHostRequest).hostKeeps _).mono (by decide)⟩
  · have idle : s.takes .host f = false := by
      change s.hostTakes f = false
      simp only [State.hostTakes, hs, Bool.not_true, Bool.and_false, Bool.false_and]
    exact ⟨idle, (answers_commandFor .host f).idle s idle⟩
  · cases hd : m.direction <;> cases ht : m.shipTime <;> simp [movementFields, hd, ht, directionCode, Field.optional, Field.flag]

end Sys2Proof.Machine
end

section
/-!
PROOFS. The byte layouts of the request bodies: each field reads back as it was written, whatever follows it, and so does each
body (R179, R180).
-/

namespace Sys2Proof

/-! ### Fields -/

/-- A reader takes from the front of any bytes a value that a writer put there. -/
abbrev Reads {α : Type} (take : List Byte → Option (α × List Byte)) (bytes : List Byte) (a : α) : Prop :=
  ∀ rest : List Byte, take (bytes ++ rest) = some (a, rest)

theorem Reads.nat {n v : Nat} (h : v < 256 ^ n) : Reads (takeNat n) (natBytes n v) v := by
  intro rest
  induction n generalizing v with
  | zero =>
    rw [Nat.pow_zero, Nat.lt_one_iff] at h
    rw [h]
    rfl
  | succ n ih =>
    have hd : v / 256 < 256 ^ n := Nat.div_lt_of_lt_mul (by rwa [Nat.pow_succ, Nat.mul_comm] at h)
    simp only [natBytes, List.cons_append, takeNat, ih hd, BitVec.toNat_ofNat, Nat.reducePow, Nat.mod_add_div]

@[simp] theorem Reads.byte {v : Nat} (h : v < 256) : Reads (takeNat 1) (natBytes 1 v) v := .nat h

@[simp] theorem Reads.word {v : Nat} (h : v < 65536) : Reads (takeNat 2) (natBytes 2 v) v := .nat h

@[simp] theorem Reads.long {v : Nat} (h : v < 4294967296) : Reads (takeNat 4) (natBytes 4 v) v := .nat h

@[simp] theorem Reads.int {z : Int} (h : -2147483648 ≤ z) (h' : z < 2147483648) : Reads takeInt (intBytes z) z := fun rest => by
  simp only [takeInt, intBytes, Reads.long (BitVec.isLt (BitVec.ofInt 32 z)) rest, Option.bind_eq_bind, Option.bind_some,
    BitVec.ofNat_toNat, BitVec.setWidth_eq, BitVec.toInt_ofInt, Option.some.injEq, Prod.mk.injEq, and_true]
  exact Int.bmod_eq_of_le (by omega) (by omega)

@[simp] theorem Reads.flag (b : Bool) : Reads takeFlag (flagBytes b) b := by cases b <;> exact fun _ => rfl

theorem Reads.enum {α : Type} {ofCode : Nat → Option α} {v : Nat} {a : α} (h : v < 256) (ha : ofCode v = some a) :
    Reads (takeEnum ofCode) (natBytes 1 v) a := fun rest => by
  simp only [takeEnum, Reads.byte h rest, Option.bind_eq_bind, Option.bind_some, ha]

@[simp] theorem Reads.cls (c : PersonClass) : Reads (takeEnum PersonClass.ofCode) (natBytes 1 c.code) c := by
  cases c <;> exact .enum (by decide) rfl

@[simp] theorem Reads.location (l : Location) : Reads (takeEnum Location.ofCode) (natBytes 1 l.code) l := by
  cases l <;> exact .enum (by decide) rfl

@[simp] theorem Reads.stationKind (k : StationKind) : Reads (takeEnum StationKind.ofCode) (natBytes 1 k.code) k := by
  cases k <;> exact .enum (by decide) rfl

@[simp] theorem Reads.laneMode (m : LaneMode) : Reads (takeEnum LaneMode.ofCode) (natBytes 1 m.code) m := by
  cases m <;> exact .enum (by decide) rfl

@[simp] theorem Reads.polarity (p : Polarity) : Reads (takeEnum Polarity.ofCode) (natBytes 1 p.code) p := by
  cases p <;> exact .enum (by decide) rfl

theorem Reads.optional {α : Type} {take : List Byte → Option (α × List Byte)} {f : α → List Byte} {o : Option α}
    (h : ∀ a, o = some a → Reads take (f a) a) : Reads (takeOptional take) (optionalBytes f o) o := fun rest => by
  cases o with
  | none => rfl
  | some a =>
    have present : takeFlag (optionalBytes f (some a) ++ rest) = some (true, f a ++ rest) := rfl
    simp only [takeOptional, present, Option.bind_eq_bind, Option.bind_some, if_true, h a rfl rest]

/-! ### Groups of fields -/

@[simp] theorem Reads.generation (g : BitVec 4) : Reads takeGeneration (natBytes 1 g.toNat) g := fun rest => by
  have hg := g.isLt
  simp only [takeGeneration, Reads.byte (show g.toNat < 256 by omega) rest, Option.bind_eq_bind, Option.bind_some, if_pos hg,
    BitVec.ofNat_toNat, BitVec.setWidth_eq]

@[simp] theorem Reads.card (c : Card) : Reads takeCard c.bytes c := fun rest => by
  simp only [takeCard, Card.bytes, List.append_assoc, Reads.long c.number.isLt _, Reads.generation c.generation _,
    Option.bind_eq_bind, Option.bind_some, BitVec.ofNat_toNat, BitVec.setWidth_eq]

theorem AccountTerms.valid_iff (a : AccountTerms) :
    a.valid = true ↔ a.creditLimit ≤ 10000000 ∧ ∀ d, a.dailyLimit = some d → d ≤ 10000000 := by
  simp only [AccountTerms.valid, Bool.and_eq_true, decide_eq_true_eq, Option.all_eq_true]
  rfl

@[simp] theorem Reads.terms {a : AccountTerms} (h : a.valid = true) : Reads takeTerms a.bytes a := fun rest => by
  obtain ⟨hc, hd⟩ := a.valid_iff.mp h
  have daily : Reads (takeOptional (takeNat 4)) (optionalBytes (natBytes 4) a.dailyLimit) a.dailyLimit :=
    .optional fun d ha => .long (by have := hd d ha; omega)
  simp only [takeTerms, AccountTerms.bytes, List.append_assoc, Reads.long (show a.creditLimit < 4294967296 by omega) _, daily _,
    Reads.flag _ _, Option.bind_eq_bind, Option.bind_some]

@[simp] theorem Reads.rights {r : Nat × Nat} (h : r.1 < 65536) (h' : r.2 < 65536) :
    Reads takeRights (natBytes 2 r.1 ++ natBytes 2 r.2) r := fun rest => by
  simp only [takeRights, List.append_assoc, Reads.word h _, Reads.word h' _, Option.bind_eq_bind, Option.bind_some]

theorem Line.valid_iff (l : Line) :
    l.valid = true ↔ l.price ≤ 99999 ∧ 1 ≤ l.quantity ∧ l.quantity ≤ 99 ∧ l.taxClass ≤ 3 := by
  simp only [Line.valid, Bool.and_eq_true, decide_eq_true_eq, and_assoc]

theorem purchaseValid_iff (lines : List Line) (tip : Nat) : purchaseValid lines tip = true ↔
    1 ≤ lines.length ∧ lines.length ≤ 8 ∧ (∀ l ∈ lines, l.valid = true) ∧ tip ≤ 99999 := by
  simp only [purchaseValid, Bool.and_eq_true, decide_eq_true_eq, List.all_eq_true, and_assoc]

@[simp] theorem Reads.line {l : Line} (h : l.valid = true) : Reads takeLine l.bytes l := fun rest => by
  obtain ⟨hp, -, hq, ht⟩ := l.valid_iff.mp h
  simp only [takeLine, Line.bytes, List.append_assoc, Reads.long (show l.price < 4294967296 by omega) _,
    Reads.byte (show l.quantity < 256 by omega) _, Reads.byte (show l.taxClass < 256 by omega) _, Reads.flag _ _,
    Option.bind_eq_bind, Option.bind_some]

theorem Reads.lines {ls : List Line} (h : ∀ l ∈ ls, l.valid = true) : Reads (takeLines ls.length) (ls.flatMap Line.bytes) ls := by
  intro rest
  induction ls with
  | nil => rfl
  | cons l ls ih =>
    simp only [List.flatMap_cons, List.append_assoc, List.length_cons, takeLines, Reads.line (h l List.mem_cons_self) _,
      ih fun x hx => h x (List.mem_cons_of_mem _ hx), Option.bind_eq_bind, Option.bind_some]

@[simp] theorem Reads.lineList {ls : List Line} {tip : Nat} (h : purchaseValid ls tip = true) : Reads takeLineList (linesBytes ls) ls := by
  obtain ⟨-, hn, hl, -⟩ := (purchaseValid_iff ls tip).mp h
  intro rest
  simp only [takeLineList, linesBytes, List.append_assoc, Reads.byte (show ls.length < 256 by omega) _, Reads.lines hl rest,
    Option.bind_eq_bind, Option.bind_some]

theorem DoorEvent.ofCodes_codes (e : DoorEvent) : DoorEvent.ofCodes e.codes.1 e.codes.2 = some e := by
  rcases e with (_ | _ | _) | _ | _ | _ | _ <;> rfl

theorem DoorEvent.codes_lt (e : DoorEvent) : e.codes.1 < 256 ∧ e.codes.2 < 256 := by
  rcases e with (_ | _ | _) | _ | _ | _ | _ <;> decide

/-! ### Bodies -/

@[simp] theorem whole_nil {α : Type} (valid : α → Bool) (a : α) : whole valid a [] = if valid a then some a else none := by
  simp only [whole, List.isEmpty_nil, Bool.true_and]

/-- A decoder of a body is a reader of its fields, one after another: an empty tail makes every field one of those that others
follow. -/
theorem decoded {α : Type} {decode : List Byte → Option α} {bytes : List Byte} {a : α} (h : decode (bytes ++ []) = some a) :
    decode bytes = some a := by rwa [List.append_nil] at h

theorem Reads.next {α β : Type} {take : List Byte → Option (α × List Byte)} {bytes rest : List Byte} {a : α}
    {f : α × List Byte → Option β} (h : Reads take bytes a) : (take (bytes ++ rest) >>= f) = f (a, rest) := by
  rw [h rest]
  rfl

theorem decodeNumber_natBytes {n bound v : Nat} (h : v < bound) (hb : bound ≤ 256 ^ n) :
    decodeNumber n bound (natBytes n v) = some v := decoded <| by
  simp only [decodeNumber, Reads.nat (Nat.lt_of_lt_of_le h hb) [], Option.bind_eq_bind, Option.bind_some, whole_nil,
    decide_eq_true h, if_true]

theorem balanceInRange_iff (z : Int) : balanceInRange z = true ↔ -99999999 ≤ z ∧ z ≤ 99999999 := by
  simp only [balanceInRange, Bool.and_eq_true, decide_eq_true_eq]
  rfl

theorem Station.valid_binding {e : Station} (h : e.valid = true) {b : Nat} (hb : e.binding = some b) : b < 32 := by
  simp only [Station.valid, hb] at h
  split at h <;> simp_all
  omega

/-! ### The bodies of the host link (section 11.5) -/

theorem decodeSetLocation_encode {i : Nat} (h : i < 8192) (l : Location) :
    decodeSetLocation (encodeSetLocation i l) = some (i, l) := decoded <| by
  simp (disch := omega) [decodeSetLocation, encodeSetLocation, -List.append_nil, h]

theorem decodeAdjustBalance_encode {i : Nat} (h : i < 8192) {z : Int} (hz : balanceInRange z = true) :
    decodeAdjustBalance (encodeAdjustBalance i z) = some (i, z) := decoded <| by
  have range := (balanceInRange_iff z).mp hz
  simp (disch := omega) [decodeAdjustBalance, encodeAdjustBalance, -List.append_nil, h, hz]

theorem decodeUpdateAccount_encode {i : Nat} (h : i < 8192) {a : AccountTerms} (ha : a.valid = true) :
    decodeUpdateAccount (encodeUpdateAccount i a) = some (i, a) := decoded <| by
  simp (disch := omega) [decodeUpdateAccount, encodeUpdateAccount, Reads.terms ha, -List.append_nil, h, ha]

theorem decodeSetDecoder_encode {k : Nat} (h : k < 8) (d : Decoder) :
    decodeSetDecoder (encodeSetDecoder k d) = some (k, d) := decoded <| by
  simp (disch := omega) [decodeSetDecoder, encodeSetDecoder, -List.append_nil, h]

theorem decodeConfigureStation_encode {a : Nat} (h : a < 128) {e : Station} (he : e.valid = true) :
    decodeConfigureStation (encodeConfigureStation a e) = some (a, e) := decoded <| by
  have binding : Reads (takeOptional (takeNat 1)) (optionalBytes (natBytes 1) e.binding) e.binding :=
    .optional fun b hb => .byte (by have := Station.valid_binding he hb; omega)
  simp (disch := omega) [decodeConfigureStation, encodeConfigureStation, binding, -List.append_nil, h, he]

theorem decodeConfigureLane_encode {l : Nat} (h : l < 4) {u : LaneSetup} (hf : u.filterTime < 256) (hp : u.permitWindow < 256)
    (hb : u.blockTime < 65536) :
    decodeConfigureLane (encodeConfigureLane l u) = some (l, u) := decoded <| by
  simp (disch := omega) [decodeConfigureLane, encodeConfigureLane, -List.append_nil, h]

theorem decodeSetLaneMode_encode {l : Nat} (h : l < 4) (m : LaneMode) :
    decodeSetLaneMode (encodeSetLaneMode l m) = some (l, m) := decoded <| by
  simp (disch := omega) [decodeSetLaneMode, encodeSetLaneMode, -List.append_nil, h]

theorem decodeSetAllAboard_encode {o : Option Nat} (h : ∀ t, o = some t → t < 4294967296) :
    decodeSetAllAboard (encodeSetAllAboard o) = some o := decoded <| by
  have time : Reads (takeOptional (takeNat 4)) (optionalBytes (natBytes 4) o) o := .optional fun t ht => .long (h t ht)
  simp (disch := omega) [decodeSetAllAboard, encodeSetAllAboard, time, -List.append_nil]

theorem decodeConfigureCabin_encode {c : Nat} (h : c < 4096) (v : Bool) :
    decodeConfigureCabin (encodeConfigureCabin c v) = some (c, v) := decoded <| by
  simp (disch := omega) [decodeConfigureCabin, encodeConfigureCabin, -List.append_nil, h]

theorem decodeDoorSettings_encode {d : DoorSettings} (hs : d.strikeTime < 256) (ha : d.ajarTime < 65536) (ht : d.lockoutThreshold < 256)
    (hl : d.lockoutTime < 65536) :
    decodeDoorSettings d.encode = some d := decoded <| by
  simp (disch := omega) [decodeDoorSettings, DoorSettings.encode, -List.append_nil]

theorem decodeConfigureOutlet_encode {k : Nat} (h : k < 32) {o : Outlet} (hs : o.serviceRate < 256) (h0 : o.taxRate0 < 65536)
    (h1 : o.taxRate1 < 65536) (h2 : o.taxRate2 < 65536) (h3 : o.taxRate3 < 65536) (hl : o.holdLife < 4294967296)
    (hv : o.voidWindow < 65536) :
    decodeConfigureOutlet (encodeConfigureOutlet k o) = some (k, o) := decoded <| by
  simp only [decodeConfigureOutlet, encodeConfigureOutlet, Outlet.bytes, List.append_assoc]
  rw [Reads.next (.byte (by omega)), Reads.next (.flag _), Reads.next (.byte hs), Reads.next (.word h0),
    Reads.next (.word h1), Reads.next (.word h2), Reads.next (.word h3), Reads.next (.flag _), Reads.next (.flag _),
    Reads.next (.long hl), Reads.next (.word hv), whole_nil, if_pos (decide_eq_true h)]

theorem decodeReleaseHold_encode {k : Nat} (h : k < 512) (g : BitVec 8) :
    decodeReleaseHold (encodeReleaseHold k g) = some (k, g) := decoded <| by
  simp (disch := omega) [decodeReleaseHold, encodeReleaseHold, Reads.byte g.isLt, -List.append_nil, h]

theorem decodeMusterPerson_encode {i p : Nat} (hi : i < 8192) (hp : p < 32) :
    decodeMusterPerson (encodeMusterPerson i p) = some (i, p) := decoded <| by
  simp (disch := omega) [decodeMusterPerson, encodeMusterPerson, -List.append_nil, hi, hp]

theorem decodeReadMovements_encode {n : Nat} (h : 1 ≤ n) (h' : n ≤ 16) :
    decodeReadMovements (encodeReadMovements n) = some n := decoded <| by
  simp (disch := omega) [decodeReadMovements, encodeReadMovements, -List.append_nil, h, h']

theorem decodeGrantPosting_encode {n : Nat} (h : 1 ≤ n) (h' : n ≤ 1024) :
    decodeGrantPosting (encodeGrantPosting n) = some n := decoded <| by
  simp (disch := omega) [decodeGrantPosting, encodeGrantPosting, -List.append_nil, h, h']

theorem membersOfGroup_le (g : Nat) : membersOfGroup g ≤ 9 := by
  unfold membersOfGroup
  split <;> omega

theorem decodeSetMemberEnable_encode {g m : Nat} (hg : g ≤ 9) (hm : m < membersOfGroup g) (e : Bool) :
    decodeSetMemberEnable (encodeSetMemberEnable g m e) = some (g, m, e) := decoded <| by
  have := membersOfGroup_le g
  simp (disch := omega) [decodeSetMemberEnable, encodeSetMemberEnable, -List.append_nil, hg, hm]

theorem decodeClearFlag_encode (b : Bool) :
    decodeClearFlag (encodeClearFlag b) = some b := decoded <| by
  simp (disch := omega) [decodeClearFlag, encodeClearFlag, -List.append_nil]

theorem decodeSetGroupLevel_encode {g v : Nat} (hg : g ≤ 9) (hv : v ≤ 7) :
    decodeSetGroupLevel (encodePair g v) = some (g, v) := decoded <| by
  simp (disch := omega) [decodeSetGroupLevel, encodePair, -List.append_nil, hg, hv]

theorem decodeAckNotice_encode {g m : Nat} (hg : g ≤ 9) (hm : m < membersOfGroup g) :
    decodeAckNotice (encodePair g m) = some (g, m) := decoded <| by
  have := membersOfGroup_le g
  simp (disch := omega) [decodeAckNotice, encodePair, -List.append_nil, hg, hm]

theorem decodeLoadPerson_encode {q : LoadPerson} (h : q.valid = true) : decodeLoadPerson q.encode = some q := decoded <| by
  have fields := h
  simp only [LoadPerson.valid, Bool.and_eq_true, decide_eq_true_eq, Option.all_eq_true] at fields
  obtain ⟨⟨⟨⟨⟨⟨⟨⟨hi, hc⟩, hr⟩, ha⟩, hb⟩, -⟩, -⟩, -⟩, -⟩ := fields
  have location : Reads (takeOptional (takeEnum Location.ofCode)) (optionalBytes (fun l => natBytes 1 (Location.code l)) q.location)
      q.location := .optional fun l _ => .location l
  have cabin : Reads (takeOptional (takeNat 2)) (optionalBytes (natBytes 2) q.cabin) q.cabin :=
    .optional fun c hq => .word (by have := hc c hq; omega)
  have rights : Reads (takeOptional takeRights) (optionalBytes (fun r => natBytes 2 r.1 ++ natBytes 2 r.2) q.rights) q.rights :=
    .optional fun r hq => by
      obtain ⟨hle, hlt⟩ := hr r hq
      exact .rights (by omega) (by omega)
  have account : Reads (takeOptional takeTerms) (optionalBytes AccountTerms.bytes q.account) q.account :=
    .optional fun a hq => .terms (ha a hq)
  have posted : Reads (takeOptional takeInt) (optionalBytes intBytes q.posted) q.posted := .optional fun z hq => by
    have range := (balanceInRange_iff z).mp (hb z hq)
    exact .int (by omega) (by omega)
  simp only [decodeLoadPerson, LoadPerson.encode, List.append_assoc]
  rw [Reads.next (.word (by omega)), Reads.next (.cls _), Reads.next (.generation _), Reads.next location, Reads.next cabin,
    Reads.next rights, Reads.next (.flag _), Reads.next account, Reads.next posted, whole_nil, if_pos h]

/-- Settles O7: a body's decoder reads the fields one after another, each as it was written, and the ranges hold. -/
theorem hostBodiesDecodeAsEncoded : Obligations.HostBodiesDecodeAsEncoded :=
  ⟨fun _ h => decodeLoadPerson_encode h, fun _ h => decodeNumber_natBytes h (by decide),
    fun _ h l => decodeSetLocation_encode h l, fun _ h _ hz => decodeAdjustBalance_encode h hz,
    fun _ h _ ha => decodeUpdateAccount_encode h ha, fun _ h d => decodeSetDecoder_encode h d,
    fun _ h _ he => decodeConfigureStation_encode h he, fun _ h => decodeNumber_natBytes h (by decide),
    fun _ h _ hf hp hb => decodeConfigureLane_encode h hf hp hb, fun _ h m => decodeSetLaneMode_encode h m,
    fun _ h => decodeNumber_natBytes h (by decide), decodeSetAllAboard_encode nofun,
    fun t h => decodeSetAllAboard_encode fun u hu => by
      rw [Option.some.injEq] at hu
      omega,
    fun _ h v => decodeConfigureCabin_encode h v, fun _ h => decodeNumber_natBytes h (by decide),
    fun _ hs ha ht hl => decodeDoorSettings_encode hs ha ht hl,
    fun _ h _ hs h0 h1 h2 h3 hl hv => decodeConfigureOutlet_encode h hs h0 h1 h2 h3 hl hv,
    fun _ h g => decodeReleaseHold_encode h g, fun _ hi _ hp => decodeMusterPerson_encode hi hp,
    fun _ h => decodeNumber_natBytes h (by decide), fun _ h => decodeNumber_natBytes h (by decide),
    fun _ h => decodeNumber_natBytes h (by decide), fun _ h h' => decodeReadMovements_encode h h',
    fun _ h h' => decodeGrantPosting_encode h h', fun _ h => decodeNumber_natBytes h (by decide),
    fun _ hg _ hm e => decodeSetMemberEnable_encode hg hm e, fun _ h => decodeNumber_natBytes (Nat.lt_succ_of_le h) (by decide),
    decodeClearFlag_encode, rfl, fun _ hg _ hv => decodeSetGroupLevel_encode hg hv,
    fun _ hg _ hm => decodeAckNotice_encode hg hm⟩

/-! ### The bodies of the station link (section 11.3) -/

theorem decodeDoorTap_encode {q : DoorTap} (h : q.cabin < 4096) :
    decodeDoorTap q.encode = some q := decoded <| by
  simp (disch := omega) [decodeDoorTap, DoorTap.encode, -List.append_nil, h]

theorem decodeDoorReport_encode {q : DoorReport} (h : q.cabin < 4096) :
    decodeDoorReport q.encode = some q := decoded <| by
  obtain ⟨he, hc⟩ := q.event.codes_lt
  simp (disch := omega) [decodeDoorReport, DoorReport.encode, q.event.ofCodes_codes, -List.append_nil, h]

theorem decodeStationTap_encode {q : StationTap} (h : q.station < 128) :
    decodeStationTap q.encode = some q := decoded <| by
  simp (disch := omega) [decodeStationTap, StationTap.encode, -List.append_nil, h]

theorem decodeSale_encode {q : Sale} (h : q.station < 128) (hp : purchaseValid q.lines q.tip = true) :
    decodeSale q.encode = some q := decoded <| by
  obtain ⟨-, -, -, ht⟩ := (purchaseValid_iff _ _).mp hp
  simp (disch := omega) [decodeSale, Sale.encode, Reads.lineList hp, -List.append_nil, h, hp]

theorem decodeOpenTab_encode {q : OpenTab} (h : q.station < 128) (hl : 100 ≤ q.amount) (hu : q.amount ≤ 1000000) :
    decodeOpenTab q.encode = some q := decoded <| by
  simp (disch := omega) [decodeOpenTab, OpenTab.encode, -List.append_nil, h, hl, hu]

theorem decodeCloseTab_encode {q : CloseTab} (h : q.station < 128) (hs : q.slot < 512) (hp : purchaseValid q.lines q.tip = true) :
    decodeCloseTab q.encode = some q := decoded <| by
  obtain ⟨-, -, -, ht⟩ := (purchaseValid_iff _ _).mp hp
  simp (disch := omega) [decodeCloseTab, CloseTab.encode, Reads.lineList hp, Reads.byte q.tag.isLt, -List.append_nil, h, hs, hp]

theorem decodeVoid_encode {q : VoidCharge} (h : q.station < 128) (hc : q.charge < 4294967296) :
    decodeVoid q.encode = some q := decoded <| by
  simp (disch := omega) [decodeVoid, VoidCharge.encode, -List.append_nil, h]

/-- Settles O8: likewise. -/
theorem stationBodiesDecodeAsEncoded : Obligations.StationBodiesDecodeAsEncoded :=
  ⟨fun _ h => decodeDoorTap_encode h, fun _ h => decodeDoorReport_encode h, fun _ h => decodeStationTap_encode h,
    fun _ h hp => decodeSale_encode h hp, fun _ h hl hu => decodeOpenTab_encode h hl hu,
    fun _ h hs hp => decodeCloseTab_encode h hs hp, fun _ h hc => decodeVoid_encode h hc⟩

end Sys2Proof
end

section
/-!
PROOFS. The receivers: what the bytes of a frame leave a receiver with, byte by byte and as a whole, and what a frame's arrival
and a dropped frame do to a link (R169, R170, R172).
-/

namespace Sys2Proof.Machine

variable {link : Link} {s t u : State} {bs : List Byte}

/-! ### The port of a link -/

theorem State.putPort_port (link : Link) (p : Port) (s : State) : (s.putPort link p).port link = p := by cases link <;> rfl

theorem State.putPort_own (link : Link) (s : State) : s.putPort link (s.port link) = s := by cases link <;> rfl

theorem State.putPort_putPort (link : Link) (p p' : Port) (s : State) : (s.putPort link p).putPort link p' = s.putPort link p' := by
  cases link <;> rfl

theorem State.setReceiver_receiver (link : Link) (r : Receiver) (s : State) : ((s.setReceiver link r).port link).receiver = r := by
  rw [State.setReceiver, State.putPort_port]

theorem State.setReceiver_mono (link : Link) (r : Receiver) (s : State) : (s.setReceiver link r).clock.mono = s.clock.mono := by
  cases link <;> rfl

theorem State.setReceiver_setReceiver (link : Link) (r r' : Receiver) (s : State) :
    (s.setReceiver link r).setReceiver link r' = s.setReceiver link r' := by
  rw [State.setReceiver, State.setReceiver, State.putPort_putPort, State.putPort_port]
  rfl

theorem State.setReceiver_own {r : Receiver} (h : (s.port link).receiver = r) : s.setReceiver link r = s := by
  rw [State.setReceiver, ← h]
  exact State.putPort_own link s

theorem Reaches.putPort (link : Link) (p : Port) (s : State) : Reaches [Part.ofLink link] s (s.putPort link p) := by
  cases link <;> exact .of_restore rfl

theorem Reaches.setReceiver (link : Link) (r : Receiver) (s : State) : Reaches [Part.ofLink link] s (s.setReceiver link r) :=
  Reaches.putPort link _ s

theorem Reaches.linkError (link : Link) (s : State) : Reaches [Part.ofLink link, .notices, .wake] s (s.linkError link) :=
  (Reaches.putPort link _ s).trans (Reaches.raise _ _ _)

/-- A host link that is another besides its port and its wake output. -/
theorem HostLink.eq_of_besides {a b : HostLink} {p : Port} {w : Bool} (h : { a with port := p, wake := w } = b) :
    a = { b with port := a.port, wake := a.wake } := by rw [← h]

theorem StationLink.eq_of_besides {a b : StationLink} {p : Port} (h : { a with port := p } = b) : a = { b with port := a.port } := by
  rw [← h]

/-! ### A dropped frame -/

/-- A dropped frame, in the state that the event of the drop leaves. -/
theorem State.linkError_turned (link : Link) (s : State) :
    (s.linkError link).writerTurn.port link = { s.port link with errors := min ((s.port link).errors + 1) 65535 }
      ∧ PortOnly link s (s.linkError link).writerTurn
      ∧ Raised s (s.linkError link).writerTurn MemberId.linkError (linkDetail link)
      ∧ Keeps [Part.ofLink link, .wake, .notices] s (s.linkError link).writerTurn := by
  refine ⟨by cases link <;> rfl, by cases link <;> rfl, by cases link <;> exact ⟨rfl, rfl⟩, ?_⟩
  exact (Reaches.linkError link s).turned.mono (by cases link <;> decide)

/-! ### One byte -/

/-- The bytes of a frame so far neither complete it nor give it too great a length. -/
def Unfinished (bs : List Byte) : Prop := bs.length < 2 ∨ (lengthOf bs ≤ 1024 ∧ bs.length ≠ lengthOf bs + 6)

theorem takeInFrame_unfinished (h : Unfinished bs) : s.takeInFrame link bs = s.setReceiver link (.inFrame bs s.clock.mono) := by
  unfold State.takeInFrame
  rcases h with h | ⟨hl, hn⟩
  · rw [if_pos h]
  · rw [if_neg (Nat.not_lt.mpr hl), if_neg hn, ite_self]

/-- A byte while HUNTING. -/
theorem takeByte_hunting (h : (s.port link).receiver = .hunting) (b : Byte) :
    s.takeByte link b = if b = 0xA5 then s.setReceiver link (.inFrame [] s.clock.mono) else s := by
  have fresh : s.dropStale link = s := by simp only [State.dropStale, h]
  simp only [State.takeByte, fresh, h]

/-- A byte inside a frame whose last byte is recent. -/
theorem takeByte_inFrame {last : Nat} (h : (s.port link).receiver = .inFrame bs last) (hl : s.clock.mono ≤ last + 50) (b : Byte) :
    s.takeByte link b = s.takeInFrame link (bs ++ [b]) := by
  have fresh : s.dropStale link = s := by simp only [State.dropStale, h, if_neg (Nat.not_lt.mpr hl)]
  simp only [State.takeByte, fresh, h]

/-! ### The bytes of a frame -/

/-- Bytes that leave a frame unfinished at every moment. -/
theorem takeBytes_unfinished {more : List Byte} (h : (s.port link).receiver = .inFrame bs s.clock.mono)
    (hu : ∀ first rest, more = first ++ rest → first ≠ [] → Unfinished (bs ++ first)) :
    more.foldl (State.takeByte link) s = s.setReceiver link (.inFrame (bs ++ more) s.clock.mono) := by
  induction more generalizing s bs with
  | nil => rw [List.foldl_nil, List.append_nil, State.setReceiver_own h]
  | cons b more ih =>
    have byte : s.takeByte link b = s.setReceiver link (.inFrame (bs ++ [b]) s.clock.mono) := by
      rw [takeByte_inFrame h (Nat.le_add_right _ 50) b, takeInFrame_unfinished (hu [b] more rfl (List.cons_ne_nil b []))]
    rw [List.foldl_cons, byte, ih (bs := bs ++ [b]), State.setReceiver_setReceiver, State.setReceiver_mono, List.append_assoc]
    · rfl
    · rw [State.setReceiver_receiver, State.setReceiver_mono]
    · intro first rest he hne
      rw [List.append_assoc]
      exact hu (b :: first) rest (by rw [he]; rfl) (List.cons_ne_nil b first)

/-- A start byte, bytes that leave the frame unfinished, and one more. -/
theorem takeBytes_started (h : (s.port link).receiver = .hunting)
    (hu : ∀ first rest, bs = first ++ rest → first ≠ [] → Unfinished first) (b : Byte) :
    ((0xA5#8 :: bs) ++ [b]).foldl (State.takeByte link) s
      = (s.setReceiver link (.inFrame bs s.clock.mono)).takeInFrame link (bs ++ [b]) := by
  have start : s.takeByte link 0xA5#8 = s.setReceiver link (.inFrame [] s.clock.mono) := (takeByte_hunting h _).trans (if_pos rfl)
  have begun : (0xA5#8 :: bs).foldl (State.takeByte link) s = s.setReceiver link (.inFrame bs s.clock.mono) := by
    rw [List.foldl_cons, start, takeBytes_unfinished (bs := []) (by rw [State.setReceiver_receiver, State.setReceiver_mono]) hu,
      State.setReceiver_setReceiver, State.setReceiver_mono, List.nil_append]
  rw [List.foldl_append, begun]
  refine takeByte_inFrame (State.setReceiver_receiver _ _ _) ?_ b
  rw [State.setReceiver_mono]
  omega

/-- The length that a frame's first bytes give. -/
theorem lengthOf_natBytes {n : Nat} (h : n < 65536) (rest : List Byte) : lengthOf (natBytes 2 n ++ rest) = n := by
  rw [lengthOf, Reads.word h rest]
  rfl

/-- The first bytes of a frame, fewer than the whole, leave it unfinished. -/
theorem unfinished_prefix {n : Nat} {first rest after : List Byte} (h : n ≤ 1024) (ha : after.length = n + 4)
    (he : natBytes 2 n ++ after = first ++ rest) (hr : rest ≠ []) : Unfinished first := by
  have hlen := congrArg List.length he
  have hpos := List.length_pos_iff.mpr hr
  simp only [List.length_append, natBytes, List.length_cons, List.length_nil] at hlen
  rcases Nat.lt_or_ge first.length 2 with hs | hs
  · exact .inl hs
  · obtain ⟨m, rfl⟩ : natBytes 2 n <+: first :=
      List.prefix_of_prefix_length_le ⟨after, he⟩ ⟨rest, rfl⟩ hs
    rw [Unfinished, lengthOf_natBytes (by omega)]
    exact .inr ⟨h, by omega⟩

variable {kind tag : Byte} {body : List Byte} {check : Nat}

/-- A complete frame arrives when its check agrees, and is dropped otherwise. -/
theorem judgeFrame_check (hc : check < 65536) (s : State) : s.judgeFrame link (frameCore kind tag body ++ natBytes 2 check)
    = if check = (frameCheck (frameCore kind tag body)).toNat then s.arrive link ⟨kind, tag, body⟩ else s.linkError link := by
  have hn : (frameCore kind tag body ++ natBytes 2 check).length - 2 = (frameCore kind tag body).length := by
    simp only [List.length_append, natBytes, List.length_cons, List.length_nil]
    omega
  have agrees : natBytes 2 check = natBytes 2 (frameCheck (frameCore kind tag body)).toNat
      ↔ check = (frameCheck (frameCore kind tag body)).toNat := by
    refine ⟨fun h => ?_, congrArg _⟩
    have read := lengthOf_natBytes hc []
    rw [h, lengthOf_natBytes (BitVec.isLt _) []] at read
    exact read.symm
  unfold State.judgeFrame
  rw [hn, List.take_left, List.drop_left]
  simp only [agrees]
  rfl

/-- The bytes of a frame whose length is in range, all of them taken at one moment. -/
theorem takeBytes_frame (hb : body.length ≤ 1024) (hc : check < 65536) (h : (s.port link).receiver = .hunting) :
    (0xA5#8 :: (frameCore kind tag body ++ natBytes 2 check)).foldl (State.takeByte link) s
      = if check = (frameCheck (frameCore kind tag body)).toNat then s.arrive link ⟨kind, tag, body⟩ else s.linkError link := by
  have whole : frameCore kind tag body ++ natBytes 2 check = natBytes 2 body.length ++ ([kind, tag] ++ body ++ natBytes 2 check) := by
    simp only [frameCore, List.append_assoc]
  have after : ([kind, tag] ++ body ++ natBytes 2 check).length = body.length + 4 := by
    simp only [List.length_append, natBytes, List.length_cons, List.length_nil]
    omega
  obtain ⟨bs, b, he⟩ : ∃ bs b, frameCore kind tag body ++ natBytes 2 check = bs ++ [b] :=
    ⟨_, _, (List.append_assoc (frameCore kind tag body) [BitVec.ofNat 8 check] [BitVec.ofNat 8 (check / 256)]).symm⟩
  have begun : ∀ first rest, bs = first ++ rest → first ≠ [] → Unfinished first := fun first rest hf _ =>
    unfinished_prefix (rest := rest ++ [b]) hb after (by rw [← whole, he, hf, List.append_assoc]) (by simp)
  have complete : (frameCore kind tag body ++ natBytes 2 check).length = body.length + 6 := by
    rw [whole, List.length_append, after]
    exact Nat.add_comm 2 _
  rw [he, ← List.cons_append, takeBytes_started h begun, ← he]
  unfold State.takeInFrame
  rw [complete, whole, lengthOf_natBytes (by omega), if_neg (by omega), if_neg (by omega), if_pos rfl, ← whole,
    State.setReceiver_setReceiver, State.setReceiver_own h, judgeFrame_check hc]

/-- Bytes that a receiver discards while it hunts. -/
theorem takeBytes_hunting (h : (s.port link).receiver = .hunting) (hs : 0xA5#8 ∉ bs) : bs.foldl (State.takeByte link) s = s := by
  induction bs with
  | nil => rfl
  | cons b bs ih =>
    rw [List.mem_cons, not_or] at hs
    rw [List.foldl_cons, takeByte_hunting h, if_neg (Ne.symm hs.1 : ¬ b = 0xA5), ih hs.2]

/-- A frame whose length field gives too much is dropped there, and what follows is hunted through. -/
theorem takeBytes_tooLong {n : Nat} (hn : 1024 < n) (hl : n < 65536) (h : (s.port link).receiver = .hunting) (hs : 0xA5#8 ∉ bs) :
    (0xA5#8 :: (natBytes 2 n ++ bs)).foldl (State.takeByte link) s = s.linkError link := by
  have dropped : (0xA5#8 :: natBytes 2 n).foldl (State.takeByte link) s = s.linkError link := by
    have begun : ∀ first rest, [BitVec.ofNat 8 n] = first ++ rest → first ≠ [] → Unfinished first := fun first rest hf _ => by
      have := congrArg List.length hf
      rw [List.length_append] at this
      exact .inl (by rw [List.length_singleton] at this; omega)
    have two : natBytes 2 n = [BitVec.ofNat 8 n] ++ [BitVec.ofNat 8 (n / 256)] := rfl
    have length : lengthOf (natBytes 2 n) = n := by
      rw [← List.append_nil (natBytes 2 n)]
      exact lengthOf_natBytes hl []
    rw [two, ← List.cons_append, takeBytes_started h begun, ← two]
    have short : ¬ (natBytes 2 n).length < 2 := Nat.lt_irrefl 2
    unfold State.takeInFrame
    rw [length, if_neg short, if_pos hn, State.setReceiver_setReceiver, State.setReceiver_own h]
  have hunting : ((s.linkError link).port link).receiver = .hunting := by
    rw [← h]
    cases link <;> rfl
  rw [← List.cons_append, List.foldl_append, dropped, takeBytes_hunting hunting hs]

/-! ### The obligations -/

theorem exec_frameReceived (hb : bs ≠ []) (s : State) : exec (.frameReceived link bs) s = event (bs.foldl (State.takeByte link) s) :=
  if_neg hb

/-- A frame's arrival, by the room it finds. -/
theorem arrive_room (hs : s.isStarting = false) (hr : (s.port link).requests.length < requestCapacity link) (f : Frame) :
    s.arrive link f = (s.wakeOn link).enqueue link f := by
  simp only [State.arrive, hs, decide_eq_true hr, Bool.not_false, Bool.and_self, if_true]

theorem arrive_noRoom (h : s.isStarting = true ∨ requestCapacity link ≤ (s.port link).requests.length) (f : Frame) :
    s.arrive link f = if s.replyRoom link then (s.wakeOn link).replyBusy link f else (s.wakeOn link).linkError link := by
  have full : (!s.isStarting && decide ((s.port link).requests.length < requestCapacity link)) = false := by
    rcases h with h | h
    · rw [h]
      rfl
    · rw [decide_eq_false (Nat.not_lt.mpr h), Bool.and_false]
  simp only [State.arrive, full, Bool.false_eq_true, if_false]

theorem Reaches.wakeOn (link : Link) (s : State) : Reaches (if link = .host then [.host, .wake] else [.station]) s (s.wakeOn link) := by
  cases link <;> exact .of_restore rfl

/-- Settles O9: the bytes of a frame leave its arrival, and there is room. -/
theorem framesAreReceivedAsSent : Obligations.FramesAreReceivedAsSent := by
  intro link kind tag body s hb hs hh hr
  have arrived := takeBytes_frame (kind := kind) (tag := tag) hb (BitVec.isLt (frameCheck (frameCore kind tag body))) hh
  rw [if_pos rfl, arrive_room hs hr] at arrived
  refine ⟨_, (exec_frameReceived (List.cons_ne_nil _ _) s).trans (congrArg event arrived), ?_⟩
  have enqueued : Reaches (if link = .host then [.host, .wake] else [.station]) (s.wakeOn link)
      ((s.wakeOn link).enqueue link ⟨kind, tag, body⟩) :=
    (Reaches.putPort link _ _).mono (by cases link <;> decide)
  refine ⟨by cases link <;> rfl, ?_, ?_, ((Reaches.wakeOn link s).then enqueued).turned⟩
  · rintro rfl
    rfl
  · rintro rfl
    rfl

/-- The arrival of a frame that finds no room. -/
theorem arrivesWithoutRoom (kind tag : Byte) {body : List Byte} (hb : body.length ≤ 1024) (hh : (s.port link).receiver = .hunting)
    (hf : s.isStarting = true ∨ requestCapacity link ≤ (s.port link).requests.length) :
    exec (.frameReceived link (frameBytes kind tag body)) s = event (if s.replyRoom link
      then (s.wakeOn link).replyBusy link ⟨kind, tag, body⟩ else (s.wakeOn link).linkError link) := by
  have arrived := takeBytes_frame (kind := kind) (tag := tag) hb (BitVec.isLt (frameCheck (frameCore kind tag body))) hh
  rw [if_pos rfl, arrive_noRoom hf] at arrived
  exact (exec_frameReceived (List.cons_ne_nil _ _) s).trans (congrArg event arrived)

/-- Settles O10: the bytes leave an arrival without room, or a dropped frame. -/
theorem framesWithoutRoomOrCheck : Obligations.FramesWithoutRoomOrCheck := by
  refine ⟨fun link kind tag body s hb hh hf => ?_, fun link kind tag body check s hb hc hne hh => ?_,
    fun link length rest s hn hl hh hs => ?_⟩
  · refine ⟨_, arrivesWithoutRoom kind tag hb hh hf, ?_⟩
    have awake : Reaches [.host, .station, .wake, .notices] s (s.wakeOn link) :=
      (Reaches.wakeOn link s).mono (by cases link <;> decide)
    by_cases hr : s.replyRoom link = true
    · rw [if_pos hr]
      refine ⟨fun _ => ⟨by cases link <;> rfl, ?_, ?_⟩, fun h => absurd (hr.symm.trans h) (by decide),
        (awake.then ?_).turned⟩
      · rintro rfl
        exact ⟨rfl, rfl⟩
      · rintro rfl
        exact ⟨rfl, rfl⟩
      · cases link
        · exact (Reaches.hostReply _ _).mono (by decide)
        · exact (Reaches.stationReply _ _).mono (by decide)
    · rw [if_neg hr]
      refine ⟨fun h => absurd h hr, fun _ => ⟨by cases link <;> rfl, by cases link <;> rfl, ?_, ?_⟩,
        (awake.then ((Reaches.linkError link _).mono (by cases link <;> decide))).turned⟩
      · rintro rfl
        obtain ⟨-, hp, ⟨-, hw⟩, hk⟩ := State.linkError_turned .host (s.wakeOn .host)
        refine ⟨hk .station (by decide), (HostLink.eq_of_besides hp).trans ?_⟩
        rw [hw]
        rfl
      · rintro rfl
        obtain ⟨-, hp, hn, hk⟩ := State.linkError_turned .station s
        exact ⟨hk .host (by decide), hn, StationLink.eq_of_besides hp⟩
  · have dropped := takeBytes_frame (kind := kind) (tag := tag) hb hc hh
    rw [if_neg hne] at dropped
    exact ⟨_, (exec_frameReceived (List.cons_ne_nil _ _) s).trans (congrArg event dropped), State.linkError_turned link s⟩
  · exact ⟨_, (exec_frameReceived (List.cons_ne_nil _ _) s).trans (congrArg event (takeBytes_tooLong hn hl hh hs)),
      State.linkError_turned link s⟩

/-- The receiver alone has moved, in the event of a byte. -/
theorem State.setReceiver_turned (link : Link) (r : Receiver) (s : State) :
    (s.setReceiver link r).writerTurn.port link = { s.port link with receiver := r }
      ∧ PortOnly link s (s.setReceiver link r).writerTurn ∧ Keeps [Part.ofLink link] s (s.setReceiver link r).writerTurn :=
  ⟨by cases link <;> rfl, by cases link <;> rfl, (Reaches.setReceiver link r s).turned⟩

/-- Settles O11: one byte, or the end of waiting for one. -/
theorem receiversStartAndTimeOut : Obligations.ReceiversStartAndTimeOut := by
  refine ⟨fun link s h => ?_, fun link s bs last h hl hu => ?_, fun link s bs last h => ?_⟩
  · refine ⟨_, congrArg event (takeByte_hunting h _), ?_⟩
    exact State.setReceiver_turned link _ s
  · have unfinished : Unfinished (bs ++ [0xA5]) := hu.imp (fun h => by rw [h]; decide) fun ⟨h, hn⟩ =>
      ⟨h, by rwa [List.length_append]⟩
    refine ⟨_, congrArg event ((takeByte_inFrame h hl _).trans (takeInFrame_unfinished unfinished)), ?_⟩
    exact State.setReceiver_turned link _ s
  · have hx : exec (.frameTimeout link) s = event (((s.advanceTo (last + 50)).setReceiver link .hunting).linkError link) := by
      change execFrameTimeout link s = _
      simp only [execFrameTimeout, h]
    refine ⟨_, hx, by cases link <;> rfl, by cases link <;> rfl, by cases link <;> exact ⟨rfl, rfl⟩, by cases link <;> rfl, ?_⟩
    exact ((((Reaches.advanceTo s _).trans (Reaches.setReceiver link _ _)).trans (Reaches.linkError link _)).mono
      (by cases link <;> decide)).turned

end Sys2Proof.Machine
end

section
/-!
PROOFS. The transmitters: which frame starts, what holds a start back, and the bytes of the frames of section 11.4, 11.7 and of
host replies (R174, R175, R177).
-/

namespace Sys2Proof.Machine

/-! ### Layouts -/

/-- Byte `i` of a number of `width` bytes, least significant first. -/
theorem natBytes_getElem? (width n i : Nat) :
    (natBytes width n)[i]? = if i < width then some (BitVec.ofNat 8 (n / 256 ^ i)) else none := by
  induction width generalizing n i with
  | zero => rfl
  | succ width ih =>
    cases i with
    | zero => rw [natBytes, List.getElem?_cons_zero, if_pos (Nat.succ_pos width), Nat.pow_zero, Nat.div_one]
    | succ i => simp only [natBytes, List.getElem?_cons_succ, ih, Nat.div_div_eq_div_mul, Nat.pow_succ', Nat.succ_lt_succ_iff]

theorem flagBytes_eq (b : Bool) : flagBytes b = natBytes 1 (if b then 1 else 0) := by cases b <;> rfl

/-- An optional group, as what stands behind its presence byte. -/
theorem optionalBytes_eq {α : Type} {given : Option (List Byte) → List Byte} (hn : given none = natBytes 1 0)
    (hs : ∀ bytes, given (some bytes) = natBytes 1 1 ++ bytes) (f : α → List Byte) (o : Option α) :
    optionalBytes f o = given (o.map f) := by
  cases o with
  | none => exact hn.symm
  | some a => exact (hs (f a)).symm

/-! ### Starts -/

section Starts

variable {s : State}

theorem exec_startedFrameStart_held (h : s.isStarting = true ∨ s.host.sending ≠ none ∨ s.host.started = none) :
    exec .startedFrameStart s = .next s := by
  change execStartedFrameStart s = _
  unfold execStartedFrameStart
  split
  · rfl
  · next report hr =>
    rw [if_neg]
    rw [Bool.and_eq_true, Bool.not_eq_true', Option.isNone_iff_eq_none]
    rintro ⟨hs, hn⟩
    rcases h with h | h | h
    · exact absurd (h.symm.trans hs) (by decide)
    · exact h hn
    · exact absurd (h.symm.trans hr) nofun

theorem State.hostFree_iff : s.hostFree = true ↔ s.isStarting = false ∧ s.host.sending = none ∧ s.host.started = none := by
  simp only [State.hostFree, Bool.and_eq_true, Bool.not_eq_true', Option.isNone_iff_eq_none, and_assoc]

theorem exec_hostReplyStart_held
    (h : s.isStarting = true ∨ s.host.sending ≠ none ∨ s.host.started ≠ none ∨ s.host.replies = []) :
    exec .hostReplyStart s = .next s := by
  change execHostReplyStart s = _
  unfold execHostReplyStart
  split
  · rfl
  · next r rest hr =>
    rw [if_neg]
    rw [State.hostFree_iff]
    rintro ⟨hs, hn, hst⟩
    rcases h with h | h | h | h
    · exact absurd (h.symm.trans hs) (by decide)
    · exact h hn
    · exact h hst
    · exact absurd (h.symm.trans hr) nofun

theorem exec_stationReplyStart_held (h : s.station.sending ≠ none ∨ s.station.replies = []) :
    exec .stationReplyStart s = .next s := by
  change execStationReplyStart s = _
  unfold execStationReplyStart
  split
  · rfl
  · next r rest hr =>
    rw [if_neg]
    rw [Option.isNone_iff_eq_none]
    rintro hn
    rcases h with h | h
    · exact h hn
    · exact absurd (h.symm.trans hr) nofun

theorem exec_frameSent_host {f : OutFrame} (h : s.host.sending = some f) : exec (.frameSent .host) s
    = if f.resets then event (s.resetPart .resetMessage s.unitAddressPins)
      else event { s with host := { s.host with sending := none } } := by
  change execFrameSent .host s = _
  simp only [execFrameSent, h]

end Starts

/-- Settles O16: a start takes the first in its order when nothing holds it back. -/
theorem transmittersSendTheFirst : Obligations.TransmittersSendTheFirst := by
  refine ⟨fun s report hs hn hr => ?_, fun s r rest hs hn hst hr => ?_, fun s r rest hn hr => ?_, fun s f hf hr => ?_,
    fun s f hf hr => ?_, fun s f hf => ?_, fun r => ?_, fun s => ⟨exec_startedFrameStart_held, exec_hostReplyStart_held,
      exec_stationReplyStart_held, fun h => ?_, fun h => ?_⟩, fun r => ?_, fun r => ?_, natBytes_getElem?, fun r => ?_⟩
  · refine event_acts (P := fun t => t.host = _) (u := ({ s with host := { s.host with started := none } }).sendHost report.frame)
      ?_ (.of_restore rfl) rfl
    change execStartedFrameStart s = _
    simp only [execStartedFrameStart, hr, hs, hn, Bool.not_false, Option.isNone_none, Bool.and_self, if_true]
  · refine event_acts (P := fun t => t.host = _) (u := ({ s with host := { s.host with replies := rest } }).sendHost r.frame)
      ?_ (.of_restore rfl) rfl
    change execHostReplyStart s = _
    simp only [execHostReplyStart, hr, State.hostFree_iff.mpr ⟨hs, hn, hst⟩, if_true]
  · refine event_acts (P := fun t => t.station = _)
      (u := { s with station := { s.station with replies := rest, sending := some r.frame } }) ?_ (.of_restore rfl) rfl
    change execStationReplyStart s = _
    simp only [execStationReplyStart, hr, hn, Option.isNone_none, if_true]
  · refine event_acts (P := fun t => t.host = _) (u := { s with host := { s.host with sending := none } }) ?_ (.of_restore rfl) rfl
    rw [exec_frameSent_host hf, hr]
    rfl
  · rw [exec_frameSent_host hf, if_pos hr]
    rfl
  · refine event_acts (P := fun t => t.station = _) (u := { s with station := { s.station with sending := none } }) ?_
      (.of_restore rfl) rfl
    change execFrameSent .station s = _
    simp only [execFrameSent, hf]
  · simp only [HostReply.frame, kindReset, Bool.and_eq_true, beq_iff_eq]
  · change execFrameSent .host s = _
    simp only [execFrameSent, h]
  · change execFrameSent .station s = _
    simp only [execFrameSent, h]
  · have fields : Field.bytes = fun field : Field => match field with
        | .b1 n => natBytes 1 n
        | .b2 n => natBytes 2 n
        | .b4 n => natBytes 4 n
        | .b8 n => natBytes 8 n
        | .s4 z => natBytes 4 (z % 4294967296).toNat
        | .text bs => bs := by
      funext field
      cases field <;> rfl
    simp only [HostReply.frame, HostReply.body, fields] <;> rfl
  · intro flag given g
    have hf : flagBytes = flag := funext flagBytes_eq
    have hg : ∀ {α : Type} (f : α → List Byte) (o : Option α), optionalBytes f o = given (o.map f) :=
      optionalBytes_eq rfl fun _ => rfl
    have hd : (fun d => natBytes 1 (directionCode d)) = fun d => natBytes 1 (if d = .inward then 0 else 1) := by
      funext d
      cases d <;> rfl
    simp only [StationReply.frame, StationReply.body, Amounts.bytes, hf, hg, hd]
    rfl
  · intro cause judgement flag muster body
    have hf : flagBytes = flag := funext flagBytes_eq
    have hc : resetCauseCode r.cause = cause := by cases hr : r.cause <;> simp only [cause, hr, resetCauseCode]
    have hj : r.judgement.code = judgement := by cases hr : r.judgement <;> simp only [judgement, hr, Judgement.code]
    have hm : optionalBytes (fun m : Nat × Nat × Nat => natBytes 2 m.1 ++ natBytes 2 m.2.1 ++ natBytes 2 m.2.2) r.muster
        = muster := by
      cases hr : r.muster <;> simp only [muster, hr] <;> rfl
    simp only [StartedReport.frame, StartedReport.body, hf, hc, hj, hm, List.length_take, Nat.min_comm 8]
    rfl

end Sys2Proof.Machine
end

section
/-!
PROOFS. The door unit: what a tap, a report and the end of a timing leave of a cabin and of the notices (R69 to R85, R133).
-/

namespace Sys2Proof.Machine

variable {s t u : State} {c : Nat}

/-! ### Messages on cabins and the ends of timings -/

theorem Reaches.muster (s : State) (m : Muster) : Reaches [.muster] s { s with muster := m } := .of_restore rfl

theorem doConfigureCabin_same {v : Bool} (h : (s.cabin c).configured = v) : doConfigureCabin (c, v) s = (s, .okay [.flag v]) :=
  if_pos h

theorem doConfigureCabin_on (h : (s.cabin c).configured = false) : doConfigureCabin (c, true) s
    = ({ s.putCabin c ((s.cabin c).configure s.muster.active) with
          muster := { s.muster with unswept := if s.muster.active then s.muster.unswept + 1 else s.muster.unswept } },
        .okay [.flag true]) := by
  simp only [doConfigureCabin, h, Bool.false_eq_true, if_false, if_true]

theorem doConfigureCabin_off (h : (s.cabin c).configured = true) : doConfigureCabin (c, false) s
    = if s.muster.active then (s, .plain .musterActive) else (s.putCabin c (s.cabin c).unconfigure, .okay [.flag false]) := by
  simp only [doConfigureCabin, h, Bool.true_eq_false, Bool.false_eq_true, if_false]

/-- Settles O42: one cabin record is written, and the unswept count with it while a muster is ACTIVE. -/
theorem cabinMessages : Obligations.CabinMessages := by
  refine ⟨fun s r c v hs h => ⟨fun hv => ?_, fun hc hv => ?_, fun hc hv => ⟨fun hm => ?_, fun hm => ?_⟩⟩, fun s r c hs h => ?_⟩
  · obtain ⟨t, hx, ha, -, hk⟩ := host_acts (c := .configureCabin r) (act := doConfigureCabin) (P := fun _ => True) (a := [])
      h rfl (doConfigureCabin_same (s := s.dropHostRequest) hv) (.start _) (by decide) trivial
    exact ⟨t, hx, ha, hk⟩
  · subst hv
    obtain ⟨t, hx, ha, ⟨hcab, hmus⟩, hk⟩ := host_acts (c := .configureCabin r) (act := doConfigureCabin) (a := [.cabins, .muster])
      (P := fun t => (∀ j, t.cabin j = if j = c then (s.cabin c).configure s.muster.active else s.cabin j)
        ∧ t.muster = { s.muster with unswept := if s.muster.active then s.muster.unswept + 1 else s.muster.unswept }) h rfl
      (doConfigureCabin_on (s := s.dropHostRequest) hc) ((Reaches.putCabin _ c _).trans (Reaches.muster _ _)) (by decide) ⟨fun j => Table.read_write hs.cabins c _ j, rfl⟩
    exact ⟨t, hx, ha, hcab, hmus, hk⟩
  · subst hv
    exact host_refused h rfl ((doConfigureCabin_off (s := s.dropHostRequest) hc).trans (if_pos hm))
  · subst hv
    exact host_acts (c := .configureCabin r) (act := doConfigureCabin)
      (P := fun t => ∀ j, t.cabin j = if j = c then { Cabin.reset with occupants := (s.cabin c).occupants } else s.cabin j) h rfl
      ((doConfigureCabin_off (s := s.dropHostRequest) hc).trans (if_neg (Bool.eq_false_iff.mp hm))) (Reaches.putCabin _ c _) (by decide)
      fun j => Table.read_write hs.cabins c _ j
  · have flag : Field.flag (s.cabin c).lockoutUntil.isSome = .b1 (if (s.cabin c).lockoutUntil = none then 0 else 1) := by
      cases (s.cabin c).lockoutUntil <;> rfl
    rw [← flag]
    exact host_acts (c := .clearLockout r) (act := doClearLockout)
      (P := fun t => ∀ j, t.cabin j = if j = c then { s.cabin c with lockoutUntil := none, failures := 0 } else s.cabin j) h rfl rfl
      (Reaches.putCabin _ c _) (by decide) fun j => Table.read_write hs.cabins c _ j

/-- A timing of a cabin ends: time comes to its moment and the cabin's record is written. -/
theorem cabinTiming_ends {cmd : Instr} {due : Nat} {v : Cabin} (hs : s.Tidy)
    (hx : exec cmd s = event ((s.advanceTo due).putCabin c v)) :
    ∃ t, exec cmd s = .next t ∧ AtTime s t due ∧ (∀ j, t.cabin j = if j = c then v else s.cabin j)
      ∧ Keeps [.clock, .cabins] s t := by
  obtain ⟨t, hx, ⟨ht, hc⟩, hk⟩ := event_acts (P := fun t => AtTime s t due ∧ ∀ j, t.cabin j = if j = c then v else s.cabin j) hx
    ((Reaches.advanceTo s due).trans (Reaches.putCabin _ c v)) ⟨rfl, fun j => Table.read_write hs.cabins c v j⟩
  exact ⟨t, hx, ht, hc, hk⟩

/-- Settles O40: each timing ends at its own moment. -/
theorem doorTimingsEnd : Obligations.DoorTimingsEnd := by
  refine ⟨fun s c due hs hc h => cabinTiming_ends hs ?_, fun s c due hs hc h => cabinTiming_ends hs ?_,
    fun s c due hs hc h hopen => ?_⟩
  · change execStrikeWindowEnd c s = _
    simp only [execStrikeWindowEnd, if_neg (Nat.not_le.mpr hc), h]
  · change execLockoutEnd c s = _
    simp only [execLockoutEnd, if_neg (Nat.not_le.mpr hc), h]
  · have hx : exec (.ajarTimingEnd c) s = event (((s.advanceTo due).putCabin c
        { s.cabin c with ajarEnd := none, ajarGiven := true }).raise MemberId.doorAjar c) := by
      change execAjarTimingEnd c s = _
      simp only [execAjarTimingEnd, if_neg (Nat.not_le.mpr hc), h, hopen, if_true]
    obtain ⟨t, hx, ⟨ht, hcab, hr⟩, hk⟩ := event_acts (P := fun t => AtTime s t due
        ∧ (∀ j, t.cabin j = if j = c then { s.cabin c with ajarEnd := none, ajarGiven := true } else s.cabin j)
        ∧ Raised s t MemberId.doorAjar c) hx
      (((Reaches.advanceTo s due).trans (Reaches.putCabin _ c _)).trans (Reaches.raise _ _ _))
      ⟨rfl, fun j => Table.read_write hs.cabins c _ j, rfl, rfl⟩
    exact ⟨t, hx, ht, hcab, hr, hk⟩

/-! ### Door reports -/

theorem doDoorReport_configured {q : DoorReport} (h : (s.cabin q.cabin).configured = true) : doDoorReport q s
    = (((s.putCabin q.cabin ((s.cabin q.cabin).report q.event s.clock.mono s.doorSettings.ajarTime)).raiseWhen
        (q.event == .opened .unexplained) MemberId.doorForced q.cabin).raiseWhen (q.event == .tamper) MemberId.doorTamper q.cabin,
      .plain .ack) := by
  simp only [doDoorReport, h, Bool.not_true, Bool.false_eq_true, if_false]

/-- The notices of a report: one member's event, for the two events that have one. -/
theorem doorReport_raises (e : DoorEvent) (c : Nat) (hn : u.notices = s.notices) (hw : u.host = s.host) :
    let t := (u.raiseWhen (e == .opened .unexplained) MemberId.doorForced c).raiseWhen (e == .tamper) MemberId.doorTamper c
    (e = .opened .unexplained → Raised s t MemberId.doorForced c) ∧ (e = .tamper → Raised s t MemberId.doorTamper c)
      ∧ (e ≠ .opened .unexplained → e ≠ .tamper → Silent s t) := by
  intro t
  refine ⟨?_, ?_, fun hf ht => ?_⟩
  · rintro rfl
    have : t = u.raise MemberId.doorForced c := State.raiseWhen_false _ _ _
    rw [this, Raised, ← hn, ← hw]
    exact Raised.of_raise u _ _
  · rintro rfl
    have : t = u.raise MemberId.doorTamper c := congrArg (State.raise _ _) (State.raiseWhen_false _ _ _)
    rw [this, Raised, ← hn, ← hw]
    exact Raised.of_raise u _ _
  · have : t = u := by
      simp only [t, beq_eq_false_iff_ne.mpr hf, beq_eq_false_iff_ne.mpr ht, State.raiseWhen_false]
    rw [this, Silent, hn, hw]
    exact ⟨rfl, rfl⟩

/-- Settles O41: a report writes the cabin's record and raises its event's notice. -/
theorem doorReportsSetTheirFields : Obligations.DoorReportsSetTheirFields := by
  intro s r q hs h hc v now
  have hnow : (s.cabin q.cabin).report q.event s.clock.mono s.doorSettings.ajarTime = now := by
    simp only [now, Cabin.report]
    cases q.event <;> rfl
  obtain ⟨t, hx, ha, ⟨hcab, hf, ht, hq⟩, hk⟩ := station_acts (c := .doorReport r) (act := doDoorReport)
    (a := [.cabins, .notices, .wake])
    (P := fun t => (∀ j, t.cabin j = if j = q.cabin then now else s.cabin j)
      ∧ (q.event = .opened .unexplained → Raised s t MemberId.doorForced q.cabin)
      ∧ (q.event = .tamper → Raised s t MemberId.doorTamper q.cabin)
      ∧ (q.event ≠ .opened .unexplained → q.event ≠ .tamper → Silent s t)) h rfl
    (doDoorReport_configured (s := s.dropStationRequest) hc)
    ((((Reaches.putCabin _ q.cabin _).trans (Reaches.raiseWhen _ _ _ _)).trans (Reaches.raiseWhen _ _ _ _)).mono (by decide))
    (by decide) ⟨fun j => hnow ▸ Table.read_write hs.cabins q.cabin _ j,
      doorReport_raises q.event q.cabin (s := s.dropStationRequest) rfl rfl⟩
  exact ⟨t, hx, ha, hcab, hf, ht, hq, hk⟩

/-! ### Door taps -/

/-- A granted tap, from the state that the sweep has left: the door is RELEASED, or keeps its end. -/
theorem grantDoor_locked {sweep : Bool} (h : (s.cabin c).releasedUntil = none) : grantDoor c sweep s
    = (s.putCabin c { s.cabin c with
          releasedUntil := some (s.clock.mono + 1000 * s.doorSettings.strikeTime), failures := 0 },
        { result := .granted, groups := timingGroups s.doorSettings.strikeTime sweep }) := by
  simp only [grantDoor, h]

theorem grantDoor_released {sweep : Bool} {e : Nat} (h : (s.cabin c).releasedUntil = some e) : grantDoor c sweep s
    = (s.putCabin c { s.cabin c with failures := 0 },
        { result := .grantedAlreadyOpen, groups := timingGroups (secondsLeft s.clock.mono e) sweep }) := by
  simp only [grantDoor, h]

section Granting

variable {r : Request} {q : DoorTap} {w : State} {a : List Part} {P : State → Prop} (h : StationOffer s 0x01 decodeDoorTap r q)
include h

/-- A tap that writes its cabin's record last. -/
theorem door_writes {v : Cabin} {answer : StationAnswer} (ha : doDoorTap q s.dropStationRequest = (w.putCabin q.cabin v, answer))
    (hw : w.cabins.wf Cabin.reset) (hf : Reaches a s.dropStationRequest w) (hac : Part.cabins ∈ a) (hn : Part.station ∉ a)
    (hcab : ∀ j, j ≠ q.cabin → w.cabin j = s.cabin j) (hp : ∀ r, P ((w.putCabin q.cabin v).stationReply r).writerTurn) :
    ∃ t, exec (.doorTap r) s = .next t ∧ StationAnswered s t ⟨0x01, r.tag, answer.result, answer.groups⟩
      ∧ t.cabin q.cabin = v ∧ (∀ j, j ≠ q.cabin → t.cabin j = s.cabin j) ∧ P t ∧ Keeps (.station :: a) s t := by
  have reach : Reaches a s.dropStationRequest (w.putCabin q.cabin v) := hf.then ((Reaches.putCabin w q.cabin v).mono fun p hp => by
    rw [List.mem_singleton] at hp
    exact hp ▸ hac)
  obtain ⟨t, hx, answered, ⟨hcabin, hP⟩, hk⟩ := station_acts (c := .doorTap r) (act := doDoorTap)
    (P := fun t => (∀ j, t.cabin j = if j = q.cabin then v else w.cabin j) ∧ P t) h rfl ha reach hn
    ⟨fun j => Table.read_write hw q.cabin v j, hp _⟩
  exact ⟨t, hx, answered, (hcabin _).trans (if_pos rfl), fun j hj => (hcabin j).trans ((if_neg hj).trans (hcab j hj)), hP, hk⟩

/-- A tap that is granted, the sweep before the grant included: the reply, the cabins, and what else holds. -/
theorem door_granted {sweep : Bool} {mark : Sweep} (ha : doDoorTap q s.dropStationRequest = grantDoor q.cabin sweep w)
    (hw : w.cabins.wf Cabin.reset) (hf : Reaches a s.dropStationRequest w) (hac : Part.cabins ∈ a) (hn : Part.station ∉ a)
    (hcab : ∀ j, w.cabin j = if j = q.cabin then { s.cabin q.cabin with sweep := mark } else s.cabin j)
    (hclock : w.clock = s.clock) (hset : w.doorSettings = s.doorSettings)
    (hp : ∀ v r, P ((w.putCabin q.cabin v).stationReply r).writerTurn) :
    ∃ t, exec (.doorTap r) s = .next t
      ∧ (((s.cabin q.cabin).releasedUntil = none →
          StationAnswered s t ⟨0x01, r.tag, .granted,
            { StationGroups.empty with timing := some (s.doorSettings.strikeTime, sweep) }⟩
          ∧ t.cabin q.cabin = { s.cabin q.cabin with
              releasedUntil := some (s.clock.mono + 1000 * s.doorSettings.strikeTime), failures := 0, sweep := mark })
        ∧ (∀ e, (s.cabin q.cabin).releasedUntil = some e →
          StationAnswered s t ⟨0x01, r.tag, .grantedAlreadyOpen,
            { StationGroups.empty with timing := some ((e - s.clock.mono + 999) / 1000, sweep) }⟩
          ∧ t.cabin q.cabin = { s.cabin q.cabin with failures := 0, sweep := mark })
        ∧ ∀ j, j ≠ q.cabin → t.cabin j = s.cabin j)
      ∧ P t ∧ Keeps (.station :: a) s t := by
  have own : w.cabin q.cabin = { s.cabin q.cabin with sweep := mark } := by rw [hcab, if_pos rfl]
  have others : ∀ j, j ≠ q.cabin → w.cabin j = s.cabin j := fun j hj => by rw [hcab, if_neg hj]
  cases hr : (s.cabin q.cabin).releasedUntil with
  | none =>
    have hg := ha.trans (grantDoor_locked (by rw [own]; exact hr))
    rw [own, hclock, hset] at hg
    obtain ⟨t, hx, answered, hc, hj, hP, hk⟩ := door_writes h hg hw hf hac hn others (hp _)
    exact ⟨t, hx, ⟨fun _ => ⟨answered, hc⟩, fun _ he => (nomatch he), hj⟩, hP, hk⟩
  | some e =>
    have hg := ha.trans (grantDoor_released (by rw [own]; exact hr))
    rw [own, hclock] at hg
    obtain ⟨t, hx, answered, hc, hj, hP, hk⟩ := door_writes h hg hw hf hac hn others (hp _)
    refine ⟨t, hx, ⟨fun he => (nomatch he), fun e' he => ?_, hj⟩, hP, hk⟩
    obtain rfl := Option.some.inj he
    exact ⟨answered, hc⟩

end Granting

section Tap

variable {q : DoorTap} {i : Nat} {p : Person} (hc : (s.cabin q.cabin).configured = true)
include hc

theorem doDoorTap_failed {reason : Result} (hd : s.decodeCard q.card = .failed reason i) :
    doDoorTap q s = ((s.raiseWhen (reason == .futureCard) MemberId.futureCard i).countFailure q.cabin, .plain reason) := by
  simp only [doDoorTap, hc, hd, Bool.not_true, Bool.false_eq_true, if_false]
  rfl

variable (hd : s.decodeCard q.card = .passed i p)
include hd

theorem doDoorTap_sweeper (hw : s.muster.active = true ∧ p.cls = .crew ∧ p.sweep = true) :
    doDoorTap q s = grantDoor q.cabin true (s.sweepCabin q.cabin) := by
  simp only [doDoorTap, hc, hd, Bool.not_true, Bool.false_eq_true, if_false, if_pos hw]

variable (hw : ¬ (s.muster.active = true ∧ p.cls = .crew ∧ p.sweep = true))
include hw

theorem doDoorTap_lockedOut {e : Nat} (hl : (s.cabin q.cabin).lockoutUntil = some e) :
    doDoorTap q s = (s, { result := .lockedOut, groups := timingGroups (secondsLeft s.clock.mono e) false }) := by
  simp only [doDoorTap, hc, hd, Bool.not_true, Bool.false_eq_true, if_false, if_neg hw, hl]

variable (hl : (s.cabin q.cabin).lockoutUntil = none)
include hl

theorem doDoorTap_incomplete (hp : p.loaded = false) : doDoorTap q s = (s, .plain .recordIncomplete) := by
  simp only [doDoorTap, hc, hd, Bool.not_true, Bool.false_eq_true, if_false, if_neg hw, hl, hp, Bool.not_false, if_true]

variable (hp : p.loaded = true)
include hp

/-- The judgement by class lets the tap through, or gives a reason. -/
theorem doDoorTap_admitted
    (hj : (if p.cls = .crew then crewRefusal q.cabin (s.cabin q.cabin) p else guestRefusal q.cabin p) = none) :
    doDoorTap q s = grantDoor q.cabin false s := by
  simp only [doDoorTap, hc, hd, Bool.not_true, Bool.false_eq_true, if_false, if_neg hw, hl, hp, hj]

theorem doDoorTap_refused {reason : Result}
    (hj : (if p.cls = .crew then crewRefusal q.cabin (s.cabin q.cabin) p else guestRefusal q.cabin p) = some reason) :
    doDoorTap q s = ((s.raiseWhen (reason == .ashoreCard) MemberId.ashoreCard i).countFailure q.cabin, .plain reason) := by
  simp only [doDoorTap, hc, hd, Bool.not_true, Bool.false_eq_true, if_false, if_neg hw, hl, hp, hj]

end Tap

/-- The sweep of a cabin, in one write of its record. -/
theorem sweepCabin_first (h : (s.cabin c).sweep = .unswept) : s.sweepCabin c
    = ({ s.putCabin c { s.cabin c with sweep := .swept } with
          muster := { s.muster with unswept := s.muster.unswept - 1 } }).raiseWhen (s.muster.unswept - 1 == 0)
        MemberId.allSwept s.muster.id := by
  simp only [State.sweepCabin, h, beq_self_eq_true, if_true, Bool.true_and]

theorem sweepCabin_again (h : (s.cabin c).sweep ≠ .unswept) : s.sweepCabin c = s.putCabin c (s.cabin c) := by
  simp only [State.sweepCabin, beq_eq_false_iff_ne.mpr h, Bool.false_eq_true, if_false, Bool.false_and, State.raiseWhen_false]
  rfl

/-- Settles O38: the judgement lets the tap through to the one grant of a door. -/
theorem doorTapsThatPassAreGranted : Obligations.DoorTapsThatPassAreGranted := by
  intro s r q i p hs h hc hd v sweeper admitted granted
  have swept := doDoorTap_sweeper (s := s.dropStationRequest) hc hd
  refine ⟨fun hw ⟨hl, hp, hadmit⟩ => ?_, fun hw hv => ?_, fun hw hv => ?_⟩
  · have none_fails : (if p.cls = .crew then crewRefusal q.cabin (s.cabin q.cabin) p else guestRefusal q.cabin p) = none := by
      rcases hadmit with ⟨hcls, hcab, hloc⟩ | ⟨hcls, hpriv, first, last, hr, hf, hla⟩
      · simp only [if_neg hcls, guestRefusal, hcab, hloc, ne_eq, not_true_eq_false, if_false]
      · have hpriv : (s.cabin q.cabin).privacy = false := hpriv
        simp only [if_pos hcls, crewRefusal, hr, hpriv, Bool.false_eq_true, if_false]
        exact if_neg (by omega)
    have judged := doDoorTap_admitted (s := s.dropStationRequest) hc hd hw hl hp none_fails
    have own : ∀ j, s.dropStationRequest.cabin j = if j = q.cabin then { s.cabin q.cabin with sweep := v.sweep } else s.cabin j :=
      fun j => by
        split
        · next hj => rw [hj]; rfl
        · rfl
    obtain ⟨t, hx, hg, -, hk⟩ := door_granted (P := fun _ => True) (a := [.cabins]) (mark := v.sweep) h judged hs.cabins
      ((Reaches.start _).mono (a := []) (b := [.cabins]) nofun) (by decide) (by decide)
      own rfl rfl fun _ _ => trivial
    exact ⟨t, hx, hg, hk⟩
  · have hg := (swept hw).trans (congrArg (grantDoor q.cabin true) (sweepCabin_again (s := s.dropStationRequest) hv))
    obtain ⟨t, hx, hg, -, hk⟩ := door_granted (P := fun _ => True) (a := [.cabins]) (mark := v.sweep) h hg (wf_putCabin hs.cabins _ _)
      (Reaches.putCabin _ _ _) (by decide) (by decide) (fun j => Table.read_write hs.cabins _ _ j) rfl rfl
      fun _ _ => trivial
    exact ⟨t, hx, hg, hk⟩
  · have hg := (swept hw).trans (congrArg (grantDoor q.cabin true) (sweepCabin_first (s := s.dropStationRequest) hv))
    obtain ⟨t, hx, hg, ⟨hm, hr, hq⟩, hk⟩ := door_granted (a := [.cabins, .muster, .notices, .wake])
      (P := fun t => t.muster = { s.muster with unswept := s.muster.unswept - 1 }
      ∧ (s.muster.unswept - 1 = 0 → Raised s t MemberId.allSwept s.muster.id) ∧ (s.muster.unswept - 1 ≠ 0 → Silent s t))
      (mark := .swept) h hg (wf_putCabin hs.cabins _ _)
      (((Reaches.putCabin _ _ _).trans (Reaches.muster _ _)).trans (Reaches.raiseWhen _ _ _ _)) (by decide) (by decide)
      (fun j => Table.read_write hs.cabins _ _ j) rfl rfl
      fun _ _ => ⟨rfl, fun h0 => ⟨by simp [h0], by simp [h0]⟩, fun h0 => ⟨by simp [h0], by simp [h0]⟩⟩
    exact ⟨t, hx, hg, hm, hr, hq, hk.mono (by decide)⟩

/-! ### Counted refusals -/

/-- A refusal that is counted, after the events that its reason raises: the cabin, and DOOR_LOCKOUT where the count comes to the
threshold. -/
theorem countFailure_counts {es : List (MemberId × Nat)} (hw : s.cabins.wf Cabin.reset) (hm : s.notices.members.wf Member.reset)
    (hr : RaisedAll s u es) (he : ∀ e ∈ es, e.1.key ≠ MemberId.doorLockout.key) (hcab : u.cabins = s.cabins)
    (hset : u.doorSettings = s.doorSettings) (hclock : u.clock = s.clock) (ha : u.host.asleep = s.host.asleep) :
    (∀ j, (u.countFailure c).cabin j = if j = c then (if (s.cabin c).lockoutUntil ≠ none then s.cabin c
        else if s.doorSettings.lockoutThreshold ≤ (s.cabin c).failures + 1 then
          { s.cabin c with failures := 0, lockoutUntil := some (s.clock.mono + 1000 * s.doorSettings.lockoutTime) }
        else { s.cabin c with failures := (s.cabin c).failures + 1 }) else s.cabin j)
      ∧ RaisedAll s (u.countFailure c) (es ++ eventIf ((s.cabin c).lockoutUntil = none
          ∧ s.doorSettings.lockoutThreshold ≤ (s.cabin c).failures + 1) MemberId.doorLockout c)
      ∧ Reaches [.cabins, .notices, .wake] u (u.countFailure c) := by
  have same : ∀ j, u.cabin j = s.cabin j := fun j => by rw [State.cabin, hcab]; rfl
  have written : ∀ v j, (u.putCabin c v).cabin j = if j = c then v else s.cabin j := fun v j => by
    rw [cabin_putCabin (hcab ▸ hw), same]
  unfold State.countFailure
  simp only [same, hset, hclock]
  cases hl : (s.cabin c).lockoutUntil with
  | some e =>
    simp only [ne_eq, reduceCtorEq, not_false_eq_true, if_true, false_and, eventIf, if_false, List.append_nil]
    refine ⟨fun j => ?_, hr, (Reaches.start u).mono (a := []) nofun⟩
    split
    · next hj => rw [same, hj]
    · exact same j
  | none =>
    by_cases ht : s.doorSettings.lockoutThreshold ≤ (s.cabin c).failures + 1
    · simp only [ne_eq, not_true_eq_false, if_false, if_pos ht, true_and]
      refine ⟨written _, ?_, (Reaches.putCabin u c _).trans (Reaches.raise _ _ _)⟩
      have put : RaisedAll s (u.putCabin c { s.cabin c with failures := 0, lockoutUntil := some (s.clock.mono
        + 1000 * s.doorSettings.lockoutTime) }) es := hr
      have raised := put.raiseWhen hm ha (c := true) (m := MemberId.doorLockout) c he
      rwa [eventIf_congr (iff_of_true rfl ht)] at raised
    · simp only [ne_eq, not_true_eq_false, if_false, if_neg ht, true_and, eventIf, List.append_nil]
      exact ⟨written _, hr, (Reaches.putCabin u c _).mono (by decide)⟩

/-- A tap whose refusal is counted. -/
theorem door_counted {r : Request} {q : DoorTap} {b : Bool} {m : MemberId} {d : Nat} {reason : Result}
    (hs : s.Tidy) (h : StationOffer s 0x01 decodeDoorTap r q) (hm : m.key ≠ MemberId.doorLockout.key)
    (ha : doDoorTap q s.dropStationRequest = ((s.dropStationRequest.raiseWhen b m d).countFailure q.cabin, .plain reason)) :
    ∃ t, (exec (.doorTap r) s = .next t ∧ StationAnswered s t ⟨0x01, r.tag, reason, StationGroups.empty⟩)
      ∧ t.cabin q.cabin = (if (s.cabin q.cabin).lockoutUntil ≠ none then s.cabin q.cabin
        else if s.doorSettings.lockoutThreshold ≤ (s.cabin q.cabin).failures + 1 then
          { s.cabin q.cabin with failures := 0, lockoutUntil := some (s.clock.mono + 1000 * s.doorSettings.lockoutTime) }
        else { s.cabin q.cabin with failures := (s.cabin q.cabin).failures + 1 })
      ∧ (∀ j, j ≠ q.cabin → t.cabin j = s.cabin j)
      ∧ RaisedAll s t (eventIf (b = true) m d ++ eventIf ((s.cabin q.cabin).lockoutUntil = none
          ∧ s.doorSettings.lockoutThreshold ≤ (s.cabin q.cabin).failures + 1) MemberId.doorLockout q.cabin)
      ∧ Keeps [.station, .cabins, .notices, .wake] s t := by
  have noticed : RaisedAll s (s.dropStationRequest.raiseWhen b m d) (eventIf (b = true) m d) :=
    RaisedAll.raiseWhen (s := s) (t := s.dropStationRequest) (es := []) (.of_silent ⟨rfl, rfl⟩) hs.members rfl d nofun
  obtain ⟨hcab, hr, hf⟩ := countFailure_counts (c := q.cabin) hs.cabins hs.members noticed
    (fun e he => by rw [(mem_eventIf.mp he).2]; exact hm) rfl rfl rfl rfl
  obtain ⟨t, hx, answered, ⟨hc, hn⟩, hk⟩ := station_acts (c := .doorTap r) (act := doDoorTap) (a := [.cabins, .notices, .wake])
    (P := fun t => t.cabins = ((s.dropStationRequest.raiseWhen b m d).countFailure q.cabin).cabins ∧ RaisedAll s t _) h rfl ha
    (((Reaches.raiseWhen _ _ _ _).trans hf).mono (by decide)) (by decide) ⟨rfl, hr⟩
  have read : ∀ j, t.cabin j = ((s.dropStationRequest.raiseWhen b m d).countFailure q.cabin).cabin j := fun j =>
    congrArg (Table.read Cabin.reset · j) hc
  exact ⟨t, ⟨hx, answered⟩, (read _).trans ((hcab _).trans (if_pos rfl)),
    fun j hj => (read j).trans ((hcab j).trans (if_neg hj)), hn, hk⟩

/-- Settles O39: a tap fails at its card, at the lockout, at the record, or at the judgement by class. -/
theorem doorRefusalsAreCounted : Obligations.DoorRefusalsAreCounted := by
  intro s r q hs h hc v counted refused
  have counts : ∀ {b : Bool} {m : MemberId} {d : Nat} {reason : Result}, m.key ≠ MemberId.doorLockout.key →
      doDoorTap q s.dropStationRequest = ((s.dropStationRequest.raiseWhen b m d).countFailure q.cabin, .plain reason) →
      ∃ t, refused t reason ∧ counted t (eventIf (b = true) m d) := fun hm ha => door_counted hs h hm ha
  refine ⟨fun reason i hd => ?_, fun i p hd hw => ⟨fun e hl => ?_, fun hl hp => ?_, fun hl hp => ?_⟩⟩
  · have noticed := counts (by decide) (doDoorTap_failed (s := s.dropStationRequest) hc hd)
    rwa [eventIf_congr (beq_iff_eq (a := reason))] at noticed
  · obtain ⟨t, ⟨hx, ha⟩, hk⟩ := station_refused (c := .doorTap r) h rfl (doDoorTap_lockedOut (s := s.dropStationRequest) hc hd hw hl)
    exact ⟨t, hx, ha, hk⟩
  · exact station_refused (c := .doorTap r) h rfl (doDoorTap_incomplete (s := s.dropStationRequest) hc hd hw hl hp)
  · have judged : ∀ reason, (if p.cls = .crew then crewRefusal q.cabin v p else guestRefusal q.cabin p) = some reason →
        ∃ t, refused t reason ∧ counted t (eventIf ((reason == .ashoreCard) = true) MemberId.ashoreCard i) := fun reason hr =>
      counts (by decide) (doDoorTap_refused (s := s.dropStationRequest) hc hd hw hl hp hr)
    refine ⟨fun hcls => ⟨fun hcab => ?_, fun hcab hloc => ?_, fun hcab hloc => ?_⟩, fun hcls => ⟨fun hr => ?_, fun f l hr hf hla hpriv => ?_⟩⟩
    · exact judged .notYourCabin (by rw [if_neg hcls, guestRefusal, if_pos hcab])
    · exact judged .notBoarded (by simp only [if_neg hcls, guestRefusal, hcab, hloc, ne_eq, not_true_eq_false, if_false])
    · exact judged .ashoreCard (by
        rcases hloc with hloc | hloc <;> simp only [if_neg hcls, guestRefusal, hcab, hloc, ne_eq, not_true_eq_false, if_false])
    · refine judged .notYourCabin ?_
      rw [if_pos hcls]
      unfold crewRefusal
      split
      · rfl
      · next first last hrights => exact if_pos (hr first last hrights)
    · refine judged .privacy ?_
      simp only [if_pos hcls, crewRefusal, hr, hpriv, if_true]
      exact if_neg (by omega)

end Sys2Proof.Machine
end

section
/-!
PROOFS. The gate unit: lane taps, the ends of block timings and of permits, and the all-aboard deadline (R47, R49 to R52, R57,
R64 to R66).
-/

namespace Sys2Proof.Machine

variable {s t u : State} {lane i : Nat} {p : Person}

/-! ### Lane taps -/

theorem exec_laneTap (r : Request) (s : State) :
    exec (.laneTap r) s = takeStation 0x03 decodeStationTap (fun q => atStation .lane q.station (tapLane q.card)) r s := rfl

section Tap

variable {card : Card} (hm : s.muster.active = false) (ho : s.store.state = .opened)
include hm

theorem tapLane_closedStore (ho : s.store.state ≠ .opened) : tapLane card lane s = (s, .plain .powerFail) := by
  simp only [tapLane, hm, Bool.false_eq_true, if_false, if_pos ho]

include ho

theorem tapLane_closedLane (hc : (s.lane lane).mode = .closed) : tapLane card lane s = (s, .plain .laneClosed) := by
  simp only [tapLane, hm, ho, Bool.false_eq_true, ne_eq, not_true_eq_false, if_false, if_pos hc]

variable (hc : (s.lane lane).mode ≠ .closed)
include hc

theorem tapLane_blocked (hb : (s.lane lane).blocked = true) : tapLane card lane s = (s, .plain .laneBlocked) := by
  simp only [tapLane, hm, ho, Bool.false_eq_true, ne_eq, not_true_eq_false, if_false, if_neg hc, if_pos hb]

variable (hb : (s.lane lane).blocked = false)
include hb

theorem tapLane_failed {reason : Result} (hd : s.decodeCard card = .failed reason i) :
    tapLane card lane s = (s.afterDecodeFailure reason i, .plain reason) := by
  simp only [tapLane, hm, ho, Bool.false_eq_true, ne_eq, not_true_eq_false, if_false, if_neg hc, hb, hd]

variable (hd : s.decodeCard card = .passed i p)
include hd

theorem tapLane_refused {reason : Result} (hr : laneRefusal s lane p = some reason) :
    tapLane card lane s = (s, .plain reason) := by
  simp only [tapLane, hm, ho, Bool.false_eq_true, ne_eq, not_true_eq_false, if_false, if_neg hc, hb, hd, hr]

theorem tapLane_granted (hr : laneRefusal s lane p = none) : tapLane card lane s = (s.grantPermit lane i p,
    { result := .granted, groups := { StationGroups.empty with direction := some (wantedDirection p.location) } }) := by
  simp only [tapLane, hm, ho, Bool.false_eq_true, ne_eq, not_true_eq_false, if_false, if_neg hc, hb, hd, hr]

end Tap

/-- The direction that a location wants, where it wants one. -/
theorem wantedDirection_eq {loc : Location} (h : loc ≠ .departed) :
    wantedDirection loc = if loc = .aboard then .outward else .inward := by cases loc <;> rfl

/-- The later tests of a tap, judged in order. -/
theorem laneRefusal_eq (s : State) (lane : Nat) (p : Person) :
    laneRefusal s lane p = if p.location = .departed then some .departed
      else if admits (s.lane lane).mode (wantedDirection p.location) = false then some .wrongDirection
      else if wantedDirection p.location = .outward ∧ p.cls ≠ .crew ∧ s.deadline = .passed then some .allAboardClosed
      else if p.gatePermit ≠ none then some .alreadyPermitted
      else if 2 ≤ (s.lane lane).permits.length then some .permitsFull
      else if 256 ≤ s.movementLog.length then some .logFull else none := by
  simp only [laneRefusal, Bool.not_eq_true', Option.isSome_iff_ne_none]

/-- A grant changes the lane and the person's gate permit. -/
theorem grantPermit_spec (hw : s.persons.wf none) (hl : s.lanes.wf Lane.reset) (hp : s.person i = some p) :
    (∀ j, (s.grantPermit lane i p).lane j = if j = lane then
        { s.lane lane with
          permits := (s.lane lane).permits ++
            [{ person := i, direction := wantedDirection p.location, issued := s.clock.mono,
               expiry := s.clock.mono + 1000 * (s.lane lane).setup.permitWindow }]
          flapOpen := true } else s.lane j)
      ∧ (∀ j, (s.grantPermit lane i p).person j = if j = i then some { p with gatePermit := some lane } else s.person j)
      ∧ Reaches [.lanes, .persons] s (s.grantPermit lane i p) := by
  unfold State.grantPermit
  dsimp only
  rw [State.changePerson_gatePermit hp]
  exact ⟨fun j => Table.read_write hl lane _ j, fun j => Table.read_write hw i _ j,
    ((Reaches.persons s _).trans (Reaches.putLane _ lane _)).mono (by decide)⟩

/-- Settles O29: no test refuses, and the tap is granted. -/
theorem laneTapGrantsAPermit : Obligations.LaneTapGrantsAPermit := by
  intro s r q lane i p d hs h h1 h2 h3 hm ho hc hb hd hdir hadm hdead hg hlen hlog
  have wanted : wantedDirection p.location = d := by
    rcases hdir with ⟨hl | hl, rfl⟩ | ⟨hl, rfl⟩ <;> rw [hl] <;> rfl
  have departed : p.location ≠ .departed := by
    rcases hdir with ⟨hl | hl, -⟩ | ⟨hl, -⟩ <;> rw [hl] <;> decide
  have passes : laneRefusal s lane p = none := by
    rw [laneRefusal_eq, if_neg departed, wanted, if_neg (Bool.not_eq_false _ ▸ hadm), if_neg, if_neg (not_not_intro hg),
      if_neg (Nat.not_le.mpr hlen), if_neg (Nat.not_le.mpr hlog)]
    rintro ⟨hout, hcls, hpast⟩
    exact (hdead hout).elim hcls fun hn => hn hpast
  have granted := tapLane_granted (s := s.dropStationRequest) (card := q.card) hm ho hc hb hd passes
  rw [wanted] at granted
  obtain ⟨hlane, hperson, hf⟩ := grantPermit_spec (s := s.dropStationRequest) (lane := lane) hs.persons hs.lanes (State.person_of_passed hd)
  obtain ⟨t, hx, ha, ⟨hl, hp⟩, hk⟩ := station_acts (P := fun t => t.lanes = (s.dropStationRequest.grantPermit lane i p).lanes
      ∧ t.persons = (s.dropStationRequest.grantPermit lane i p).persons) h (exec_laneTap r s)
    ((atStation_served h1 h2 h3).trans granted) hf (by decide) ⟨rfl, rfl⟩
  refine ⟨t, hx, ha, fun j => ?_, fun j => ?_, hk⟩
  · rw [← wanted]
    exact (congrArg (Table.read Lane.reset · j) hl).trans (hlane j)
  · exact (congrArg (Table.read none · j) hp).trans (hperson j)

/-- Settles O30: the tests come in their order, and a refusal changes nothing but the FUTURE_CARD notice. -/
theorem laneTapRefusalsInOrder : Obligations.LaneTapRefusalsInOrder := by
  intro s r q lane h h1 h2 h3 refused
  have refuses : ∀ {reason}, tapLane q.card lane s.dropStationRequest = (s.dropStationRequest, .plain reason) → refused reason :=
    fun ht => by
      obtain ⟨t, ⟨hx, ha⟩, hk⟩ := station_refused h (exec_laneTap r s) ((atStation_served h1 h2 h3).trans ht)
      exact ⟨t, hx, ha, hk⟩
  refine ⟨fun hm => refuses (if_pos hm), fun hm ho => refuses (tapLane_closedStore (s := s.dropStationRequest) hm ho),
    fun hm ho => ⟨fun hc => refuses (tapLane_closedLane (s := s.dropStationRequest) hm ho hc),
      fun hc hb => refuses (tapLane_blocked (s := s.dropStationRequest) hm ho hc hb),
      fun hc hb => ⟨fun reason i hd => ?_, fun i p hd => ?_⟩⟩⟩
  · have failed := tapLane_failed (s := s.dropStationRequest) (card := q.card) hm ho hc hb hd
    obtain ⟨t, hx, ha, ⟨hr, hq⟩, hk⟩ := station_acts (P := fun t => (reason = .futureCard → Raised s t MemberId.futureCard i)
        ∧ (reason ≠ .futureCard → Silent s t)) h (exec_laneTap r s) ((atStation_served h1 h2 h3).trans failed)
      (Reaches.raiseWhen _ _ _ _) (by decide)
      ⟨fun e => by subst e; exact Raised.of_raise s.dropStationRequest _ _, fun e => by
        refine ⟨?_, ?_⟩ <;> simp [State.afterDecodeFailure, beq_eq_false_iff_ne.mpr e]⟩
    exact ⟨t, hx, ha, hr, hq, hk⟩
  · intro d
    have judged : ∀ {reason}, laneRefusal s lane p = some reason → refused reason := fun hr =>
      refuses (tapLane_refused (s := s.dropStationRequest) hm ho hc hb hd hr)
    have wanted : p.location ≠ .departed → wantedDirection p.location = d := wantedDirection_eq
    refine ⟨fun hl => judged ?_, fun hl ha => judged ?_, fun hl ha => ⟨fun hp => judged ?_, fun hp => ⟨fun hg => judged ?_,
      fun hg hn => judged ?_, fun hg hn hlog => judged ?_⟩⟩⟩ <;> rw [laneRefusal_eq]
    · rw [if_pos hl]
    · rw [if_neg hl, wanted hl, if_pos ha]
    all_goals rw [if_neg hl, wanted hl, if_neg (Bool.not_eq_false _ ▸ ha)]
    · rw [if_pos hp]
    · rw [if_neg hp, if_pos hg]
    · rw [if_neg hp, if_neg (not_not_intro hg), if_pos hn]
    · rw [if_neg hp, if_neg (not_not_intro hg), if_neg (Nat.not_le.mpr hn), if_pos hlog]

/-! ### The ends of timings -/

/-- The noting of saturation as the event leaves it. -/
theorem SaturationNoted.turned {es : List (MemberId × Nat)} (h : SaturationNoted s u lane es) : SaturationNoted s u.writerTurn lane es :=
  ⟨h.flag, h.raised, h.silent⟩

/-- A lane whose permit for a person has expired: the permit is gone, the flap follows, and a no-show is counted. -/
def Lane.expired (l : Lane) (person : Nat) : Lane :=
  { ({ l with permits := l.permits.filter fun q => !decide (q.person = person) }).settleFlap with
    counts := { l.counts with noShows := bump l.counts.noShows } }

/-- The expiry of a person's permit, but for the noting of saturation. -/
def State.expirePermit (lane person due : Nat) (s : State) : State :=
  let expired := (s.advanceTo due).removePermits lane fun q => decide (q.person = person)
  expired.putLane lane
    { expired.lane lane with counts := { (expired.lane lane).counts with noShows := bump (expired.lane lane).counts.noShows } }

/-- A lane that is another but for its saturation-reported flag. -/
theorem Lane.eq_of_reported {l m : Lane} {x : Bool} (h : l = { m with saturationReported := x }) :
    l = { m with saturationReported := l.saturationReported } := by rw [h]

theorem expirePermit_spec {person due : Nat} (hp : s.persons.wf none) (hl : s.lanes.wf Lane.reset) :
    (s.expirePermit lane person due).lanes.wf Lane.reset
      ∧ (∀ j, (s.expirePermit lane person due).lane j = if j = lane then (s.lane lane).expired person else s.lane j)
      ∧ (∀ i, (s.expirePermit lane person due).person i
          = if ∃ q ∈ (s.lane lane).permits.filter fun r : Permit => decide (r.person = person), q.person = i then
            (s.person i).map fun v => { v with gatePermit := none } else s.person i)
      ∧ (s.expirePermit lane person due).clock = { s.clock with mono := max s.clock.mono (min due maxMono) }
      ∧ (s.expirePermit lane person due).notices = s.notices ∧ (s.expirePermit lane person due).host = s.host
      ∧ Reaches [.clock, .persons, .lanes] s (s.expirePermit lane person due) := by
  have hlane := State.lane_removePermits (s := s.advanceTo due) hl lane fun q => decide (q.person = person)
  have hperson := State.person_removePermits (s := s.advanceTo due) hp lane fun q => decide (q.person = person)
  have hwf := State.lanes_removePermits_wf (s := s.advanceTo due) hl lane fun q => decide (q.person = person)
  have hreach := Reaches.removePermits (s.advanceTo due) lane fun q => decide (q.person = person)
  obtain ⟨ps, hframe⟩ := State.removePermits_frame lane (fun q => decide (q.person = person)) (s.advanceTo due)
  have own := (hlane lane).trans (if_pos rfl)
  refine ⟨wf_putLane hwf _ _, fun j => ?_, hperson, ?_, ?_, ?_,
    (((Reaches.advanceTo s due).trans hreach).trans (Reaches.putLane _ _ _)).mono (by decide)⟩
  · unfold State.expirePermit
    rw [lane_putLane hwf, own, hlane]
    split
    · rfl
    · rfl
  · exact (congrArg State.clock hframe :)
  · exact (congrArg State.notices hframe :)
  · exact (congrArg State.host hframe :)

/-- Settles O36: the lane is blocked, or the permit leaves its queue and a no-show is counted. -/
theorem laneTimingsEnd : Obligations.LaneTimingsEnd := by
  refine ⟨fun s lane b due hs hl hb => ?_, fun s lane person permit hs hl hp hf => ?_⟩
  · have detail : beamDetail b = if b = .outer then 0 else 1 := by cases b <;> rfl
    have hx : exec (.blockTimingExpiry lane b) s = event (((s.advanceTo due).putLane lane
        { (s.lane lane).putBeam b { (s.lane lane).beam b with blockEnd := none } with blocked := true }).raiseWhen
          (!(s.lane lane).blocked) (MemberId.blocked lane) (if b = .outer then 0 else 1)) := by
      change execBlockTimingExpiry lane b s = _
      simp only [execBlockTimingExpiry, if_neg (Nat.not_le.mpr hl), hb, detail]
    obtain ⟨t, hx, ⟨ht, hlane, hr, hq⟩, hk⟩ := event_acts (P := fun t => AtTime s t due
        ∧ (∀ j, t.lane j = if j = lane then
            { (s.lane lane).putBeam b { (s.lane lane).beam b with blockEnd := none } with blocked := true } else s.lane j)
        ∧ ((s.lane lane).blocked = false → Raised s t (MemberId.blocked lane) (if b = .outer then 0 else 1))
        ∧ ((s.lane lane).blocked = true → Silent s t)) hx
      (((Reaches.advanceTo s due).trans (Reaches.putLane _ lane _)).trans (Reaches.raiseWhen _ _ _ _))
      ⟨rfl, fun j => Table.read_write hs.lanes lane _ j, fun h => ⟨by simp [h], by simp [h]⟩, fun h => ⟨by simp [h], by simp [h]⟩⟩
    exact ⟨t, hx, ht, hlane, hr, hq, hk⟩
  · intro left
    have hx : exec (.permitExpiry lane person) s
        = event ((s.expirePermit lane person permit.expiry).noteSaturation lane (s.lane lane).counts) := by
      change execPermitExpiry lane person s = _
      simp only [execPermitExpiry, if_neg (Nat.not_le.mpr hl), if_neg (Nat.not_le.mpr hp), hf, State.expirePermit]
    obtain ⟨hwf, hlane, hperson, hclock, hnot, hhost, hreach⟩ := expirePermit_spec (lane := lane) (person := person)
      (due := permit.expiry) hs.persons hs.lanes
    have noted := SaturationNoted.of_note (s := s) (others := []) hwf hs.members (by rw [hlane, if_pos rfl]; rfl)
      (.of_silent ⟨hnot, by rw [hhost]⟩) (by rw [hhost]) nofun
    have after := State.noteSaturation_lane hwf lane (s.lane lane).counts
    have records : ((s.expirePermit lane person permit.expiry).noteSaturation lane (s.lane lane).counts).persons
        = (s.expirePermit lane person permit.expiry).persons := Reaches.noteSaturation _ _ _ .persons (by decide)
    have time : ((s.expirePermit lane person permit.expiry).noteSaturation lane (s.lane lane).counts).clock
        = (s.expirePermit lane person permit.expiry).clock := Reaches.noteSaturation _ _ _ .clock (by decide)
    refine ⟨_, hx, time.trans hclock, ?_, noted.turned, fun j hj => ?_, fun i => ?_,
      ((hreach.trans (Reaches.noteSaturation _ _ _)).turned).mono (by decide)⟩
    · have own := (after lane).trans (if_pos rfl)
      rw [hlane, if_pos rfl] at own
      exact Lane.eq_of_reported own
    · exact (after j).trans ((if_neg hj).trans ((hlane j).trans (if_neg hj)))
    · have found : ∀ i, (∃ q ∈ (s.lane lane).permits.filter fun r => decide (r.person = person), q.person = i) ↔ i = person := by
        intro i
        simp only [List.mem_filter, decide_eq_true_eq]
        refine ⟨fun ⟨q, ⟨_, hq⟩, hi⟩ => hi ▸ hq, fun hi => ⟨permit, ⟨List.mem_of_find?_eq_some hf, ?_⟩, ?_⟩⟩
        · simpa using List.find?_some hf
        · rw [hi]
          simpa using List.find?_some hf
      refine (congrArg (Table.read none · i) records).trans ((hperson i).trans ?_)
      simp only [found]

/-! ### The all-aboard deadline -/

/-- What the passing of the deadline leaves. -/
theorem passDeadline_spec (hm : s.notices.members.wf Member.reset) :
    s.passDeadline.deadline = .passed ∧ s.passDeadline.deadlineArrived = false
      ∧ s.passDeadline.guestsReported = (s.tallyCount .guest .ashore == 0)
      ∧ RaisedAll s s.passDeadline ((MemberId.allAboardReached, s.tallyCount .guest .ashore)
          :: eventIf (s.tallyCount .guest .ashore = 0) MemberId.allGuestsAboard 0)
      ∧ Reaches [.deadline, .notices, .wake] s s.passDeadline := by
  have passed : Reaches [.deadline] s { s with
      deadline := .passed, deadlineArrived := false, guestsReported := s.tallyCount .guest .ashore == 0 } := .of_restore rfl
  refine ⟨rfl, rfl, rfl, ?_, ((passed.trans (Reaches.raise _ _ _)).trans (Reaches.raiseWhen _ _ _ _)).mono (by decide)⟩
  have reached : RaisedAll s (State.raise MemberId.allAboardReached (s.tallyCount .guest .ashore) { s with
      deadline := .passed, deadlineArrived := false, guestsReported := s.tallyCount .guest .ashore == 0 })
      [(MemberId.allAboardReached, s.tallyCount .guest .ashore)] :=
    RaisedAll.raiseWhen (es := []) (c := true) (.of_silent ⟨rfl, rfl⟩) hm rfl _ nofun
  have come := reached.raiseWhen hm rfl (c := s.tallyCount .guest .ashore == 0) (m := MemberId.allGuestsAboard) 0
    (by simpa using (by decide : MemberId.allAboardReached.key ≠ MemberId.allGuestsAboard.key))
  rwa [eventIf_congr (beq_iff_eq (a := s.tallyCount .guest .ashore))] at come

/-- SET_ALL_ABOARD with a time that has come. -/
theorem doSetAllAboard_past {time : Nat} (hr : s.clock.running = true) (ht : time ≤ s.clock.shipTime) :
    doSetAllAboard (some time) s = (s.passDeadline, .okay [.b1 2, .b1 0]) := by
  simp only [doSetAllAboard, hr, Bool.not_true, Bool.false_eq_true, if_false, if_neg (Nat.not_lt.mpr ht)]
  rfl

/-- SET_ALL_ABOARD with a later time. -/
theorem doSetAllAboard_later {time : Nat} (hr : s.clock.running = true) (ht : s.clock.shipTime < time) :
    doSetAllAboard (some time) s = ({ s with deadline := .set time, deadlineArrived := false }, .okay [.b1 1, .b1 1, .b4 time]) := by
  simp only [doSetAllAboard, hr, Bool.not_true, Bool.false_eq_true, if_false, if_pos ht]
  rfl

theorem doSetAllAboard_none (hr : s.clock.running = true) :
    doSetAllAboard none s = ({ s with deadline := .none, deadlineArrived := false }, .okay [.b1 0, .b1 0]) := by
  simp only [doSetAllAboard, hr, Bool.not_true, Bool.false_eq_true, if_false]
  rfl

/-- Settles O37: the setting replaces the deadline, or passes it as its arrival does. -/
theorem allAboardDeadline : Obligations.AllAboardDeadline := by
  unfold Obligations.AllAboardDeadline
  intro passes
  have passed : ∀ {s t u : State}, s.notices.members.wf Member.reset → t.deadline = u.deadline ∧ t.deadlineArrived = u.deadlineArrived
      ∧ t.guestsReported = u.guestsReported ∧ t.notices = u.notices ∧ t.host.wake = u.host.wake → u = s.passDeadline → passes s t := by
    rintro s t u hm ⟨h1, h2, h3, h4, h5⟩ rfl
    obtain ⟨hd, ha, hg, ⟨hn, hw⟩, -⟩ := passDeadline_spec hm
    exact ⟨h1.trans hd, h2.trans ha, h3.trans hg, h4.trans hn, h5.trans hw⟩
  refine ⟨fun s r time hs h => ⟨fun hr => ?_, fun hr => ⟨fun ht => ?_, fun time' ht hlt => ?_, fun time' ht hle => ?_⟩⟩,
    fun s hs ha => ?_⟩
  · refine host_refused (c := .setAllAboard r) (act := doSetAllAboard) h rfl (if_pos ?_)
    change (!s.clock.running) = true
    rw [hr]
    rfl
  · subst ht
    obtain ⟨t, hx, ha, ⟨h1, h2, h3⟩, hk⟩ := host_acts (c := .setAllAboard r) (act := doSetAllAboard) (a := [.deadline])
      (P := fun t => t.deadline = .none ∧ t.deadlineArrived = false ∧ t.guestsReported = s.guestsReported) h rfl
      (doSetAllAboard_none (s := s.dropHostRequest) hr) (.of_restore rfl) (by decide) ⟨rfl, rfl, rfl⟩
    exact ⟨t, hx, ha, h1, h2, h3, hk⟩
  · subst ht
    obtain ⟨t, hx, ha, ⟨h1, h2, h3⟩, hk⟩ := host_acts (c := .setAllAboard r) (act := doSetAllAboard) (a := [.deadline])
      (P := fun t => t.deadline = .set time' ∧ t.deadlineArrived = false ∧ t.guestsReported = s.guestsReported) h rfl
      (doSetAllAboard_later (s := s.dropHostRequest) hr hlt) (.of_restore rfl) (by decide) ⟨rfl, rfl, rfl⟩
    exact ⟨t, hx, ha, h1, h2, h3, hk⟩
  · subst ht
    obtain ⟨-, -, -, -, hreach⟩ := passDeadline_spec (s := s.dropHostRequest) hs.members
    exact host_acts (c := .setAllAboard r) (act := doSetAllAboard) (P := fun t => passes s t) h rfl
      (doSetAllAboard_past (s := s.dropHostRequest) hr hle) hreach (by decide)
      (passed (s := s.dropHostRequest) (u := s.dropHostRequest.passDeadline) hs.members ⟨rfl, rfl, rfl, rfl, rfl⟩ rfl)
  · obtain ⟨-, -, -, -, hreach⟩ := passDeadline_spec (s := s) hs.members
    exact event_acts (P := fun t => passes s t) (if_pos ha) hreach (passed (u := s.passDeadline) hs.members ⟨rfl, rfl, rfl, rfl, rfl⟩ rfl)

end Sys2Proof.Machine
end

section
/-!
PROOFS. Beam events: what the filter and the recognizer leave of a lane, what the judgement of a return to CLEAR leaves of it and
of everything else, and the event that is made of them (R42 to R48, R52 to R55, R59, R62, R66).
-/

namespace Sys2Proof.Machine

variable {s t u : State} {lane : Nat} {b other : Beam} {l : Lane} {now : Nat} {o : Bool} {d : Direction} {r : Return}

/-! ### The lane of a beam event -/

/-- The beam's filtered state takes the raw one, and its block timing starts or is abandoned (R42, R47). -/
def BeamState.turned (v : BeamState) (now blockTime : Nat) : BeamState :=
  { v with
    broken := !v.broken, filterEnd := none
    blockEnd := if !v.broken then some (now + 1000 * blockTime) else none }

/-- Of a lane the filter changes the beam, the occupied period and the occupancy. -/
theorem Lane.filtered_eq (l : Lane) (b : Beam) (now : Nat) : l.filtered b now
    = { l.putBeam b ((l.beam b).turned now l.setup.blockTime) with
        occupiedSince := (l.filtered b now).occupiedSince
        counts := { l.counts with occupancy := (l.filtered b now).counts.occupancy } } := by
  obtain ⟨_, _, ⟨_, outer, _, _⟩, ⟨_, inner, _, _⟩, _, _, _, _, _, _, _, _⟩ := l
  cases b <;> cases outer <;> cases inner <;> rfl

theorem Lane.beam_putBeam (l : Lane) (b : Beam) (v : BeamState) : (l.putBeam b v).beam b = v := by cases b <;> rfl

theorem Lane.beam_putBeam_other (h : b ≠ other) (l : Lane) (v : BeamState) : (l.putBeam b v).beam other = l.beam other := by
  cases b <;> cases other <;> first | rfl | exact absurd rfl h

theorem Lane.filtered_beam (l : Lane) (b : Beam) (now : Nat) :
    (l.filtered b now).beam b = (l.beam b).turned now l.setup.blockTime := by
  rw [Lane.filtered_eq]
  exact Lane.beam_putBeam l b _

theorem Lane.filtered_beam_other (h : b ≠ other) (l : Lane) (now : Nat) : (l.filtered b now).beam other = l.beam other := by
  rw [Lane.filtered_eq]
  exact Lane.beam_putBeam_other h l _

/-- A beam is broken where one of two is. -/
theorem Lane.anyBroken (h : b ≠ other) (l : Lane) : (l.outer.broken || l.inner.broken) = ((l.beam b).broken || (l.beam other).broken) := by
  cases b <;> cases other <;> first | exact absurd rfl h | rfl | exact Bool.or_comm _ _

/-- The occupied period and the accumulator (R44). -/
theorem Lane.filtered_occupied (h : b ≠ other) (l : Lane) (now : Nat) :
    ((l.filtered b now).occupiedSince, (l.filtered b now).counts.occupancy)
      = if (!(l.beam b).broken || (l.beam other).broken) = true then (some (l.occupiedSince.getD now), l.counts.occupancy)
        else (none, l.occupancyAt now) := by
  obtain ⟨_, _, ⟨_, outer, _, _⟩, ⟨_, inner, _, _⟩, _, _, _, _, _, _, _, _⟩ := l
  cases b <;> cases other <;> first | exact absurd rfl h | (cases outer <;> cases inner <;> rfl)

/-- Of a lane the recognizer's part changes the block, the recognizer and its note. -/
theorem Lane.recognized_eq (l : Lane) (b : Beam) : (l.recognized b).1
    = { l with
        blocked := (l.recognized b).1.blocked, recognizer := (l.recognized b).1.recognizer
        openAtStart := (l.recognized b).1.openAtStart } := by
  unfold Lane.recognized
  split
  · split <;> rfl
  · rfl

theorem Lane.recognized_free (hb : l.blocked = false) (b : Beam) : l.recognized b
    = ({ l with
          recognizer := recognize l.recognizer b (l.beam b).broken
          openAtStart := if l.recognizer = .clear then
            (if recognize l.recognizer b (l.beam b).broken = .clear then none else some l.flapOpen)
            else if recognize l.recognizer b (l.beam b).broken = .clear then none else l.openAtStart },
        if recognize l.recognizer b (l.beam b).broken = .clear then returnFrom l.recognizer else .nothing) := by
  simp only [Lane.recognized, hb, Bool.false_eq_true, if_false]

theorem Lane.recognized_blocked (hb : l.blocked = true) (b : Beam) : l.recognized b
    = if l.outer.broken || l.inner.broken then (l, .nothing)
      else ({ l with blocked := false, recognizer := .clear, openAtStart := none }, .nothing) := by
  simp only [Lane.recognized, hb, if_true]

/-- The counts and the queue of a lane at which a passage of a direction has been completed (R53 to R55). -/
def Lane.passed (l : Lane) (d : Direction) (openAtStart : Bool) : Lane :=
  let counts := l.counts.passage d
  if (l.permits.find? fun p => decide (p.direction = d)).isSome then { l with counts, permits := consume d l.permits }
  else if openAtStart then
    if l.permits.isEmpty then { l with counts := { counts with late := bump counts.late } }
    else { l with counts := { counts with contrary := bump counts.contrary } }
  else { l with counts := { counts with forced := bump counts.forced } }

/-- The lane after what its return to CLEAR means (R46). -/
def Lane.judged (l : Lane) (r : Return) (openAtStart : Bool) : Lane :=
  match r with
  | .nothing => l
  | .balk => { l with counts := { l.counts with balks := bump l.counts.balks } }
  | .passage d => l.passed d openAtStart

/-- A judgement changes the counts and the queue alone. -/
theorem Lane.judged_eq (l : Lane) (r : Return) (o : Bool) : l.judged r o
    = { l with counts := (l.judged r o).counts, permits := (l.judged r o).permits } := by
  cases r with
  | nothing => rfl
  | balk => rfl
  | passage d =>
    simp only [Lane.judged, Lane.passed]
    split
    · rfl
    · split
      · split <;> rfl
      · rfl

/-- Of the counts a passage changes those of the directions and of the judgements. -/
theorem Lane.passed_counts (l : Lane) (d : Direction) (o : Bool) : (l.passed d o).counts.balks = l.counts.balks
    ∧ (l.passed d o).counts.noShows = l.counts.noShows ∧ (l.passed d o).counts.occupancy = l.counts.occupancy := by
  have passage : (l.counts.passage d).balks = l.counts.balks ∧ (l.counts.passage d).noShows = l.counts.noShows
      ∧ (l.counts.passage d).occupancy = l.counts.occupancy := by cases d <;> exact ⟨rfl, rfl, rfl⟩
  simp only [Lane.passed]
  split
  · exact passage
  · split
    · split <;> exact passage
    · exact passage

/-- A lane whose beam and recognizer have taken an event, and what that means. -/
def Lane.taken (l : Lane) (b : Beam) (now : Nat) : Lane := ((l.filtered b now).recognized b).1

def Lane.returned (l : Lane) (b : Beam) (now : Nat) : Return := ((l.filtered b now).recognized b).2

/-- The lane that a beam event leaves, but for the flap and the saturation-reported flag. -/
def Lane.untilJudged (l : Lane) (b : Beam) (now : Nat) : Lane :=
  (l.taken b now).judged (l.returned b now) (l.openAtStart.getD false)

/-! ### The part after the judgement -/

/-- The part after what a return of a lane to CLEAR means. -/
def State.judged (lane : Nat) (l : Lane) (r : Return) (openAtStart : Bool) (s : State) : State :=
  match r with
  | .nothing => s
  | .balk => s.putLane lane { l with counts := { l.counts with balks := bump l.counts.balks } }
  | .passage d => s.judgePassage lane d openAtStart

/-- The part in a beam event, the return to CLEAR judged. -/
def State.untilJudged (lane : Nat) (b : Beam) (s : State) : State :=
  (s.putLane lane ((s.lane lane).taken b s.clock.mono)).judged lane ((s.lane lane).taken b s.clock.mono)
    ((s.lane lane).returned b s.clock.mono) ((s.lane lane).openAtStart.getD false)

/-- A beam event, in its steps. -/
theorem State.beamEvent_eq (lane : Nat) (b : Beam) (s : State) : s.beamEvent lane b
    = ((s.untilJudged lane b).settleFlap lane).noteSaturation lane (s.lane lane).counts := by
  unfold State.beamEvent State.untilJudged State.judged Lane.taken Lane.returned
  cases h : (((s.lane lane).filtered b s.clock.mono).recognized b).2 <;> simp only [h]

/-- A permitted passage whose person has a record. -/
theorem permittedPassage_person {permit : Permit} {p : Person} (hp : s.person permit.person = some p) :
    s.permittedPassage lane d permit = State.appendMovement
      { sequence := s.tallySequence + 1, person := permit.person, lane, direction := d
        location := passageTarget d p.cls (s.lane lane).mode
        redundant := decide (p.location = passageTarget d p.cls (s.lane lane).mode)
        shipTime := if s.clock.running then some s.clock.shipTime else none }
      { (s.putLane lane { s.lane lane with permits := consume d (s.lane lane).permits }).changePerson permit.person
          (some { p with location := passageTarget d p.cls (s.lane lane).mode, gatePermit := none }) with
        tallySequence := s.tallySequence + 1 } := by
  simp only [State.permittedPassage, hp]

theorem permittedPassage_nobody {permit : Permit} (hp : s.person permit.person = none) :
    s.permittedPassage lane d permit = s.putLane lane { s.lane lane with permits := consume d (s.lane lane).permits } := by
  simp only [State.permittedPassage, hp]

/-- A permitted passage leaves of the lanes what the consuming of the permit does. -/
theorem permittedPassage_lanes (permit : Permit) :
    (s.permittedPassage lane d permit).lanes
      = (s.putLane lane { s.lane lane with permits := consume d (s.lane lane).permits }).lanes := by
  cases hp : s.person permit.person with
  | none => rw [permittedPassage_nobody hp]
  | some p =>
    rw [permittedPassage_person hp]
    rfl

section Judged

variable (hl : s.lane lane = l)
include hl

theorem judgePassage_permitted {permit : Permit} (hf : l.permits.find? (fun p => decide (p.direction = d)) = some permit) :
    s.judgePassage lane d o = (s.putLane lane { l with counts := l.counts.passage d }).permittedPassage lane d permit := by
  simp only [State.judgePassage, hl, hf]

/-- The member whose event a passage without a permit raises, with its detail. -/
def strayEvent (lane : Nat) (l : Lane) (d : Direction) (openAtStart : Bool) : MemberId × Nat :=
  if openAtStart then if l.permits.isEmpty then (MemberId.late lane, directionCode d) else (MemberId.contrary lane, directionCode d)
  else (MemberId.laneForced, lane)

theorem judgePassage_stray (hf : l.permits.find? (fun p => decide (p.direction = d)) = none) :
    s.judgePassage lane d o = (s.putLane lane (l.passed d o)).raise (strayEvent lane l d o).1 (strayEvent lane l d o).2 := by
  simp only [State.judgePassage, Lane.passed, strayEvent, hl, hf, Option.isSome_none, Bool.false_eq_true, if_false]
  split
  · split <;> rfl
  · rfl

/-- What a judgement leaves in the lanes. -/
theorem judged_lanes (hw : s.lanes.wf Lane.reset) (r : Return) : (s.judged lane l r o).lanes.wf Lane.reset
    ∧ ∀ j, (s.judged lane l r o).lane j = if j = lane then l.judged r o else s.lane j := by
  have once : ∀ v, (s.putLane lane v).lanes.wf Lane.reset ∧ ∀ j, (s.putLane lane v).lane j = if j = lane then v else s.lane j :=
    fun v => ⟨wf_putLane hw lane v, lane_putLane hw lane v⟩
  cases r with
  | nothing =>
    refine ⟨hw, fun j => ?_⟩
    split
    · next hj => rw [hj]; exact hl
    · rfl
  | balk => exact once _
  | passage d =>
    simp only [State.judged, Lane.judged]
    cases hf : l.permits.find? fun p => decide (p.direction = d) with
    | none =>
      rw [judgePassage_stray hl hf]
      exact once _
    | some permit =>
      obtain ⟨hwf, hlane⟩ := once { l with counts := l.counts.passage d }
      have lanes := permittedPassage_lanes (s := s.putLane lane { l with counts := l.counts.passage d }) (lane := lane) (d := d) permit
      rw [hlane, if_pos rfl] at lanes
      rw [judgePassage_permitted hl hf]
      refine ⟨lanes ▸ wf_putLane hwf _ _, fun j => ?_⟩
      refine (congrArg (Table.read Lane.reset · j) lanes).trans ((lane_putLane hwf lane _ j).trans ?_)
      rw [hlane]
      simp only [Lane.passed, hf, Option.isSome_some, if_true]
      split <;> rfl

end Judged

/-- What the judging leaves in the lanes. -/
theorem untilJudged_lanes (hw : s.lanes.wf Lane.reset) (b : Beam) : (s.untilJudged lane b).lanes.wf Lane.reset
    ∧ ∀ j, (s.untilJudged lane b).lane j = if j = lane then (s.lane lane).untilJudged b s.clock.mono else s.lane j := by
  have put := lane_putLane hw lane ((s.lane lane).taken b s.clock.mono)
  obtain ⟨hjw, hj⟩ := judged_lanes ((put lane).trans (if_pos rfl)) (o := (s.lane lane).openAtStart.getD false)
    (wf_putLane hw lane _) ((s.lane lane).returned b s.clock.mono)
  refine ⟨hjw, fun j => (hj j).trans ?_⟩
  rw [put]
  split <;> rfl

/-- What a beam event leaves in the lanes. -/
theorem beamEvent_lane (hw : s.lanes.wf Lane.reset) (b : Beam) (j : Nat) : (s.beamEvent lane b).lane j = if j = lane then
    { ((s.lane lane).untilJudged b s.clock.mono).settleFlap with
      saturationReported := ((s.beamEvent lane b).lane lane).saturationReported } else s.lane j := by
  obtain ⟨hjw, hj⟩ := untilJudged_lanes hw b (lane := lane)
  have settled : ∀ k, ((s.untilJudged lane b).settleFlap lane).lane k = if k = lane
      then ((s.lane lane).untilJudged b s.clock.mono).settleFlap else s.lane k := fun k => by
    refine (lane_putLane hjw lane _ k).trans ?_
    rw [hj, hj, if_pos rfl]
    split <;> rfl
  have noted := State.noteSaturation_lane (u := (s.untilJudged lane b).settleFlap lane) (wf_putLane hjw lane _) lane
    (s.lane lane).counts
  rw [← State.beamEvent_eq] at noted
  split
  · next h =>
    subst h
    have own := (noted j).trans (if_pos rfl)
    rw [settled, if_pos rfl] at own
    exact Lane.eq_of_reported own
  · next h =>
    rw [noted, if_neg h, settled, if_neg h]

/-- What the judging leaves of its lane. -/
theorem Lane.untilJudged_eq (l : Lane) (b : Beam) (now : Nat) : l.untilJudged b now
    = { l.putBeam b ((l.beam b).turned now l.setup.blockTime) with
        blocked := (l.taken b now).blocked, recognizer := (l.taken b now).recognizer, openAtStart := (l.taken b now).openAtStart
        occupiedSince := (l.filtered b now).occupiedSince
        counts := (l.untilJudged b now).counts, permits := (l.untilJudged b now).permits } := by
  have taken : l.taken b now = { l.filtered b now with
      blocked := (l.taken b now).blocked, recognizer := (l.taken b now).recognizer
      openAtStart := (l.taken b now).openAtStart } := Lane.recognized_eq _ b
  have judged : l.untilJudged b now = { l.taken b now with
      counts := (l.untilJudged b now).counts, permits := (l.untilJudged b now).permits } := Lane.judged_eq _ _ _
  generalize l.untilJudged b now = m at *
  generalize l.taken b now = k at *
  rw [judged, taken, Lane.filtered_eq]

theorem Lane.putBeam_rest (l : Lane) (b : Beam) (v : BeamState) : (l.putBeam b v).mode = l.mode ∧ (l.putBeam b v).setup = l.setup
    ∧ (l.putBeam b v).flapOpen = l.flapOpen ∧ (l.putBeam b v).saturationReported = l.saturationReported := by
  cases b <;> exact ⟨rfl, rfl, rfl, rfl⟩

/-- The saturation-reported flag is left to the noting. -/
theorem Lane.untilJudged_reported (l : Lane) (b : Beam) (now : Nat) :
    (l.untilJudged b now).saturationReported = l.saturationReported := by
  obtain ⟨-, -, -, h⟩ := Lane.putBeam_rest l b ((l.beam b).turned now l.setup.blockTime)
  rw [Lane.untilJudged_eq]
  exact h

/-! ### The notices and the reach -/

/-- The notices of a beam event: those of the passage it completes, and COUNTER_SATURATED where it is due. -/
theorem beamEvent_noted {es : List (MemberId × Nat)} (hw : s.lanes.wf Lane.reset) (hm : s.notices.members.wf Member.reset)
    (hr : RaisedAll s (s.untilJudged lane b) es) (ha : (s.untilJudged lane b).host.asleep = s.host.asleep)
    (ho : ∀ e ∈ es, e.1.key ≠ (MemberId.counterSaturated lane).key) : SaturationNoted s (s.beamEvent lane b) lane es := by
  obtain ⟨hjw, hj⟩ := untilJudged_lanes hw b (lane := lane)
  have settled : ((s.untilJudged lane b).settleFlap lane).lane lane = ((s.untilJudged lane b).lane lane).settleFlap :=
    (lane_putLane hjw lane _ lane).trans (if_pos rfl)
  rw [hj, if_pos rfl] at settled
  rw [State.beamEvent_eq]
  refine SaturationNoted.of_note (wf_putLane hjw lane _) hm ?_ hr ha ho
  exact (congrArg Lane.saturationReported settled).trans (Lane.untilJudged_reported _ b _)

/-- The rest of a beam event, once the return is judged. -/
theorem beamEvent_reaches {a : List Part} (h : Reaches a s (s.untilJudged lane b)) :
    Reaches (a ++ [.lanes, .freeIndex, .notices, .wake]) s (s.beamEvent lane b) := by
  rw [State.beamEvent_eq]
  exact ((h.trans (Reaches.putLane _ lane _)).trans (Reaches.noteSaturation _ lane _)).mono fun p hp => by
    simp only [List.mem_append, List.mem_cons, List.not_mem_nil, or_false] at hp ⊢
    tauto

/-- A return that completes no passage reaches the lane alone. -/
theorem untilJudged_quiet (h : ∀ d, (s.lane lane).returned b s.clock.mono ≠ .passage d) :
    Reaches [.lanes] s (s.untilJudged lane b) ∧ Silent s (s.untilJudged lane b)
      ∧ (s.untilJudged lane b).host.asleep = s.host.asleep := by
  unfold State.untilJudged State.judged
  split
  · exact ⟨Reaches.putLane s lane _, ⟨rfl, rfl⟩, rfl⟩
  · exact ⟨(Reaches.putLane s lane _).then (Reaches.putLane _ lane _), ⟨rfl, rfl⟩, rfl⟩
  · next d hd => exact absurd hd (h d)

/-- A passage without a permit reaches the lane, and raises one member's event. -/
theorem untilJudged_stray (hw : s.lanes.wf Lane.reset) (hm : s.notices.members.wf Member.reset)
    (h : (s.lane lane).returned b s.clock.mono = .passage d)
    (hf : ((s.lane lane).taken b s.clock.mono).permits.find? (fun p => decide (p.direction = d)) = none) :
    Reaches [.lanes, .notices, .wake] s (s.untilJudged lane b)
      ∧ RaisedAll s (s.untilJudged lane b)
          [strayEvent lane ((s.lane lane).taken b s.clock.mono) d ((s.lane lane).openAtStart.getD false)]
      ∧ (s.untilJudged lane b).host.asleep = s.host.asleep := by
  have put := (lane_putLane hw lane ((s.lane lane).taken b s.clock.mono) lane).trans (if_pos rfl)
  have stray := judgePassage_stray put (o := (s.lane lane).openAtStart.getD false) hf
  unfold State.untilJudged State.judged
  simp only [h]
  rw [stray]
  generalize strayEvent lane _ d _ = e
  refine ⟨((Reaches.putLane s lane _).then (Reaches.putLane _ lane _)).trans (Reaches.raise _ _ _), ?_, rfl⟩
  exact RaisedAll.raiseWhen (s := s) (es := []) (c := true) (.of_silent ⟨rfl, rfl⟩) hm rfl _ nofun

/-! ### A permitted passage -/

theorem appendMovement_raises {es : List (MemberId × Nat)} (m : Movement) (hm : s.notices.members.wf Member.reset)
    (hr : RaisedAll s u es) (ha : u.host.asleep = s.host.asleep)
    (hw : ∀ e ∈ es, e.1.key ≠ MemberId.movementWaiting.key) (hl : ∀ e ∈ es, e.1.key ≠ MemberId.movementLogFull.key) :
    RaisedAll s (u.appendMovement m) (es ++ eventIf (u.movementLog = []) MemberId.movementWaiting m.person
      ++ eventIf (255 ≤ u.movementLog.length) MemberId.movementLogFull 256) := by
  have full : (decide (256 ≤ u.movementLog.length) || u.movementLog.length == 255) = true ↔ 255 ≤ u.movementLog.length := by
    simp only [Bool.or_eq_true, decide_eq_true_eq, beq_iff_eq]
    omega
  have empty : (u.movementLog.length == 0) = true ↔ u.movementLog = [] := by
    rw [beq_iff_eq, List.length_eq_zero_iff]
  rw [← eventIf_congr full, ← eventIf_congr empty]
  have logged : RaisedAll s { u with
      movementLog := if decide (256 ≤ u.movementLog.length) then u.movementLog else u.movementLog ++ [m]
      discardCount := if decide (256 ≤ u.movementLog.length) then min (u.discardCount + 1) 255 else u.discardCount } es := hr
  refine (logged.raiseWhen hm ha _ hw).raiseWhen hm ha _ fun e he => ?_
  rcases List.mem_append.mp he with he | he
  · exact hl e he
  · rw [(mem_eventIf.mp he).2]
    exact (by decide : MemberId.movementWaiting.key ≠ MemberId.movementLogFull.key)

theorem Muster.move_same (m : Muster) (x : MusterState) : m.move x x = m := if_pos rfl

/-- What a permitted passage leaves, its person having a record. -/
structure Passed (s t : State) (permit : Permit) (p : Person) (target : Location) (movement : Movement) : Prop where
  person : ∀ j, t.person j = if j = permit.person then some { p with location := target, gatePermit := none } else s.person j
  sequence : t.tallySequence = s.tallySequence + 1
  log : t.movementLog = if 256 ≤ s.movementLog.length then s.movementLog else s.movementLog ++ [movement]
  discards : t.discardCount = if 256 ≤ s.movementLog.length then min (s.discardCount + 1) 255 else s.discardCount
  deadline : DeadlineHeard s t (p.location ≠ target)
  notices : RaisedAll s t (eventIf (GuestsCome s t (p.location ≠ target)) MemberId.allGuestsAboard 0
    ++ eventIf (s.movementLog = []) MemberId.movementWaiting permit.person
    ++ eventIf (255 ≤ s.movementLog.length) MemberId.movementLogFull 256)
  store : t.store = s.store.markWhen (decide (p.location ≠ target)) (blockOf permit.person)
  asleep : t.host.asleep = s.host.asleep

/-- The move of a person at a passage, with its number and its record. -/
theorem passed_of_move {permit : Permit} {p : Person} (hs : s.Tidy) (hp : s.person permit.person = some p) (target : Location)
    (m : Movement) (hm : m.person = permit.person) : Passed s (State.appendMovement m
      { s.changePerson permit.person (some { p with location := target, gatePermit := none }) with
        tallySequence := s.tallySequence + 1 }) permit p target m := by
  have moved : placeOf (s.person permit.person) ≠ placeOf (some { p with location := target, gatePermit := none })
      ↔ p.location ≠ target := by
    simp only [hp, placeOf, ne_eq, Option.some.injEq, Prod.mk.injEq, true_and]
  have kept : retained (s.person permit.person) ≠ retained (some { p with location := target, gatePermit := none })
      ↔ p.location ≠ target := by
    simp [hp, retained]
  have unmoved : (s.changePerson permit.person (some { p with location := target, gatePermit := none })).muster = s.muster := by
    change s.muster.move (musterOf (s.person permit.person)) p.muster = s.muster
    rw [hp]
    exact Muster.move_same _ _
  have raised := State.changePerson_raised hs.members permit.person (some { p with location := target, gatePermit := none })
  have quiet : ¬ LastMustered s (s.changePerson permit.person (some { p with location := target, gatePermit := none })) := by
    rw [LastMustered, unmoved]
    omega
  have guests : GuestsCome s (s.changePerson permit.person (some { p with location := target, gatePermit := none }))
      (placeOf (s.person permit.person) ≠ placeOf (some { p with location := target, gatePermit := none }))
      ↔ GuestsCome s (s.changePerson permit.person (some { p with location := target, gatePermit := none }))
        (p.location ≠ target) := and_congr_left' moved
  rw [eventIf, if_neg quiet, List.nil_append, eventIf_congr guests] at raised
  constructor
  · exact fun j => State.person_changePerson hs.persons permit.person _ j
  · rfl
  · exact if_congr decide_eq_true_iff rfl rfl
  · exact if_congr decide_eq_true_iff rfl rfl
  · refine ⟨⟨rfl, rfl⟩, Bool.or_eq_true_iff.trans (or_congr_right ?_)⟩
    exact (State.guestsDue_iff _ _ _).trans guests
  · have appended := appendMovement_raises (s := s) (u := { s.changePerson permit.person
        (some { p with location := target, gatePermit := none }) with tallySequence := s.tallySequence + 1 }) m hs.members raised rfl
      (fun e he => by
        rw [(mem_eventIf.mp he).2]
        exact (by decide : MemberId.allGuestsAboard.key ≠ MemberId.movementWaiting.key))
      fun e he => by
        rw [(mem_eventIf.mp he).2]
        exact (by decide : MemberId.allGuestsAboard.key ≠ MemberId.movementLogFull.key)
    rw [hm] at appended
    exact appended
  · change s.store.markWhen (decide _) _ = _
    rw [decide_eq_decide.mpr kept]
  · rfl

/-- The lanes and the counts that a passage has changed before are no part of what it leaves. -/
theorem permittedPassage_passed {permit : Permit} {p : Person} (hs : s.Tidy) (hp : s.person permit.person = some p) :
    Passed s (s.permittedPassage lane d permit) permit p (passageTarget d p.cls (s.lane lane).mode)
      { sequence := s.tallySequence + 1, person := permit.person, lane, direction := d
        location := passageTarget d p.cls (s.lane lane).mode
        redundant := decide (p.location = passageTarget d p.cls (s.lane lane).mode)
        shipTime := if s.clock.running then some s.clock.shipTime else none } := by
  have h := passed_of_move (s := s.putLane lane { s.lane lane with permits := consume d (s.lane lane).permits })
    { hs with lanes := wf_putLane hs.lanes _ _ } hp (passageTarget d p.cls (s.lane lane).mode)
    { sequence := s.tallySequence + 1, person := permit.person, lane, direction := d
      location := passageTarget d p.cls (s.lane lane).mode
      redundant := decide (p.location = passageTarget d p.cls (s.lane lane).mode)
      shipTime := if s.clock.running then some s.clock.shipTime else none } rfl
  rw [permittedPassage_person hp]
  exact ⟨h.person, h.sequence, h.log, h.discards, ⟨h.deadline.deadline, h.deadline.reported⟩, h.notices, h.store, h.asleep⟩

end Sys2Proof.Machine
end

section
/-!
PROOFS. The obligations on beam events: the recognizer and the counts, permitted and other passages, and the levels of the beam
inputs (R41 to R48, R52 to R55, R59, R62, R66).
-/

namespace Sys2Proof.Machine

variable {s t u : State} {lane : Nat} {b other : Beam} {l : Lane} {now : Nat} {d : Direction}

/-! ### The recognizer's part -/

theorem Lane.filtered_rest (l : Lane) (b : Beam) (now : Nat) : (l.filtered b now).recognizer = l.recognizer
    ∧ (l.filtered b now).blocked = l.blocked ∧ (l.filtered b now).flapOpen = l.flapOpen
    ∧ (l.filtered b now).openAtStart = l.openAtStart := by
  cases b <;> exact ⟨rfl, rfl, rfl, rfl⟩

/-- What the return of a beam event means. -/
theorem Lane.returned_eq (l : Lane) (b : Beam) (now : Nat) : l.returned b now
    = if l.blocked = false ∧ recognize l.recognizer b (!(l.beam b).broken) = .clear then returnFrom l.recognizer else .nothing := by
  obtain ⟨hr, hb, -, -⟩ := l.filtered_rest b now
  unfold Lane.returned
  cases h : l.blocked with
  | true =>
    rw [Lane.recognized_blocked (hb.trans h)]
    split <;> rfl
  | false =>
    rw [Lane.recognized_free (hb.trans h), hr, Lane.filtered_beam]
    simp only [true_and]
    rfl

/-- A lane that is not blocked. -/
theorem Lane.taken_free (h : l.blocked = false) (b : Beam) (now : Nat) : (l.taken b now).blocked = false
    ∧ (l.taken b now).recognizer = recognize l.recognizer b (!(l.beam b).broken)
    ∧ (l.taken b now).openAtStart = if l.recognizer = .clear then
        (if recognize l.recognizer b (!(l.beam b).broken) = .clear then none else some l.flapOpen)
        else if recognize l.recognizer b (!(l.beam b).broken) = .clear then none else l.openAtStart := by
  obtain ⟨hr, hb, hf, ho⟩ := l.filtered_rest b now
  unfold Lane.taken
  rw [Lane.recognized_free (hb.trans h), hr, hf, ho, Lane.filtered_beam]
  exact ⟨hb.trans h, rfl, rfl⟩

/-- A blocked lane stays so while a beam is broken, and else is so no more. -/
theorem Lane.taken_blocked (h : l.blocked = true) (hne : b ≠ other) (now : Nat) : ((l.taken b now).blocked, (l.taken b now).recognizer,
    (l.taken b now).openAtStart) = if (!(l.beam b).broken || (l.beam other).broken) = true then (true, l.recognizer, l.openAtStart)
      else (false, .clear, none) := by
  obtain ⟨hr, hb, -, ho⟩ := l.filtered_rest b now
  unfold Lane.taken
  rw [Lane.recognized_blocked (hb.trans h), Lane.anyBroken hne, Lane.filtered_beam, Lane.filtered_beam_other hne]
  by_cases hx : (((l.beam b).turned now l.setup.blockTime).broken || (l.beam other).broken) = true
  · rw [if_pos hx, if_pos (show (!(l.beam b).broken || (l.beam other).broken) = true from hx), hb, hr, ho, h]
  · rw [if_neg hx, if_neg (show ¬ (!(l.beam b).broken || (l.beam other).broken) = true from hx)]

theorem Lane.taken_counts (l : Lane) (b : Beam) (now : Nat) :
    (l.taken b now).counts = { l.counts with occupancy := (l.filtered b now).counts.occupancy }
      ∧ (l.taken b now).permits = l.permits ∧ (l.taken b now).mode = l.mode := by
  have hr := Lane.recognized_eq (l.filtered b now) b
  have hf := Lane.filtered_eq l b now
  obtain ⟨hm, -, -, -⟩ := l.putBeam_rest b ((l.beam b).turned now l.setup.blockTime)
  refine ⟨(congrArg Lane.counts hr).trans (congrArg Lane.counts hf), ?_, (congrArg Lane.mode hr).trans ((congrArg Lane.mode hf).trans hm)⟩
  exact (Lane.recognized_permits _ b).trans (Lane.filtered_permits l b now)

/-- The judged lane, field by field. -/
theorem Lane.untilJudged_rest (l : Lane) (b : Beam) (now : Nat) :
    (l.untilJudged b now).mode = l.mode ∧ (l.untilJudged b now).setup = l.setup ∧ (l.untilJudged b now).flapOpen = l.flapOpen
      ∧ (l.untilJudged b now).blocked = (l.taken b now).blocked ∧ (l.untilJudged b now).recognizer = (l.taken b now).recognizer
      ∧ (l.untilJudged b now).openAtStart = (l.taken b now).openAtStart
      ∧ (l.untilJudged b now).occupiedSince = (l.filtered b now).occupiedSince
      ∧ (l.untilJudged b now).beam b = (l.beam b).turned now l.setup.blockTime
      ∧ ∀ other, b ≠ other → (l.untilJudged b now).beam other = l.beam other := by
  obtain ⟨hm, hs, hf, -⟩ := l.putBeam_rest b ((l.beam b).turned now l.setup.blockTime)
  rw [Lane.untilJudged_eq]
  exact ⟨hm, hs, hf, rfl, rfl, rfl, rfl, Lane.beam_putBeam l b _, fun _ h => Lane.beam_putBeam_other h l _⟩

/-- The occupancy is the filter's affair. -/
theorem Lane.untilJudged_occupancy (l : Lane) (b : Beam) (now : Nat) :
    (l.untilJudged b now).counts.occupancy = (l.filtered b now).counts.occupancy := by
  have taken := congrArg LaneCounts.occupancy (l.taken_counts b now).1
  unfold Lane.untilJudged Lane.judged
  split
  · exact taken
  · exact taken
  · exact (Lane.passed_counts _ _ _).2.2.trans taken

/-! ### The event -/

theorem exec_beamEvent {due : Nat} (hl : lane < 4) (hb : ((s.lane lane).beam b).filterEnd = some due) :
    exec (.beamEvent lane b) s = event ((s.advanceTo due).beamEvent lane b) := by
  change execBeamEvent lane b s = _
  simp only [execBeamEvent, if_neg (Nat.not_le.mpr hl), hb]

theorem State.Tidy.advanceTo (h : s.Tidy) (due : Nat) : (s.advanceTo due).Tidy := { h with }

/-- The part after the judging, but for the lane, the notices and the free values, is that of the event. -/
theorem beamEvent_rest (lane : Nat) (b : Beam) (s : State) :
    Reaches [.lanes, .freeIndex, .notices, .wake] (s.untilJudged lane b) (s.beamEvent lane b) := by
  rw [State.beamEvent_eq]
  exact ((Reaches.putLane _ lane _).trans (Reaches.noteSaturation _ lane _)).mono (by decide)

/-- The noting of saturation as claims read it: time is no part of it. -/
theorem SaturationNoted.ofAdvanced {due : Nat} {es : List (MemberId × Nat)} (h : SaturationNoted (s.advanceTo due) u lane es) :
    SaturationNoted s u.writerTurn lane es := ⟨h.flag, h.raised, h.silent⟩

theorem beam_of_settled (l : Lane) (b : Beam) (x : Bool) :
    ({ l.settleFlap with saturationReported := x } : Lane).beam b = l.beam b := by cases b <;> rfl

theorem untilJudged_permitted {permit : Permit} (hw : s.lanes.wf Lane.reset) (h : (s.lane lane).returned b s.clock.mono = .passage d)
    (hf : (s.lane lane).permits.find? (fun q => decide (q.direction = d)) = some permit) : s.untilJudged lane b
      = ((s.putLane lane ((s.lane lane).taken b s.clock.mono)).putLane lane { (s.lane lane).taken b s.clock.mono with
          counts := ((s.lane lane).taken b s.clock.mono).counts.passage d }).permittedPassage lane d permit := by
  obtain ⟨-, hq, -⟩ := (s.lane lane).taken_counts b s.clock.mono
  have put := (lane_putLane hw lane ((s.lane lane).taken b s.clock.mono) lane).trans (if_pos rfl)
  unfold State.untilJudged State.judged
  simp only [h]
  exact judgePassage_permitted put (hq.symm ▸ hf)

/-- A permitted passage, its person having a record. -/
theorem untilJudged_passed {permit : Permit} {p : Person} (hs : s.Tidy) (h : (s.lane lane).returned b s.clock.mono = .passage d)
    (hf : (s.lane lane).permits.find? (fun q => decide (q.direction = d)) = some permit) (hp : s.person permit.person = some p) :
    Passed s (s.untilJudged lane b) permit p (passageTarget d p.cls (s.lane lane).mode)
      { sequence := s.tallySequence + 1, person := permit.person, lane, direction := d
        location := passageTarget d p.cls (s.lane lane).mode
        redundant := decide (p.location = passageTarget d p.cls (s.lane lane).mode)
        shipTime := if s.clock.running then some s.clock.shipTime else none } := by
  obtain ⟨-, -, hm⟩ := (s.lane lane).taken_counts b s.clock.mono
  have mode := (congrArg Lane.mode ((lane_putLane (wf_putLane hs.lanes lane ((s.lane lane).taken b s.clock.mono)) lane
    { (s.lane lane).taken b s.clock.mono with counts := ((s.lane lane).taken b s.clock.mono).counts.passage d } lane).trans
      (if_pos rfl))).trans hm
  rw [untilJudged_permitted hs.lanes h hf, ← mode]
  have passed := permittedPassage_passed (lane := lane) (d := d) (s := (s.putLane lane ((s.lane lane).taken b s.clock.mono)).putLane lane
    { (s.lane lane).taken b s.clock.mono with counts := ((s.lane lane).taken b s.clock.mono).counts.passage d })
    { hs with lanes := wf_putLane (wf_putLane hs.lanes _ _) _ _ } hp
  exact ⟨passed.person, passed.sequence, passed.log, passed.discards, ⟨passed.deadline.deadline, passed.deadline.reported⟩,
    passed.notices, passed.store, passed.asleep⟩

/-- The notices of a judging: none but a passage's, and COUNTER_SATURATED is not among them. -/
theorem untilJudged_raises (hs : s.Tidy) (hl : lane < 4) (b : Beam) : ∃ es, RaisedAll s (s.untilJudged lane b) es
    ∧ (s.untilJudged lane b).host.asleep = s.host.asleep ∧ (∀ e ∈ es, e.1.key ≠ (MemberId.counterSaturated lane).key)
    ∧ ((∀ d, (s.lane lane).returned b s.clock.mono ≠ .passage d) → es = []) := by
  obtain ⟨-, hq, -⟩ := (s.lane lane).taken_counts b s.clock.mono
  by_cases h : ∃ d, (s.lane lane).returned b s.clock.mono = .passage d
  · obtain ⟨d, h⟩ := h
    cases hf : (s.lane lane).permits.find? fun q => decide (q.direction = d) with
    | none =>
      obtain ⟨-, hr, ha⟩ := untilJudged_stray hs.lanes hs.members h (hq.symm ▸ hf)
      refine ⟨_, hr, ha, fun e he => ?_, fun hn => absurd h (hn d)⟩
      rw [List.mem_singleton] at he
      rw [he, strayEvent]
      split
      · split <;> simp [MemberId.key, MemberId.late, MemberId.contrary, MemberId.counterSaturated]
      · simp only [MemberId.key, MemberId.laneForced, MemberId.counterSaturated]
        omega
    | some permit =>
      cases hp : s.person permit.person with
      | none =>
        refine ⟨[], ?_, ?_, nofun, fun hn => absurd h (hn d)⟩ <;> rw [untilJudged_permitted hs.lanes h hf, permittedPassage_nobody]
        · exact .of_silent ⟨rfl, rfl⟩
        · exact hp
        · rfl
        · exact hp
      | some p =>
        have passed := untilJudged_passed hs h hf hp
        refine ⟨_, passed.notices, passed.asleep, fun e he => ?_, fun hn => absurd h (hn d)⟩
        simp only [List.mem_append, mem_eventIf] at he
        rcases he with (⟨-, rfl⟩ | ⟨-, rfl⟩) | ⟨-, rfl⟩ <;>
          simp only [MemberId.key, MemberId.allGuestsAboard, MemberId.movementWaiting, MemberId.movementLogFull,
            MemberId.counterSaturated] <;> omega
  · rw [not_exists] at h
    obtain ⟨-, hsil, ha⟩ := untilJudged_quiet h
    exact ⟨[], .of_silent hsil, ha, nofun, fun _ => rfl⟩

/-- Settles O33: the transitions by evaluation, and the note as the recognizer's part makes it. -/
theorem recognizerTransitions : Obligations.RecognizerTransitions := by
  refine ⟨by decide, fun s t lane b due hs hl hb hf hx => ?_⟩
  rw [exec_beamEvent hl hf] at hx
  obtain rfl := Host.Outcome.next.inj hx
  have own := (beamEvent_lane (s := s.advanceTo due) hs.lanes (lane := lane) b lane).trans (if_pos rfl)
  obtain ⟨-, -, -, -, hr, ho, -⟩ := (s.lane lane).untilJudged_rest b (s.advanceTo due).clock.mono
  obtain ⟨-, hrec, hopen⟩ := Lane.taken_free hb b (s.advanceTo due).clock.mono
  have recognizer : (((s.advanceTo due).beamEvent lane b).writerTurn.lane lane).recognizer
      = recognize (s.lane lane).recognizer b (!((s.lane lane).beam b).broken) :=
    (congrArg Lane.recognizer own).trans (hr.trans hrec)
  have note : (((s.advanceTo due).beamEvent lane b).writerTurn.lane lane).openAtStart = _ :=
    (congrArg Lane.openAtStart own).trans (ho.trans hopen)
  rw [recognizer, note]
  refine ⟨fun h => ?_, fun h => ?_⟩
  · simp only [h, if_true, ite_self]
  · simp only [if_neg h]

/-- The counts and the queue, by what the return means. -/
theorem Lane.untilJudged_nothing (h : l.returned b now = .nothing) :
    (l.untilJudged b now).counts = { l.counts with occupancy := (l.untilJudged b now).counts.occupancy }
      ∧ (l.untilJudged b now).permits = l.permits := by
  obtain ⟨hc, hp, -⟩ := l.taken_counts b now
  rw [Lane.untilJudged_occupancy]
  simp only [Lane.untilJudged, h, Lane.judged]
  exact ⟨hc, hp⟩

theorem Lane.untilJudged_balk (h : l.returned b now = .balk) : (l.untilJudged b now).counts = { l.counts with
      balks := bump l.counts.balks, occupancy := (l.untilJudged b now).counts.occupancy }
    ∧ (l.untilJudged b now).permits = l.permits := by
  obtain ⟨hc, hp, -⟩ := l.taken_counts b now
  rw [Lane.untilJudged_occupancy]
  simp only [Lane.untilJudged, h, Lane.judged, hc, hp]
  exact ⟨trivial, trivial⟩

theorem Lane.untilJudged_passage (h : l.returned b now = .passage d) :
    (l.untilJudged b now).counts.balks = l.counts.balks ∧ (l.untilJudged b now).counts.noShows = l.counts.noShows := by
  obtain ⟨hc, -, -⟩ := l.taken_counts b now
  obtain ⟨hb, hn, -⟩ := (l.taken b now).passed_counts d (l.openAtStart.getD false)
  simp only [Lane.untilJudged, h, Lane.judged]
  exact ⟨hb.trans (by rw [hc]), hn.trans (by rw [hc])⟩

theorem Lane.settleFlap_shut (l : Lane) : l.permits = [] ∧ l.recognizer = .clear ∧ l.blocked = false →
    l.settleFlap.flapOpen = false := by
  rintro ⟨hp, hr, hb⟩
  simp [Lane.settleFlap, hp, hr, hb]

theorem Lane.settleFlap_stands (h : ¬ (l.permits = [] ∧ l.recognizer = .clear ∧ l.blocked = false)) :
    l.settleFlap.flapOpen = l.flapOpen := by
  have : (l.permits.isEmpty && l.recognizer == .clear && !l.blocked) = false := by
    rw [← Bool.not_eq_true, Bool.and_eq_true, Bool.and_eq_true, List.isEmpty_iff, beq_iff_eq, Bool.not_eq_true', and_assoc]
    exact h
  rw [Lane.settleFlap, this, Bool.not_false, Bool.and_true]

/-- Settles O32: the filter's part, the recognizer's, the judgement of its return, the flap and the noting, each read off the
lane that the event leaves. -/
theorem beamEventsDriveTheRecognizer : Obligations.BeamEventsDriveTheRecognizer := by
  intro s lane b other due hs hl hne hf old broken now returns
  obtain ⟨es, hr, ha, hk, hq⟩ := untilJudged_raises (hs.advanceTo due) hl b
  obtain ⟨x, own⟩ : ∃ x, ((s.advanceTo due).beamEvent lane b).writerTurn.lane lane
      = { (old.untilJudged b now).settleFlap with saturationReported := x } :=
    ⟨_, (beamEvent_lane (s := s.advanceTo due) hs.lanes (lane := lane) b lane).trans (if_pos rfl)⟩
  have others : ∀ j, j ≠ lane → ((s.advanceTo due).beamEvent lane b).writerTurn.lane j = s.lane j := fun j hj =>
    (beamEvent_lane (s := s.advanceTo due) hs.lanes (lane := lane) b j).trans (if_neg hj)
  have noted := (beamEvent_noted (lane := lane) (b := b) (s := s.advanceTo due) hs.lanes hs.members hr ha hk).ofAdvanced
  have reach := Reaches.beamEvent (s.advanceTo due) lane b
  have quiet : (∀ d, old.returned b now ≠ .passage d) →
      Reaches [.clock, .lanes, .notices, .wake, .freeIndex] s ((s.advanceTo due).beamEvent lane b) := fun h =>
    ((Reaches.advanceTo s due).trans (beamEvent_reaches (untilJudged_quiet (s := s.advanceTo due) h).1)).mono (by decide)
  obtain ⟨hmode, hset, hflap, hblocked, hrec, hopen, hsince, hbeam, hother⟩ := old.untilJudged_rest b now
  have hocc := old.untilJudged_occupancy b now
  have hret : old.returned b now = if returns then returnFrom old.recognizer else .nothing := old.returned_eq b now
  have hfil := Lane.filtered_occupied hne old now
  have nothing : ¬ returns ∨ old.recognizer = .clear ∨ old.recognizer = .crossingIn ∨ old.recognizer = .crossingOut →
      old.returned b now = .nothing := by
    intro h
    rw [hret]
    split
    · next hr => rcases h with h | h | h | h <;> first | exact absurd hr h | (rw [h]; rfl)
    · rfl
  have balk : returns ∧ (old.recognizer = .outer ∨ old.recognizer = .inner) → old.returned b now = .balk := by
    rintro ⟨h, hr | hr⟩ <;> rw [hret, if_pos h, hr] <;> rfl
  have passage : returns ∧ (old.recognizer = .leavingIn ∨ old.recognizer = .leavingOut) → ∃ d, old.returned b now = .passage d := by
    rintro ⟨h, hr | hr⟩ <;> rw [hret, if_pos h, hr]
    · exact ⟨_, rfl⟩
    · exact ⟨_, rfl⟩
  have free := fun h : old.blocked = false => Lane.taken_free h b now
  have blocked := fun h : old.blocked = true => Lane.taken_blocked h hne now
  have either : (!(old.beam b).broken || (old.beam other).broken) = true ↔ broken = true ∨ (old.beam other).broken = true := by
    rw [Bool.or_eq_true]
  have clear : broken = false → (old.beam other).broken = false → ¬ (!(old.beam b).broken || (old.beam other).broken) = true :=
    fun hb ho => by
      rw [either, hb, ho]
      decide
  refine ⟨_, es, exec_beamEvent hl hf, (reach .clock (by decide) : _), ?_⟩
  rw [own]
  refine ⟨(beam_of_settled _ b x).trans hbeam, (beam_of_settled _ other x).trans (hother other hne), hmode, hset, fun h => ?_,
    fun h hb => ?_, fun h hb ho => ?_, fun h => ?_, fun h => ?_, fun h => ?_, fun h => ?_, fun hb ho => ?_, noted, hk, ?_, ?_,
    fun h => ?_, others, (((Reaches.advanceTo s due).trans reach).mono (by decide)).turned⟩
  · obtain ⟨hfb, hfr, -⟩ := free h
    exact ⟨hblocked.trans hfb, hrec.trans hfr⟩
  · have kept := blocked h
    rw [if_pos (either.mpr hb), Prod.mk.injEq, Prod.mk.injEq] at kept
    exact ⟨hblocked.trans kept.1, hrec.trans kept.2.1, hopen.trans kept.2.2⟩
  · have ended := blocked h
    rw [if_neg (clear hb ho), Prod.mk.injEq, Prod.mk.injEq] at ended
    exact ⟨hblocked.trans ended.1, hrec.trans ended.2.1, hopen.trans ended.2.2⟩
  · exact (Lane.untilJudged_balk (balk h)).1
  · obtain ⟨d, hd⟩ := passage h
    exact Lane.untilJudged_passage hd
  · exact (Lane.untilJudged_nothing (nothing h)).1
  · rw [if_pos (either.mpr h), Prod.mk.injEq] at hfil
    exact ⟨hsince.trans hfil.1, hocc.trans hfil.2⟩
  · rw [if_neg (clear hb ho), Prod.mk.injEq] at hfil
    refine ⟨hsince.trans hfil.1, fun h => ?_, fun since h => ?_⟩ <;> refine (hocc.trans hfil.2).trans ?_ <;>
      simp only [Lane.occupancyAt, h]
    rfl
  · exact Lane.settleFlap_shut (old.untilJudged b now)
  · exact fun h => (Lane.settleFlap_stands (l := old.untilJudged b now) h).trans hflap
  · have still : old.returned b now = .nothing ∨ old.returned b now = .balk := by
      rw [hret]
      split
      · next hr =>
        rw [not_and, not_or] at h
        cases hrec : old.recognizer <;> first | exact .inl rfl | exact .inr rfl | exact absurd hrec (h hr).1 | exact absurd hrec (h hr).2
      · exact .inl rfl
    have none_passes : ∀ d, old.returned b now ≠ .passage d := by
      rcases still with h | h <;> rw [h] <;> nofun
    refine ⟨?_, hq none_passes, (quiet none_passes).turned⟩
    rcases still with h | h
    · exact (Lane.untilJudged_nothing h).2
    · exact (Lane.untilJudged_balk h).2

/-! ### Passages -/

/-- A return to CLEAR that completes a passage. -/
theorem Lane.returned_passage (hb : l.blocked = false) (hbr : (l.beam b).broken = true)
    (h : l.recognizer = .leavingIn ∧ b = .inner ∧ d = .inward ∨ l.recognizer = .leavingOut ∧ b = .outer ∧ d = .outward)
    (now : Nat) : l.returned b now = .passage d := by
  rw [Lane.returned_eq, hbr]
  rcases h with ⟨hr, rfl, rfl⟩ | ⟨hr, rfl, rfl⟩ <;> rw [hr, if_pos ⟨hb, rfl⟩] <;> rfl

/-- The judged lane of a permitted passage. -/
theorem Lane.untilJudged_permitted {permit : Permit} (h : l.returned b now = .passage d)
    (hf : l.permits.find? (fun q => decide (q.direction = d)) = some permit) :
    (l.untilJudged b now).permits = consume d l.permits
      ∧ (l.untilJudged b now).counts = (l.taken b now).counts.passage d := by
  obtain ⟨-, hp, -⟩ := l.taken_counts b now
  simp only [Lane.untilJudged, h, Lane.judged, Lane.passed, hp, hf, Option.isSome_some, if_true]
  exact ⟨trivial, trivial⟩

/-- The counts of the directions after a passage. -/
theorem LaneCounts.passage_eq (c : LaneCounts) (d : Direction) : c.passage d = { c with
    inbound := if d = .inward then min (c.inbound + 1) 65535 else c.inbound
    outbound := if d = .outward then min (c.outbound + 1) 65535 else c.outbound } := by cases d <;> rfl

theorem passageTarget_eq (d : Direction) (cls : PersonClass) (mode : LaneMode) : passageTarget d cls mode
    = if d = .inward then Location.aboard
      else if cls = .visitor ∨ (cls = .guest ∧ mode = .finalOut) then .departed else .ashore := by
  cases d <;> cases cls <;> simp [passageTarget]

/-- What the rest of a beam event leaves of a permitted passage. -/
theorem Passed.after {permit : Permit} {p : Person} {target : Location} {m : Movement} (h : Passed s u permit p target m)
    (hr : Reaches [.lanes, .freeIndex, .notices, .wake] u t) :
    (∀ j, t.person j = if j = permit.person then some { p with location := target, gatePermit := none } else s.person j)
      ∧ t.tallySequence = s.tallySequence + 1
      ∧ t.movementLog = (if 256 ≤ s.movementLog.length then s.movementLog else s.movementLog ++ [m])
      ∧ t.discardCount = (if 256 ≤ s.movementLog.length then min (s.discardCount + 1) 255 else s.discardCount)
      ∧ DeadlineHeard s t (p.location ≠ target)
      ∧ (GuestsCome s u (p.location ≠ target) ↔ GuestsCome s t (p.location ≠ target))
      ∧ t.store = s.store.markWhen (decide (p.location ≠ target)) (blockOf permit.person) := by
  have persons : t.persons = u.persons := hr .persons (by decide)
  obtain ⟨tally, sequence⟩ : t.tally = u.tally ∧ t.tallySequence = u.tallySequence := hr .tally (by decide)
  obtain ⟨log, discards⟩ : t.movementLog = u.movementLog ∧ t.discardCount = u.discardCount := hr .movements (by decide)
  obtain ⟨deadline, arrived, reported⟩ : t.deadline = u.deadline ∧ t.deadlineArrived = u.deadlineArrived
    ∧ t.guestsReported = u.guestsReported := hr .deadline (by decide)
  have store : t.store = u.store := hr .store (by decide)
  have guests : GuestsCome s u (p.location ≠ target) ↔ GuestsCome s t (p.location ≠ target) := by
    simp only [GuestsCome, State.tallyCount, tally]
  obtain ⟨hd, ha⟩ := h.deadline.deadline
  refine ⟨fun j => (congrArg (Table.read none · j) persons).trans (h.person j), sequence.trans h.sequence, log.trans h.log,
    discards.trans h.discards, ⟨⟨deadline.trans hd, arrived.trans ha⟩, ?_⟩, guests, store.trans h.store⟩
  rw [reported, h.deadline.reported, guests]

/-- Settles O34: the permit is consumed, and the move is followed. -/
theorem permittedPassagesMoveThePerson : Obligations.PermittedPassagesMoveThePerson := by
  intro s lane b d due permit p hs hl hf hb hbr hdir hfind hp target movement
  have htarget : passageTarget d p.cls (s.lane lane).mode = target := passageTarget_eq _ _ _
  have hret := Lane.returned_passage hb hbr hdir (s.advanceTo due).clock.mono
  have passed := untilJudged_passed (s := s.advanceTo due) (hs.advanceTo due) hret hfind hp
  obtain ⟨x, own⟩ : ∃ x, ((s.advanceTo due).beamEvent lane b).writerTurn.lane lane
      = { ((s.lane lane).untilJudged b (s.advanceTo due).clock.mono).settleFlap with saturationReported := x } :=
    ⟨_, (beamEvent_lane (s := s.advanceTo due) hs.lanes (lane := lane) b lane).trans (if_pos rfl)⟩
  obtain ⟨hqueue, hcounts⟩ := Lane.untilJudged_permitted hret hfind
  obtain ⟨hc, -, -⟩ := (s.lane lane).taken_counts b (s.advanceTo due).clock.mono
  rw [LaneCounts.passage_eq, hc] at hcounts
  have keys : ∀ e ∈ eventIf (GuestsCome (s.advanceTo due) ((s.advanceTo due).untilJudged lane b)
        (p.location ≠ passageTarget d p.cls (s.lane lane).mode)) MemberId.allGuestsAboard 0
      ++ eventIf ((s.advanceTo due).movementLog = []) MemberId.movementWaiting permit.person
      ++ eventIf (255 ≤ (s.advanceTo due).movementLog.length) MemberId.movementLogFull 256,
      e.1.key ≠ (MemberId.counterSaturated lane).key := fun e he => by
    simp only [List.mem_append, mem_eventIf] at he
    rcases he with (⟨-, rfl⟩ | ⟨-, rfl⟩) | ⟨-, rfl⟩ <;>
      simp only [MemberId.key, MemberId.allGuestsAboard, MemberId.movementWaiting, MemberId.movementLogFull,
        MemberId.counterSaturated] <;> omega
  have noted := (beamEvent_noted (lane := lane) (b := b) (s := s.advanceTo due) hs.lanes hs.members passed.notices passed.asleep
    keys).ofAdvanced
  obtain ⟨person, sequence, log, discards, deadline, guests, store⟩ := passed.after (beamEvent_rest lane b (s.advanceTo due))
  rw [eventIf_congr guests] at noted
  have htarget' : passageTarget d p.cls ((s.advanceTo due).lane lane).mode = target := htarget
  rw [htarget'] at noted person log deadline store
  refine ⟨_, exec_beamEvent hl hf, (person _).trans (if_pos rfl), fun j hj => (person j).trans (if_neg hj), ?_, sequence,
    fun h => ⟨log.trans (if_neg (Nat.not_le.mpr h)), discards.trans (if_neg (Nat.not_le.mpr h))⟩,
    fun h => ⟨log.trans (if_pos h), discards.trans (if_pos h)⟩, ⟨deadline.deadline, deadline.reported⟩, noted, ?_, ?_⟩
  · rw [own]
    exact hqueue
  · change ((s.advanceTo due).beamEvent lane b).store.turn _ _ _ _ = _
    rw [store]
    rfl
  · rw [own]
    exact ⟨(congrArg LaneCounts.inbound hcounts :), (congrArg LaneCounts.outbound hcounts :),
      (congrArg LaneCounts.late hcounts :), (congrArg LaneCounts.contrary hcounts :), (congrArg LaneCounts.forced hcounts :)⟩

/-- The judged lane of a passage without a permit. -/
theorem Lane.untilJudged_stray (h : l.returned b now = .passage d)
    (hf : l.permits.find? (fun q => decide (q.direction = d)) = none) :
    (l.untilJudged b now).permits = l.permits
      ∧ (l.untilJudged b now).counts = { (l.taken b now).counts.passage d with
          late := if l.openAtStart.getD false = true ∧ l.permits = [] then min (l.counts.late + 1) 65535 else l.counts.late
          contrary := if l.openAtStart.getD false = true ∧ l.permits ≠ [] then min (l.counts.contrary + 1) 65535
            else l.counts.contrary
          forced := if ¬ l.openAtStart.getD false = true then min (l.counts.forced + 1) 65535 else l.counts.forced } := by
  obtain ⟨hc, hp, -⟩ := l.taken_counts b now
  simp only [Lane.untilJudged, h, Lane.judged, Lane.passed, hp, hf, Option.isSome_none, Bool.false_eq_true, if_false,
    LaneCounts.passage_eq, hc]
  cases l.openAtStart.getD false <;> cases hq : l.permits <;> exact ⟨rfl, rfl⟩

/-- The one event of a passage without a permit, as the three that it may be. -/
theorem strayEvent_eq (lane : Nat) (l : Lane) (d : Direction) (o : Bool) : [strayEvent lane l d o]
    = eventIf (o = true ∧ l.permits = []) (MemberId.late lane) (directionCode d)
      ++ eventIf (o = true ∧ l.permits ≠ []) (MemberId.contrary lane) (directionCode d)
      ++ eventIf (¬ o = true) MemberId.laneForced lane := by
  unfold strayEvent
  cases o <;> cases l.permits <;> simp [eventIf]

/-- Settles O35: the stray passage counts once, and moves nobody. -/
theorem otherPassagesMoveNobody : Obligations.OtherPassagesMoveNobody := by
  intro s lane b d due hs hl hf hb hbr hdir hnone detail rises before
  have hfind : (s.lane lane).permits.find? (fun q => decide (q.direction = d)) = none :=
    List.find?_eq_none.mpr fun q hq => by simpa using hnone q hq
  have hret := Lane.returned_passage hb hbr hdir (s.advanceTo due).clock.mono
  obtain ⟨hc, hp, -⟩ := (s.lane lane).taken_counts b (s.advanceTo due).clock.mono
  obtain ⟨reach, raised, awake⟩ := untilJudged_stray (s := s.advanceTo due) hs.lanes hs.members hret (hp.symm ▸ hfind)
  have reaches := beamEvent_reaches reach
  obtain ⟨x, own⟩ : ∃ x, ((s.advanceTo due).beamEvent lane b).writerTurn.lane lane
      = { ((s.lane lane).untilJudged b (s.advanceTo due).clock.mono).settleFlap with saturationReported := x } :=
    ⟨_, (beamEvent_lane (s := s.advanceTo due) hs.lanes (lane := lane) b lane).trans (if_pos rfl)⟩
  obtain ⟨hqueue, hcounts⟩ := Lane.untilJudged_stray hret hfind
  rw [LaneCounts.passage_eq, hc] at hcounts
  have hopen : (s.lane lane).openAtStart.getD false = true ↔ (s.lane lane).openAtStart = some true := by
    cases (s.lane lane).openAtStart <;> simp
  have keys : ∀ e ∈ [strayEvent lane ((s.advanceTo due).lane lane |>.taken b (s.advanceTo due).clock.mono) d
      (((s.advanceTo due).lane lane).openAtStart.getD false)], e.1.key ≠ (MemberId.counterSaturated lane).key := fun e he => by
    rw [strayEvent_eq] at he
    simp only [List.mem_append, mem_eventIf] at he
    rcases he with (⟨-, rfl⟩ | ⟨-, rfl⟩) | ⟨-, rfl⟩ <;>
      simp only [MemberId.key, MemberId.late, MemberId.contrary, MemberId.laneForced, MemberId.counterSaturated] <;> omega
  have events : [strayEvent lane ((s.lane lane).taken b (s.advanceTo due).clock.mono) d ((s.lane lane).openAtStart.getD false)]
      = eventIf ((s.lane lane).openAtStart = some true ∧ (s.lane lane).permits = []) (MemberId.late lane) detail
        ++ eventIf ((s.lane lane).openAtStart = some true ∧ (s.lane lane).permits ≠ []) (MemberId.contrary lane) detail
        ++ eventIf ((s.lane lane).openAtStart ≠ some true) MemberId.laneForced lane := by
    have coded : detail = directionCode d := by cases d <;> rfl
    rw [strayEvent_eq, hp, coded]
    exact congrArg₂ (· ++ ·) (congrArg₂ (· ++ ·) (eventIf_congr (and_congr_left' hopen) _ _)
      (eventIf_congr (and_congr_left' hopen) _ _))
      (eventIf_congr (not_congr hopen) _ _)
  have noted := events ▸ (beamEvent_noted (lane := lane) (b := b) (s := s.advanceTo due) hs.lanes hs.members raised awake keys).ofAdvanced
  obtain ⟨tally, sequence⟩ := reaches .tally (by decide)
  refine ⟨_, exec_beamEvent hl hf, reaches .persons (by decide), (reaches .movements (by decide)).1, tally, sequence,
    ?_, ?_⟩
  · rw [own]
    exact hqueue
  · simp only [hopen] at hcounts
    rw [own]
    exact ⟨(congrArg LaneCounts.late hcounts :), (congrArg LaneCounts.contrary hcounts :), (congrArg LaneCounts.forced hcounts :),
      (congrArg LaneCounts.inbound hcounts :), (congrArg LaneCounts.outbound hcounts :), noted,
      (((Reaches.advanceTo s due).trans reaches).mono (by decide)).turned⟩

end Sys2Proof.Machine
end

section
/-!
PROOFS. The obligations on the levels of the beam inputs and on lane setup: the filter runs, CONFIGURE_LANE with the beam events
that fall due at it, and SET_LANE_MODE (R38 to R42, R52, R58).
-/

namespace Sys2Proof.Machine

variable {s t u : State} {lane : Nat} {b c : Beam} {high : Bool}

/-! ### A beam event at the present moment -/

theorem State.advanceTo_past {e : Nat} (he : e ≤ s.clock.mono) : s.advanceTo e = s := by
  have mono : max s.clock.mono (min e maxMono) = s.clock.mono := Nat.max_eq_left (le_trans (Nat.min_le_left _ _) he)
  unfold State.advanceTo
  rw [mono]

/-- The event of a run that has lasted its filter time. -/
theorem exec_beamEvent_due {e : Nat} (hl : lane < 4) (hf : ((s.lane lane).beam b).filterEnd = some e) (he : e ≤ s.clock.mono) :
    exec (.beamEvent lane b) s = .next (s.takeBeamEvent lane b) := by
  rw [exec_beamEvent hl hf, State.advanceTo_past he]
  rfl

theorem takeBeamEvent_clock (s : State) (lane : Nat) (b : Beam) : (s.takeBeamEvent lane b).clock = s.clock :=
  (Reaches.beamEvent s lane b).turned .clock (by decide)

/-- What an event at the present moment leaves of the beams of its lane: the beam's level stands, its run is over, and the other
beam is as it was. -/
theorem takeBeamEvent_beams (hw : s.lanes.wf Lane.reset) (lane : Nat) (b : Beam) :
    (((s.takeBeamEvent lane b).lane lane).beam b).high = ((s.lane lane).beam b).high
      ∧ (((s.takeBeamEvent lane b).lane lane).beam b).filterEnd = none
      ∧ ∀ c, b ≠ c → ((s.takeBeamEvent lane b).lane lane).beam c = (s.lane lane).beam c := by
  obtain ⟨-, -, -, -, -, -, -, hb, hother⟩ := (s.lane lane).untilJudged_rest b s.clock.mono
  have own := (beamEvent_lane hw (lane := lane) b lane).trans (if_pos rfl)
  change (((s.beamEvent lane b).lane lane).beam b).high = _ ∧ (((s.beamEvent lane b).lane lane).beam b).filterEnd = _
    ∧ ∀ c, b ≠ c → ((s.beamEvent lane b).lane lane).beam c = _
  rw [own, beam_of_settled, hb]
  exact ⟨rfl, rfl, fun c hc => (beam_of_settled _ c _).trans (hother c hc)⟩

/-! ### BEAM_RAW_CHANGE -/

theorem readsBroken_eq (p : Polarity) (high : Bool) : readsBroken p high = if p = .brokenLow then !high else high := by
  cases p <;> rfl

/-- A change of level while no run of the beam is overdue. -/
theorem exec_beamRawChange (hl : lane < 4) (hh : ((s.lane lane).beam b).high ≠ high)
    (hn : ((s.lane lane).beam b).dueAt s.clock.mono = none) : exec (.beamRawChange lane b high) s
      = event (if readsBroken (s.lane lane).setup.polarity high ≠ ((s.lane lane).beam b).broken ∧ (s.lane lane).setup.filterTime = 0
        then (s.putLevel lane b high s.clock.mono).beamEvent lane b else s.putLevel lane b high s.clock.mono) := by
  have stands : s.runEnded lane b = s := by simp only [State.runEnded, hn, Option.isSome_none, Bool.false_eq_true, if_false]
  refine (execBeamRawChange_eq hl hh).trans ?_
  rw [stands]

/-- A change of level at a beam whose run is overdue follows the run's event. -/
theorem exec_beamRawChange_late {e : Nat} (hw : s.lanes.wf Lane.reset) (hl : lane < 4) (hh : ((s.lane lane).beam b).high ≠ high)
    (hf : ((s.lane lane).beam b).filterEnd = some e) (he : e ≤ s.clock.mono) :
    exec (.beamRawChange lane b high) s = exec (.beamRawChange lane b high) (s.takeBeamEvent lane b) := by
  obtain ⟨level, ended, -⟩ := takeBeamEvent_beams hw lane b
  have run : s.runEnded lane b = s.takeBeamEvent lane b := by
    simp [State.runEnded, BeamState.dueAt, hf, he]
  have after := exec_beamRawChange (s := s.takeBeamEvent lane b) hl (level ▸ hh) (by rw [BeamState.dueAt, ended]; rfl)
  rw [after, takeBeamEvent_clock]
  refine (execBeamRawChange_eq hl hh).trans ?_
  rw [run]

/-- Settles O31: the run that is over ends first, and the level then begins or abandons one. -/
theorem beamLevelsStartFilterRuns : Obligations.BeamLevelsStartFilterRuns := by
  intro s lane b high hs hl beam setup raw
  have hraw : readsBroken setup.polarity high = raw := readsBroken_eq _ _
  have lanes : ∀ v j, (s.putLane lane v).lane j = if j = lane then v else s.lane j := fun v j => lane_putLane hs.lanes lane v j
  refine ⟨fun h => ?_, fun e hh hf he => ?_, fun hh hf => ?_⟩
  · change execBeamRawChange lane b high s = _
    rw [execBeamRawChange, if_neg (Nat.not_le.mpr hl), if_pos h]
  · obtain ⟨level, ended, -⟩ := takeBeamEvent_beams hs.lanes lane b
    exact ⟨_, exec_beamEvent_due hl hf he, takeBeamEvent_clock s lane b, level, ended, exec_beamRawChange_late hs.lanes hl hh hf he⟩
  · have none : beam.dueAt s.clock.mono = Option.none := by
      unfold BeamState.dueAt
      cases h : beam.filterEnd with
      | none => rfl
      | some e => simp [hf e h]
    have run := exec_beamRawChange hl hh none
    rw [hraw] at run
    have put : s.putLevel lane b high s.clock.mono = s.putLane lane ((s.lane lane).putBeam b { beam with
        high, filterEnd := if raw = beam.broken then Option.none else some (s.clock.mono + setup.filterTime) }) := by
      unfold State.putLevel BeamState.refilter
      rw [hraw]
    refine ⟨fun h => ?_, fun h hpos => ?_, fun h hzero => ?_⟩
    · rw [if_neg fun hc => hc.1 h, put, if_pos h] at run
      exact ⟨_, run, lanes _, (Reaches.putLane s lane _).turned⟩
    · rw [if_neg fun hc => hpos.ne' hc.2, put, if_neg h] at run
      exact ⟨_, run, lanes _, (Reaches.putLane s lane _).turned⟩
    · rw [if_pos ⟨h, hzero⟩, put, if_neg h, hzero] at run
      have due : (((s.putLane lane ((s.lane lane).putBeam b { beam with high, filterEnd := some s.clock.mono })).lane lane).beam b).filterEnd
          = some s.clock.mono := by rw [lanes, if_pos rfl, Lane.beam_putBeam]
      exact run.trans (exec_beamEvent_due (s := s.putLane lane _) hl due le_rfl).symm

/-! ### The ends of the runs of a lane -/

theorem dueAt_iff {v : BeamState} {now e : Nat} : v.dueAt now = some e ↔ v.filterEnd = some e ∧ e ≤ now := by
  simp [BeamState.dueAt, Option.filter_eq_some_iff]

theorem dueAt_none_iff {v : BeamState} {now : Nat} : v.dueAt now = none ↔ ∀ e, ¬ (v.filterEnd = some e ∧ e ≤ now) := by
  simp only [← dueAt_iff, ← Option.eq_none_iff_forall_ne_some]

/-- What is due after an event at the present moment: the other beam's run, where that was. -/
theorem takeBeamEvent_due (hw : s.lanes.wf Lane.reset) (lane : Nat) (b : Beam) :
    (((s.takeBeamEvent lane b).lane lane).beam b).dueAt (s.takeBeamEvent lane b).clock.mono = none
      ∧ ∀ c, b ≠ c → (((s.takeBeamEvent lane b).lane lane).beam c).dueAt (s.takeBeamEvent lane b).clock.mono
          = ((s.lane lane).beam c).dueAt s.clock.mono := by
  obtain ⟨-, ended, other⟩ := takeBeamEvent_beams hw lane b
  rw [takeBeamEvent_clock]
  refine ⟨?_, fun c hc => by rw [other c hc]⟩
  unfold BeamState.dueAt
  rw [ended]
  rfl

theorem endRuns_none (h : ∀ b, ((s.lane lane).beam b).dueAt s.clock.mono = none) : s.endRuns lane = s := by
  have outer : (s.lane lane).outer.dueAt s.clock.mono = none := h .outer
  have inner : (s.lane lane).inner.dueAt s.clock.mono = none := h .inner
  simp only [State.endRuns, outer, inner]

theorem endRuns_one (hne : b ≠ c) {e : Nat} (hb : ((s.lane lane).beam b).dueAt s.clock.mono = some e)
    (hc : ((s.lane lane).beam c).dueAt s.clock.mono = none) : s.endRuns lane = s.takeBeamEvent lane b := by
  cases b <;> cases c
  · exact absurd rfl hne
  · have outer : (s.lane lane).outer.dueAt s.clock.mono = some e := hb
    have inner : (s.lane lane).inner.dueAt s.clock.mono = none := hc
    simp only [State.endRuns, outer, inner]
  · have inner : (s.lane lane).inner.dueAt s.clock.mono = some e := hb
    have outer : (s.lane lane).outer.dueAt s.clock.mono = none := hc
    simp only [State.endRuns, outer, inner]
  · exact absurd rfl hne

theorem endRuns_earlier (hne : b ≠ c) {e f : Nat} (hb : ((s.lane lane).beam b).dueAt s.clock.mono = some e)
    (hc : ((s.lane lane).beam c).dueAt s.clock.mono = some f) (hef : e < f) :
    s.endRuns lane = (s.takeBeamEvent lane b).takeBeamEvent lane c := by
  cases b <;> cases c
  · exact absurd rfl hne
  · have outer : (s.lane lane).outer.dueAt s.clock.mono = some e := hb
    have inner : (s.lane lane).inner.dueAt s.clock.mono = some f := hc
    simp [State.endRuns, outer, inner, hef, hef.ne]
  · have inner : (s.lane lane).inner.dueAt s.clock.mono = some e := hb
    have outer : (s.lane lane).outer.dueAt s.clock.mono = some f := hc
    simp [State.endRuns, outer, inner, hef.ne', hef.le]
  · exact absurd rfl hne

/-- Of two runs that fall due together either may be first, and a free value is used. -/
theorem endRuns_together {e : Nat} (ho : ((s.lane lane).beam .outer).dueAt s.clock.mono = some e)
    (hi : ((s.lane lane).beam .inner).dueAt s.clock.mono = some e) : ∃ b c, b ≠ c ∧ s.endRuns lane
      = (({ s with freeIndex := s.freeIndex + 1 } : State).takeBeamEvent lane b).takeBeamEvent lane c := by
  have outer : (s.lane lane).outer.dueAt s.clock.mono = some e := ho
  have inner : (s.lane lane).inner.dueAt s.clock.mono = some e := hi
  cases h : Config.openBeamOrder s.freeIndex
  · exact ⟨.inner, .outer, nofun, by simp [State.endRuns, outer, inner, h]⟩
  · exact ⟨.outer, .inner, nofun, by simp [State.endRuns, outer, inner, h]⟩

theorem Beam.eq_of_ne {a b c : Beam} (h : a ≠ b) (h' : a ≠ c) : b = c := by
  cases a <;> cases b <;> cases c <;> first | rfl | exact absurd rfl h | exact absurd rfl h'

/-- The run that is due first ends first. -/
theorem endRuns_first (hw : s.lanes.wf Lane.reset) {e : Nat} (hb : ((s.lane lane).beam b).dueAt s.clock.mono = some e)
    (hfirst : ∀ c f, c ≠ b → ((s.lane lane).beam c).dueAt s.clock.mono = some f → e < f) :
    s.endRuns lane = (s.takeBeamEvent lane b).endRuns lane := by
  obtain ⟨c, hne⟩ : ∃ c, b ≠ c := by cases b <;> [exact ⟨.inner, nofun⟩; exact ⟨.outer, nofun⟩]
  obtain ⟨ended, other⟩ := takeBeamEvent_due hw lane b
  cases hc : ((s.lane lane).beam c).dueAt s.clock.mono with
  | none =>
    rw [endRuns_one hne hb hc, endRuns_none fun x => ?_]
    by_cases hx : b = x
    · exact hx ▸ ended
    · exact Beam.eq_of_ne hne hx ▸ (other c hne).trans hc
  | some f =>
    rw [endRuns_earlier hne hb hc (hfirst c f hne.symm hc), endRuns_one hne.symm ((other c hne).trans hc) ended]

/-! ### CONFIGURE_LANE -/

/-- An event at a lane leaves the taking of host requests as it was. -/
theorem configuredLane_congr (h : { t.host with wake := s.host.wake } = s.host) (hp : t.phase = s.phase) (r : Request) :
    configuredLane r t = configuredLane r s := by
  have takes : ∀ f, t.hostTakes f = s.hostTakes f := fun f => by
    unfold State.hostTakes State.isRunning
    rw [hp, ← h]
  simp only [configuredLane, takes]

theorem takeBeamEvent_configuredLane (s : State) (lane : Nat) (b : Beam) (r : Request) :
    configuredLane r (s.takeBeamEvent lane b) = configuredLane r s :=
  configuredLane_congr ((Reaches.beamEvent s lane b).turned .host (by decide)) ((Reaches.beamEvent s lane b).turned .phase (by decide)) r

theorem configuredLane_offer {r : Request} {u : LaneSetup} (h : HostOffer s 0x38 decodeConfigureLane r (lane, u)) :
    configuredLane r s = some lane := by
  rw [configuredLane, if_pos ⟨h.takes, h.tagged⟩, h.body]
  rfl

/-- CONFIGURE_LANE looks at the part after the runs that are over. -/
theorem exec_configureLane_congr {r : Request} (hs : configuredLane r s = some lane) (ht : configuredLane r t = some lane)
    (h : s.endRuns lane = t.endRuns lane) : exec (.configureLane r) s = exec (.configureLane r) t := by
  change execConfigureLane r s = execConfigureLane r t
  simp only [execConfigureLane, hs, ht, h]

/-- CONFIGURE_LANE where no run is over: the setting, and then the runs that it makes due. -/
theorem exec_configureLane_set {r : Request} (hs : configuredLane r s = some lane) (hn : s.endRuns lane = s)
    (hx : takeHost 0x38 decodeConfigureLane doConfigureLane r s = .next t) : exec (.configureLane r) s = .next (t.endRuns lane) := by
  change execConfigureLane r s = _
  simp only [execConfigureLane, hs, hn, hx]

/-- A beam after the setting. -/
theorem Lane.configured_beam (l : Lane) (u : LaneSetup) (now : Nat) (b : Beam) : (l.configured u now).beam b
    = if u.polarity = l.setup.polarity then l.beam b
      else { l.beam b with filterEnd := if (if u.polarity = .brokenLow then !(l.beam b).high else (l.beam b).high) = (l.beam b).broken
        then none else some (now + u.filterTime) } := by
  unfold Lane.configured
  split
  · cases b <;> rfl
  · rw [← readsBroken_eq]
    cases b <;> rfl

/-- The lane after the setting, as claims write it. -/
theorem Lane.configured_eq (l : Lane) (u : LaneSetup) (now : Nat) : l.configured u now
    = { l with
        setup := u
        outer := if u.polarity = l.setup.polarity then l.outer else { l.outer with
          filterEnd := if (if u.polarity = .brokenLow then !l.outer.high else l.outer.high) = l.outer.broken then none
            else some (now + u.filterTime) }
        inner := if u.polarity = l.setup.polarity then l.inner else { l.inner with
          filterEnd := if (if u.polarity = .brokenLow then !l.inner.high else l.inner.high) = l.inner.broken then none
            else some (now + u.filterTime) } } := by
  by_cases h : u.polarity = l.setup.polarity
  · simp only [Lane.configured, if_pos h]
  · simp only [Lane.configured, if_neg h, BeamState.refilter, readsBroken_eq]

theorem polarity_code (p : Polarity) : p.code = if p = .brokenLow then 0 else 1 := by cases p <;> rfl

/-- What is due after the setting: where a change of polarity makes a beam read as other than its filtered state, with a filter
time of 0, its run. -/
theorem Lane.configured_due (l : Lane) (u : LaneSetup) (now : Nat) (b : Beam) (hn : (l.beam b).dueAt now = none) :
    ((l.configured u now).beam b).dueAt now = if u.polarity ≠ l.setup.polarity ∧ u.filterTime = 0
      ∧ (if u.polarity = .brokenLow then !(l.beam b).high else (l.beam b).high) ≠ (l.beam b).broken then some now else none := by
  rw [Lane.configured_beam]
  by_cases hp : u.polarity = l.setup.polarity
  · rw [if_pos hp, if_neg fun h => h.1 hp, hn]
  · rw [if_neg hp]
    generalize (if u.polarity = .brokenLow then !(l.beam b).high else (l.beam b).high) = raw
    by_cases hr : raw = (l.beam b).broken
    · rw [if_pos hr, if_neg fun h => h.2.2 hr]
      rfl
    · rw [if_neg hr]
      by_cases hz : u.filterTime = 0
      · simp [BeamState.dueAt, hp, hr, hz]
      · simp [BeamState.dueAt, hp, hz, Nat.pos_of_ne_zero hz]

/-- The setting itself: the reply, the lane and what stands. -/
theorem configureLane_sets {r : Request} {u : LaneSetup} (hs : s.Tidy) (h : HostOffer s 0x38 decodeConfigureLane r (lane, u)) :
    ∃ w, takeHost 0x38 decodeConfigureLane doConfigureLane r s = .next w
      ∧ HostAnswered s w ⟨0x38, r.tag, .ok, setupFields (LaneSetup.clamped u)⟩
      ∧ w.lanes.wf Lane.reset
      ∧ (∀ j, w.lane j = if j = lane then (s.lane lane).configured (LaneSetup.clamped u) s.clock.mono else s.lane j)
      ∧ Keeps [.host, .lanes] s w := by
  have reach := Reaches.putLane s.dropHostRequest lane ((s.lane lane).configured (LaneSetup.clamped u) s.clock.mono)
  exact ⟨_, takeHost_taken h doConfigureLane, reach.hostAnswered (by decide) _, Table.wf_write hs.lanes _ _,
    fun j => Table.read_write hs.lanes lane _ j, reach.hostKeeps _⟩

/-- CONFIGURE_LANE where no run is over: what is set, and the beam events of the runs that this makes due. -/
theorem configureLane_fresh {r : Request} {u : LaneSetup} (hs : s.Tidy) (hl : lane < 4)
    (h : HostOffer s 0x38 decodeConfigureLane r (lane, u)) (hn : ∀ b, ((s.lane lane).beam b).dueAt s.clock.mono = none)
    {atOnce : Beam → Prop} (ha : ∀ b, atOnce b ↔ u.polarity ≠ (s.lane lane).setup.polarity ∧ min u.filterTime 250 = 0
      ∧ (if u.polarity = .brokenLow then !((s.lane lane).beam b).high else ((s.lane lane).beam b).high)
        ≠ ((s.lane lane).beam b).broken) :
    ∃ w, HostAnswered s w ⟨0x38, r.tag, .ok, setupFields (LaneSetup.clamped u)⟩
      ∧ (∀ j, w.lane j = if j = lane then (s.lane lane).configured (LaneSetup.clamped u) s.clock.mono else s.lane j)
      ∧ Keeps [.host, .lanes] s w
      ∧ ((∀ b, ¬ atOnce b) → exec (.configureLane r) s = .next w)
      ∧ (∀ b c, atOnce b → c ≠ b → ¬ atOnce c → exec (.configureLane r) s = exec (.beamEvent lane b) w)
      ∧ (atOnce .outer → atOnce .inner →
        ∃ b c x, c ≠ b ∧ exec (.beamEvent lane b) { w with freeIndex := w.freeIndex + 1 } = .next x
          ∧ exec (.configureLane r) s = exec (.beamEvent lane c) x) := by
  obtain ⟨w, hx, hw, hwf, hlane, hk⟩ := configureLane_sets hs h
  have run := exec_configureLane_set (configuredLane_offer h) (endRuns_none hn) hx
  have clock : w.clock = s.clock := hk .clock (by decide)
  have own := (hlane lane).trans (if_pos rfl)
  have due : ∀ b, atOnce b → ((w.lane lane).beam b).dueAt w.clock.mono = some s.clock.mono := fun b hb => by
    rw [own, clock, Lane.configured_due _ _ _ _ (hn b)]
    exact if_pos ((ha b).mp hb)
  have free : ∀ b, ¬ atOnce b → ((w.lane lane).beam b).dueAt w.clock.mono = none := fun b hb => by
    rw [own, clock, Lane.configured_due _ _ _ _ (hn b)]
    exact if_neg fun hc => hb ((ha b).mpr hc)
  have event : ∀ (x : State) b, ((x.lane lane).beam b).dueAt x.clock.mono = some s.clock.mono →
      exec (.beamEvent lane b) x = .next (x.takeBeamEvent lane b) := fun x b hb =>
    exec_beamEvent_due hl (dueAt_iff.mp hb).1 (dueAt_iff.mp hb).2
  refine ⟨w, hw, hlane, hk, fun hno => ?_, fun b c hb hne hc => ?_, fun ho hi => ?_⟩
  · rw [run, endRuns_none fun b => free b (hno b)]
  · rw [run, endRuns_one hne.symm (due b hb) (free c hc), event w b (due b hb)]
  · obtain ⟨b, c, hne, ended⟩ := endRuns_together (due .outer ho) (due .inner hi)
    have both : ∀ x, atOnce x := fun x => by cases x <;> assumption
    refine ⟨b, c, _, hne.symm, event _ b (due b (both b)), ?_⟩
    rw [run, ended]
    have left := (takeBeamEvent_due (s := { w with freeIndex := w.freeIndex + 1 }) hwf lane b).2 c hne
    exact (event _ c (left.trans (due c (both c)))).symm

/-! ### SET_LANE_MODE -/

theorem doSetLaneMode_lane (hw : s.lanes.wf Lane.reset) (m : LaneMode) (j : Nat) : (doSetLaneMode (lane, m) s).1.lane j
    = if j = lane then { s.lane lane with
        mode := m
        permits := (s.lane lane).permits.filter fun p => !(admits (s.lane lane).mode p.direction) || admits m p.direction : Lane }.settleFlap
      else s.lane j := by
  have moded := lane_putLane hw lane { s.lane lane with mode := m }
  refine (State.lane_removePermits (wf_putLane hw lane { s.lane lane with mode := m }) lane _ j).trans ?_
  rw [moded, moded, if_pos rfl]
  split
  · simp only [Bool.not_and, Bool.not_not]
  · rfl

theorem doSetLaneMode_person (hp : s.persons.wf none) (hw : s.lanes.wf Lane.reset) (m : LaneMode) (i : Nat) :
    (doSetLaneMode (lane, m) s).1.person i
      = if ∃ p ∈ (s.lane lane).permits, (!(admits (s.lane lane).mode p.direction) || admits m p.direction) = false ∧ p.person = i then
          (s.person i).map fun v => { v with gatePermit := none } else s.person i := by
  have moded := (lane_putLane hw lane { s.lane lane with mode := m } lane).trans (if_pos rfl)
  refine (State.person_removePermits (s := s.putLane lane { s.lane lane with mode := m }) hp lane _ i).trans ?_
  rw [moded]
  refine if_congr ?_ rfl rfl
  simp [List.mem_filter, and_assoc]

theorem doSetLaneMode_reaches (q : Nat × LaneMode) (s : State) : Reaches [.lanes, .persons] s (doSetLaneMode q s).1 :=
  ((Reaches.putLane s q.1 _).trans (Reaches.removePermits _ q.1 _)).mono (by decide)

/-- Settles O27: the runs that are over end first, and the setting makes others due; a mode cancels permits. -/
theorem laneSetupMessages : Obligations.LaneSetupMessages := by
  constructor
  · intro s r l u hs h taken overdue reversed raw rerun atOnce
    have hl : l < 4 := decodeConfigureLane_lt h.body
    have taking := configuredLane_offer h
    have due : ∀ b e, overdue b e ↔ ((s.lane l).beam b).dueAt s.clock.mono = some e := fun b e => dueAt_iff.symm
    refine ⟨fun b e hb hfirst => ⟨_, exec_beamEvent_due hl hb.1 hb.2, ?_⟩, fun e ho hi => ?_, fun hn => ?_⟩
    · exact exec_configureLane_congr taking ((takeBeamEvent_configuredLane s l b r).trans taking)
        (endRuns_first hs.lanes ((due b e).mp hb) fun c f hc hf => hfirst c f hc ((due c f).mpr hf))
    · obtain ⟨b, c, hne, ended⟩ := endRuns_together ((due _ e).mp ho) ((due _ e).mp hi)
      have both : ∀ x, overdue x e := fun x => by cases x <;> assumption
      refine ⟨b, _, exec_beamEvent_due (s := { s with freeIndex := s.freeIndex + 1 }) hl (both b).1 (both b).2, ?_⟩
      refine exec_configureLane_congr taking ((takeBeamEvent_configuredLane _ l b r).trans taking) (ended.trans ?_)
      obtain ⟨done, other⟩ := takeBeamEvent_due (s := { s with freeIndex := s.freeIndex + 1 }) hs.lanes l b
      exact (endRuns_one hne.symm ((other c hne).trans ((due c e).mp (both c))) done).symm
    · obtain ⟨w, hw, hlane, hk, rest⟩ := configureLane_fresh (atOnce := atOnce) hs hl h
        (fun b => dueAt_none_iff.mpr (hn b)) fun b => Iff.rfl
      have coded : setupFields (LaneSetup.clamped u) = [.b1 (if u.polarity = .brokenLow then 0 else 1), .b1 taken.filterTime,
          .b1 taken.permitWindow, .b2 taken.blockTime] := by
        unfold setupFields
        rw [polarity_code]
        rfl
      refine ⟨w, ?_, fun j => (hlane j).trans ?_, hk, rest⟩
      · rwa [← coded]
      · split
        · exact Lane.configured_eq _ _ _
        · rfl
  · intro s r l m hs h stays left
    obtain ⟨t, hx, ha, ⟨hlane, hperson⟩, hk⟩ := host_acts (c := .setLaneMode r) (act := doSetLaneMode) h rfl rfl
      (doSetLaneMode_reaches (l, m) s.dropHostRequest) (by decide)
      (P := fun t => (∀ j, t.lane j = if j = l then { s.lane l with
            mode := m, permits := left, flapOpen := (s.lane l).flapOpen
              && !(left.isEmpty && (s.lane l).recognizer == .clear && !(s.lane l).blocked) } else s.lane j)
          ∧ ∀ i, t.person i = if ∃ p ∈ (s.lane l).permits, stays p = false ∧ p.person = i then
            (s.person i).map fun v => { v with gatePermit := none } else s.person i)
      ⟨doSetLaneMode_lane (s := s.dropHostRequest) hs.lanes m, doSetLaneMode_person (s := s.dropHostRequest) hs.persons hs.lanes m⟩
    exact ⟨t, hx, ha, hlane, hperson, hk⟩

end Sys2Proof.Machine
end

section
/-!
PROOFS. The obligation on ship time and the operating day: the computing of the day and the telling of the arrivals
(R28 to R31, R34).
-/

namespace Sys2Proof.Machine

variable {s u : State}

theorem computeDay_running (h : u.clock.running = true) :
    u.computeDay = { u with clock := { u.clock with currentDay := max u.clock.currentDay u.clock.computedDay } }.raiseWhen
      (decide (u.clock.currentDay < u.clock.computedDay)) MemberId.dayAdvanced u.clock.computedDay := by
  simp only [State.computeDay, Clock.advanceDay, h, Bool.true_and, if_true]

/-- Before the clock is set no day is computed. -/
theorem computeDay_unset (h : u.clock.running = false) : u.computeDay = u := by
  simp only [State.computeDay, h, Bool.false_and, Bool.false_eq_true, if_false, State.raiseWhen_false]

/-- Of the clock the computing of the day changes the day. -/
theorem computeDay_clock (u : State) : u.computeDay.clock = { u.clock with currentDay := u.computeDay.clock.currentDay } := by
  change (if u.clock.running then u.clock.advanceDay else u.clock)
    = { u.clock with currentDay := (if u.clock.running then u.clock.advanceDay else u.clock).currentDay }
  split <;> rfl

/-- The computing of the day while the clock runs. -/
theorem computeDay_dated (h : u.clock.running = true) :
    u.computeDay.clock = { u.clock with currentDay := max u.clock.currentDay u.clock.computedDay }
      ∧ (u.clock.currentDay < u.clock.computedDay → Raised u u.computeDay MemberId.dayAdvanced u.clock.computedDay)
      ∧ (u.clock.computedDay ≤ u.clock.currentDay → Silent u u.computeDay) := by
  rw [computeDay_running h]
  refine ⟨rfl, fun hlt => ?_, fun hle => ?_⟩
  · rw [decide_eq_true hlt]
    exact Raised.of_raise (s := { u with clock := { u.clock with currentDay := max u.clock.currentDay u.clock.computedDay } }) _ _
  · rw [decide_eq_false (Nat.not_lt.mpr hle), State.raiseWhen_false]
    exact ⟨rfl, rfl⟩

/-- The telling of the held ship times that have arrived. -/
theorem tellArrivals_told (hw : u.slots.wf Slot.reset) :
    (u.tellArrivals.deadlineArrived = true ↔ u.deadlineArrived = true ∨ ∃ d, u.deadline = .set d ∧ d ≤ u.clock.shipTime)
      ∧ (u.muster.active = true → u.tellArrivals.slots = u.slots)
      ∧ (u.muster.active = false → ∀ k, u.tellArrivals.slot k = { u.slot k with
          hold := (u.slot k).hold.map fun h => { h with arrived := h.arrived || decide (h.expiry ≤ u.clock.shipTime) } }) := by
  have reached : u.deadline.reached u.clock.shipTime = true ↔ ∃ d, u.deadline = .set d ∧ d ≤ u.clock.shipTime := by
    cases u.deadline <;> simp [Deadline.reached]
  refine ⟨?_, fun h => if_pos h, fun h k => ?_⟩
  · rw [← reached]
    exact Bool.or_eq_true_iff
  · have slots : u.tellArrivals.slots = u.slots.mapRecords Slot.reset (Slot.tell u.clock.shipTime) := by
      simp only [State.tellArrivals, h, Bool.false_eq_true, if_false]
    exact (congrArg (Table.read Slot.reset · k) slots).trans (Table.read_mapRecords hw rfl k)

theorem Reaches.computeDay (s : State) : Reaches [.clock, .notices, .wake] s s.computeDay := .of_restore rfl

theorem Reaches.tellArrivals (s : State) : Reaches [.holds, .deadline] s s.tellArrivals := .of_restore rfl

theorem Reaches.setClock (s : State) (c : Clock) : Reaches [.clock] s { s with clock := c } := .of_restore rfl

/-- Settles O25: each setting and each advance computes the day, and those of ship time tell the arrivals. -/
theorem clockMessagesAndAdvance : Obligations.ClockMessagesAndAdvance := by
  unfold Obligations.ClockMessagesAndAdvance
  intro day dated told
  refine ⟨fun s r time hs h => ?_, fun s r offset h => ?_, fun s hs hr hlt => ?_⟩
  · let v : State := { s.dropHostRequest with
      clock := { s.clock with running := true, shipTime := time, nextAdvance := s.clock.mono + 1000 } }
    obtain ⟨clock, later, same⟩ := computeDay_dated (u := v) rfl
    obtain ⟨arrived, held, moved⟩ := tellArrivals_told (u := v.computeDay) hs.slots
    have reach : Reaches [.clock, .holds, .deadline, .notices, .wake] s.dropHostRequest v.computeDay.tellArrivals :=
      (((Reaches.setClock _ _).trans (Reaches.computeDay _)).trans (Reaches.tellArrivals _)).mono (by decide)
    exact ⟨_, takeHost_taken h doSetClock, reach.hostAnswered (by decide) _, computeDay_clock v,
      ⟨congrArg Clock.currentDay clock, fun hlt => ⟨(later hlt).1, (later hlt).2⟩, fun hle => ⟨(same hle).1, (same hle).2⟩⟩,
      ⟨arrived, rfl, rfl, held, moved⟩, reach.hostKeeps _⟩
  · let v : State := { s.dropHostRequest with clock := { s.clock with dayOffset := min offset 86399 } }
    have reach : Reaches [.clock, .notices, .wake] s.dropHostRequest v.computeDay :=
      ((Reaches.setClock _ _).trans (Reaches.computeDay _)).mono (by decide)
    refine ⟨_, takeHost_taken h doSetDayOffset, reach.hostAnswered (by decide) _, ?_, fun hr => ?_, fun hr => ?_, reach.hostKeeps _⟩
    · exact computeDay_clock v
    · obtain ⟨clock, later, same⟩ := computeDay_dated (u := v) hr
      exact ⟨congrArg Clock.currentDay clock, fun hlt => ⟨(later hlt).1, (later hlt).2⟩, fun hle => ⟨(same hle).1, (same hle).2⟩⟩
    · have none := computeDay_unset (u := v) hr
      exact ⟨(congrArg (fun x : State => x.clock.currentDay) none :), (congrArg State.notices none :),
        (congrArg (fun x : State => x.host.wake) none :)⟩
  · let v : State := { s.advanceTo s.clock.nextAdvance with clock := { (s.advanceTo s.clock.nextAdvance).clock with
      shipTime := s.clock.shipTime + 1, nextAdvance := s.clock.nextAdvance + 1000 } }
    obtain ⟨clock, later, same⟩ := computeDay_dated (u := v) hr
    obtain ⟨arrived, held, moved⟩ := tellArrivals_told (u := v.computeDay) hs.slots
    have reach : Reaches [.clock, .holds, .deadline, .notices, .wake] s v.computeDay.tellArrivals :=
      ((((Reaches.advanceTo s s.clock.nextAdvance).trans (Reaches.setClock _ _)).trans (Reaches.computeDay _)).trans
        (Reaches.tellArrivals _)).mono (by decide)
    have hx : exec .shipTimeAdvance s = event v.computeDay.tellArrivals := if_pos ⟨hr, hlt⟩
    exact ⟨_, hx, computeDay_clock v,
      ⟨congrArg Clock.currentDay clock, fun hlt => ⟨(later hlt).1, (later hlt).2⟩, fun hle => ⟨(same hle).1, (same hle).2⟩⟩,
      ⟨arrived, rfl, rfl, held, moved⟩, reach.turned⟩

end Sys2Proof.Machine
end

section
/-!
PROOFS. The obligations on purchases and sales: the arithmetic, the tests of a capture, and BAR_SALE (R90 to R102, R114, R115,
R123).
-/

namespace Sys2Proof.Machine

variable {s t u : State}

/-! ### The arithmetic -/

theorem sumLines_cons (p : Line → Bool) (l : Line) (ls : List Line) :
    sumLines p (l :: ls) = (if p l then lineAmount l else 0) + sumLines p ls := by
  unfold sumLines
  rw [List.filter_cons]
  split <;> simp

/-- The bases of the four classes together are at most the subtotal. -/
theorem sumLines_classes (ls : List Line) : sumLines (fun l => l.taxClass == 0) ls + sumLines (fun l => l.taxClass == 1) ls
    + sumLines (fun l => l.taxClass == 2) ls + sumLines (fun l => l.taxClass == 3) ls ≤ sumLines (fun _ => true) ls := by
  induction ls with
  | nil => rfl
  | cons l ls ih =>
    simp only [sumLines_cons, beq_iff_eq, if_true]
    have own : (if l.taxClass = 0 then lineAmount l else 0) + (if l.taxClass = 1 then lineAmount l else 0)
        + (if l.taxClass = 2 then lineAmount l else 0) + (if l.taxClass = 3 then lineAmount l else 0) ≤ lineAmount l := by
      split_ifs <;> omega
    omega

/-- The subtotal of well-formed lines. -/
theorem sumLines_le {ls : List Line} (h : ls.all Line.valid = true) : sumLines (fun _ => true) ls ≤ 9899901 * ls.length := by
  induction ls with
  | nil => exact Nat.le_refl 0
  | cons l ls ih =>
    obtain ⟨hl, hls⟩ := Bool.and_eq_true_iff.mp (List.all_cons ▸ h)
    have amount : lineAmount l ≤ 99999 * 99 := by
      simp only [Line.valid, Bool.and_eq_true, decide_eq_true_eq] at hl
      exact Nat.mul_le_mul (by omega) (by omega)
    have := ih hls
    rw [sumLines_cons, List.length_cons, if_pos rfl]
    omega

theorem classTax_le {base rate : Nat} (h : rate ≤ 3000) : classTax base rate ≤ (base * 3000 + 5000) / 10000 :=
  Nat.div_le_div_right (Nat.add_le_add_right (Nat.mul_le_mul_left base h) _)

/-- The values of a well-formed purchase at rates in range. -/
theorem priceOf_le {o : Outlet} {ls : List Line} {tip : Nat} (h : purchaseValid ls tip = true) (hs : o.serviceRate ≤ 250)
    (h0 : o.taxRate0 ≤ 3000) (h1 : o.taxRate1 ≤ 3000) (h2 : o.taxRate2 ≤ 3000) (h3 : o.taxRate3 ≤ 3000) :
    (priceOf o ls tip).subtotal ≤ 79199208 ∧ (priceOf o ls tip).service ≤ 19799802 ∧ (priceOf o ls tip).tax ≤ 23759764
      ∧ (priceOf o ls tip).total ≤ 122858773 := by
  simp only [purchaseValid, Bool.and_eq_true, decide_eq_true_eq] at h
  obtain ⟨⟨⟨-, count⟩, valid⟩, tips⟩ := h
  have subtotal : sumLines (fun _ => true) ls ≤ 79199208 := (sumLines_le valid).trans (by omega)
  have service : serviceCharge (sumLines (fun _ => true) ls) o.serviceRate ≤ 19799802 := by
    have : sumLines (fun _ => true) ls * o.serviceRate ≤ 79199208 * 250 := Nat.mul_le_mul subtotal hs
    unfold serviceCharge
    omega
  have tax : purchaseTax o ls ≤ 23759764 := by
    have classes := sumLines_classes ls
    have tax0 := classTax_le (base := sumLines (fun l => l.taxClass == 0) ls) h0
    have tax1 := classTax_le (base := sumLines (fun l => l.taxClass == 1) ls) h1
    have tax2 := classTax_le (base := sumLines (fun l => l.taxClass == 2) ls) h2
    have tax3 := classTax_le (base := sumLines (fun l => l.taxClass == 3) ls) h3
    simp only [purchaseTax, taxOf]
    omega
  have tip : purchaseTip o tip ≤ 99999 := by
    unfold purchaseTip
    split <;> omega
  refine ⟨subtotal, service, tax, ?_⟩
  change sumLines (fun _ => true) ls + serviceCharge _ _ + _ + _ ≤ _
  omega

/-- Settles O43: the values are those of the sums, and their ranges follow from the lines'. -/
theorem purchaseArithmetic : Obligations.PurchaseArithmetic := by
  intro o lines tip amount base price
  have classes : ∀ k rate, taxOf rate k lines = (base k * rate + 5000) / 10000 := fun k rate => by
    unfold taxOf classTax sumLines
    simp only [base, beq_eq_decide]
    rfl
  refine ⟨?_, rfl, ?_, rfl, rfl, fun h => ?_, priceOf_le⟩
  · change sumLines _ _ = _
    rw [sumLines, List.filter_true]
    rfl
  · change purchaseTax o lines = _
    simp only [purchaseTax, classes]
  · change serviceCharge _ o.serviceRate = 0
    rw [h, serviceCharge, Nat.mul_zero]

/-! ### The tests of a capture -/

theorem accountTest_none {p : Person} (h : p.account = none) :
    accountTest p = .error (if p.loaded then .noAccount else .recordIncomplete) := by simp only [accountTest, h]

theorem accountTest_suspended {p : Person} {a : Account} (h : p.account = some a) (hs : a.suspended = true) :
    accountTest p = .error .suspended := by simp only [accountTest, h, hs, if_true]

theorem accountTest_open {p : Person} {a : Account} (h : p.account = some a) (hs : a.suspended = false) :
    accountTest p = .ok a := by simp only [accountTest, h, hs, Bool.false_eq_true, if_false]

/-- The tests of a capture, judged in order. -/
theorem captureTests_iff (s : State) (outlet : Nat) (a : Account) (ls : List Line) (total increase : Nat) (r : Option Result) :
    FirstFailing (a.tests (s.outlet outlet) s.clock.currentDay ls total increase ++ [(1024 ≤ s.journal.length, .journalFull)]) r
      ↔ (a.suspended = true ∧ r = some .suspended)
        ∨ (a.suspended = false ∧ captureRefusal s outlet a ls total increase = r) := by
  rw [Account.tests_iff]
  refine or_congr Iff.rfl (and_congr_right fun _ => ?_)
  unfold captureRefusal
  cases authorization (s.outlet outlet) a ls total increase s.clock.currentDay with
  | some x => simp [eq_comm]
  | none =>
    simp only [reduceCtorEq, false_and, exists_false, false_or, true_and, FirstFailing, State.journalIsFull, decide_eq_true_eq]
    split <;> simp [*, eq_comm]

theorem carriesAvailable_iff (reason : Result) : carriesAvailable reason ↔ reason.creditOrLater = true := by
  cases reason <;> simp [carriesAvailable, Result.creditOrLater]

theorem afterCaptureRefusal_other {reason : Result} (h : reason ≠ .journalFull) (outlet : Nat) :
    s.afterCaptureRefusal reason outlet = s := by
  simp only [State.afterCaptureRefusal, beq_eq_false_iff_ne.mpr h, Bool.or_false, Bool.false_and, State.raiseWhen_false]

theorem Reaches.afterCaptureRefusal (s : State) (reason : Result) (outlet : Nat) :
    Reaches [.journal, .notices, .wake] s (s.afterCaptureRefusal reason outlet) := by
  have reported : Reaches [.journal] s { s with journalFullReported := s.journalFullReported || reason == .journalFull } :=
    .of_restore rfl
  exact (reported.trans (Reaches.raiseWhen _ _ _ _)).mono (by decide)

theorem Reaches.capture (s : State) (e : Entry) (freed : Nat) :
    Reaches [.persons, .journal, .notices, .wake] s (s.capture e freed) := by
  have charged := Reaches.changeAccount s e.person fun a => a.captured e.day e.amounts.total freed
  have numbered : ∀ v : State, Reaches [.journal] v { v with journal := s.journal ++ [e], nextCharge := chargeAfter s.nextCharge } :=
    fun v => .of_restore rfl
  exact ((charged.trans (numbered _)).trans (Reaches.raiseWhen _ _ _ _)).mono (by decide)

/-- The last test of a capture, when it fails. -/
theorem journalFull_refused (u : State) (outlet : Nat) : JournalFullRefused u (u.afterCaptureRefusal .journalFull outlet) outlet where
  journal := ⟨rfl, rfl, rfl⟩
  reported := Bool.or_true _
  first h := by
    have reported : (u.afterCaptureRefusal .journalFull outlet)
        = ({ u with journalFullReported := true } : State).raise MemberId.journalFull outlet := by
      simp only [State.afterCaptureRefusal, h]
      rfl
    rw [reported]
    exact Raised.of_raise { u with journalFullReported := true } _ _
  later h := by
    have reported : (u.afterCaptureRefusal .journalFull outlet) = { u with journalFullReported := true } := by
      simp only [State.afterCaptureRefusal, h, Bool.not_true, Bool.and_false, State.raiseWhen_false, Bool.true_or]
    rw [reported]
    exact ⟨rfl, rfl⟩

section Capture

variable {α : Type} {kind : Byte} {decode : List Byte → Option α} {r : Request} {q : α} {c : Instr}
  {act : α → State → State × StationAnswer} {amounts : Amounts} {dropped : Bool} {a : Account} {outlet : Nat}
  (h : StationOffer s kind decode r q) (hx : exec c s = takeStation kind decode act r s)

include h hx

/-- A request whose capture is refused for a reason before the last. -/
theorem capture_refused {reason : Result} (hne : reason ≠ .journalFull)
    (ha : act q s.dropStationRequest = (s.dropStationRequest.afterCaptureRefusal reason outlet, refusedCapture amounts dropped reason a)) :
    ∃ t, exec c s = .next t ∧ Keeps [.station] s t
      ∧ (carriesAvailable reason → exec c s = .next t ∧ StationAnswered s t ⟨kind, r.tag, reason,
          { StationGroups.empty with amounts := some (amounts, dropped), available := some a.left }⟩)
      ∧ (¬ carriesAvailable reason → exec c s = .next t ∧ StationAnswered s t ⟨kind, r.tag, reason,
          { StationGroups.empty with amounts := some (amounts, dropped) }⟩) := by
  rw [afterCaptureRefusal_other hne] at ha
  obtain ⟨t, ⟨hx, hr⟩, hk⟩ := station_refused h hx ha
  refine ⟨t, hx, hk, fun hc => ⟨hx, ?_⟩, fun hc => ⟨hx, ?_⟩⟩
  · rw [if_pos ((carriesAvailable_iff reason).mp hc)] at hr
    exact hr
  · rw [if_neg fun hl => hc ((carriesAvailable_iff reason).mpr hl)] at hr
    exact hr

/-- A request whose capture finds the journal full. -/
theorem capture_full (ha : act q s.dropStationRequest
      = (s.dropStationRequest.afterCaptureRefusal .journalFull outlet, refusedCapture amounts dropped .journalFull a)) :
    ∃ t, (exec c s = .next t ∧ StationAnswered s t ⟨kind, r.tag, .journalFull,
        { StationGroups.empty with amounts := some (amounts, dropped), available := some a.left }⟩)
      ∧ JournalFullRefused s t outlet ∧ Keeps [.station, .journal, .notices, .wake] s t := by
  have full := journalFull_refused s.dropStationRequest outlet
  obtain ⟨t, hx, hr, hf, hk⟩ := station_acts (P := fun t => JournalFullRefused s t outlet) h hx ha
    (Reaches.afterCaptureRefusal _ _ _) (by decide) ⟨full.journal, full.reported, full.first, full.later⟩
  exact ⟨t, ⟨hx, hr⟩, hf, hk⟩

/-- A request that is captured, in a state that has the requester's account and the charge unit's journal. -/
theorem capture_granted {w : List Part} {e : Entry} {p : Person} {freed : Nat} {after : Account} (hs : s.Tidy)
    (hp : s.person e.person = some p) (hacc : p.account = some a)
    (ha : act q s.dropStationRequest = (u.capture e freed, grantedCapture amounts dropped after s.nextCharge))
    (hu : Reaches w s.dropStationRequest u) (hpersons : Part.persons ∉ w) (hjournal : Part.journal ∉ w)
    (hnotices : Part.notices ∉ w) (hwake : Part.wake ∉ w) (hhost : Part.host ∉ w) (hstation : Part.station ∉ w) :
    ∃ t, (exec c s = .next t ∧ StationAnswered s t ⟨kind, r.tag, .granted, { StationGroups.empty with
        amounts := some (amounts, dropped), available := some after.left, charge := some s.nextCharge }⟩)
      ∧ Captured s t e freed ∧ t.slots = u.slots ∧ Keeps (.station :: (w ++ [.persons, .journal, .notices, .wake])) s t := by
  have persons : u.persons = s.persons := hu .persons hpersons
  have asleep : u.host.asleep = s.host.asleep := by
    have host : { u.host with wake := s.dropStationRequest.host.wake } = s.dropStationRequest.host := hu .host hhost
    exact (congrArg HostLink.asleep host :)
  have holder : u.person e.person = some p := (congrArg (Table.read none · e.person) persons).trans hp
  obtain ⟨t, hx, hr, ⟨hc, hslots⟩, hk⟩ := station_acts (P := fun t => Captured s t e freed ∧ t.slots = u.slots) h hx ha (hu.trans (Reaches.capture u e freed))
    (by simp only [List.mem_append, not_or]; exact ⟨hstation, by decide⟩)
    ⟨Captured.of_capture (persons.symm ▸ hs.persons) holder hacc freed persons (hu .journal hjournal)
      ⟨hu .notices hnotices, hu .wake hwake, asleep⟩ rfl rfl ⟨rfl, rfl, rfl, rfl⟩ ⟨rfl, rfl⟩,
      Reaches.capture u e freed .holds (by decide)⟩
  exact ⟨t, ⟨hx, hr⟩, hc, hslots, hk⟩

end Capture

/-! ### Requests for a bar -/

section Bar

variable {q : Sale} {outlet i : Nat} {p : Person} {a : Account} {reason : Result}

theorem doBarSale_early (h : barRefusal s outlet = some reason) : doBarSale q outlet s = (s, .plain reason) := by
  simp only [doBarSale, h]

theorem doBarSale_failed (h : barRefusal s outlet = none) (hd : s.decodeCard q.card = .failed reason i) :
    doBarSale q outlet s = (s.afterDecodeFailure reason i,
      refusedPurchase (priceOf (s.outlet outlet) q.lines q.tip) (dropsTip (s.outlet outlet) q.tip) reason) := by
  simp only [doBarSale, h, hd]

theorem doBarSale_passed (h : barRefusal s outlet = none) (hd : s.decodeCard q.card = .passed i p) :
    doBarSale q outlet s = sellTo q outlet i p s := by
  simp only [doBarSale, h, hd]

theorem sellTo_error (h : accountTest p = .error reason) : sellTo q outlet i p s
    = (s, refusedPurchase (priceOf (s.outlet outlet) q.lines q.tip) (dropsTip (s.outlet outlet) q.tip) reason) := by
  simp only [sellTo, h]

theorem sellTo_refused (h : accountTest p = .ok a) (hc : captureRefusal s outlet a q.lines
      (priceOf (s.outlet outlet) q.lines q.tip).total (priceOf (s.outlet outlet) q.lines q.tip).total = some reason) :
    sellTo q outlet i p s = (s.afterCaptureRefusal reason outlet,
      refusedCapture (priceOf (s.outlet outlet) q.lines q.tip) (dropsTip (s.outlet outlet) q.tip) reason a) := by
  simp only [sellTo, h, hc]

theorem sellTo_granted (h : accountTest p = .ok a) (hc : captureRefusal s outlet a q.lines
      (priceOf (s.outlet outlet) q.lines q.tip).total (priceOf (s.outlet outlet) q.lines q.tip).total = none) :
    sellTo q outlet i p s = (s.capture (s.entryOf i p.generation outlet q.station .sale
        (priceOf (s.outlet outlet) q.lines q.tip) q.lines) 0,
      grantedCapture (priceOf (s.outlet outlet) q.lines q.tip) (dropsTip (s.outlet outlet) q.tip)
        (a.captured s.clock.currentDay (priceOf (s.outlet outlet) q.lines q.tip).total 0) s.nextCharge) := by
  simp only [sellTo, h, hc]

end Bar

/-- A station request whose card does not pass: the refusal, and FUTURE_CARD where that is the reason. -/
theorem station_undecoded {α : Type} {kind : Byte} {decode : List Byte → Option α} {r : Request} {q : α} {c : Instr}
    {act : α → State → State × StationAnswer} {reason : Result} {i : Nat} {groups : StationGroups}
    (h : StationOffer s kind decode r q) (hx : exec c s = takeStation kind decode act r s)
    (ha : act q s.dropStationRequest = (s.dropStationRequest.afterDecodeFailure reason i, ⟨reason, groups⟩)) :
    ∃ t, (exec c s = .next t ∧ StationAnswered s t ⟨kind, r.tag, reason, groups⟩)
      ∧ (reason = .futureCard → Raised s t MemberId.futureCard i) ∧ (reason ≠ .futureCard → Silent s t)
      ∧ Keeps [.station, .notices, .wake] s t := by
  obtain ⟨t, hx, hr, ⟨hf, hq⟩, hk⟩ := station_acts (P := fun t => (reason = .futureCard → Raised s t MemberId.futureCard i)
      ∧ (reason ≠ .futureCard → Silent s t)) h hx ha (Reaches.raiseWhen _ _ _ _) (by decide)
    ⟨fun e => by subst e; exact Raised.of_raise s.dropStationRequest _ _, fun e => by
      refine ⟨?_, ?_⟩ <;> simp [State.afterDecodeFailure, beq_eq_false_iff_ne.mpr e]⟩
  exact ⟨t, ⟨hx, hr⟩, hf, hq, hk⟩

/-- Settles O44: the tests come in their order, and a sale that passes them is captured. -/
theorem salesAreJudgedAndCaptured : Obligations.SalesAreJudgedAndCaptured := by
  intro s r q outlet hs h h1 h2 h3 o price priced answers
  have hx : exec (.barSale r) s = takeStation 0x04 decodeSale (fun q => atStation .bar q.station (doBarSale q)) r s := rfl
  have served : atStation .bar q.station (doBarSale q) s.dropStationRequest = doBarSale q outlet s.dropStationRequest :=
    atStation_served h1 h2 h3
  refine ⟨fun reason hf => ?_, fun hf => ⟨fun reason i hd => ?_, fun i p hd => ⟨fun hn => ?_, fun a hacc => ?_⟩⟩⟩
  · exact station_refused h hx (served.trans (doBarSale_early ((barTests_iff s outlet _).mp hf)))
  · exact station_undecoded h hx (served.trans (doBarSale_failed ((barTests_iff s outlet _).mp hf) hd))
  · have sold := served.trans (doBarSale_passed ((barTests_iff s outlet _).mp hf) hd)
    exact station_refused h hx (sold.trans (sellTo_error (accountTest_none hn)))
  · have sold := served.trans (doBarSale_passed ((barTests_iff s outlet _).mp hf) hd)
    intro tests left
    have judged := captureTests_iff s outlet a q.lines price.total price.total
    refine ⟨fun reason ht hne => ?_, fun ht => ?_, fun ht => ?_⟩
    · rcases (judged _).mp ht with ⟨hsus, hr⟩ | ⟨hsus, hr⟩
      · obtain ⟨t, ⟨hx, ha⟩, hk⟩ := station_refused h hx (sold.trans (sellTo_error (accountTest_suspended hacc hsus)))
        obtain rfl := Option.some.inj hr
        exact ⟨t, hx, hk, fun hc => by simp [carriesAvailable] at hc, fun _ => ⟨hx, ha⟩⟩
      · exact capture_refused h hx hne (sold.trans (sellTo_refused (accountTest_open hacc hsus) hr))
    · rcases (judged _).mp ht with ⟨hsus, hr⟩ | ⟨hsus, hr⟩
      · cases hr
      · exact capture_full h hx (sold.trans (sellTo_refused (accountTest_open hacc hsus) hr))
    · rcases (judged _).mp ht with ⟨hsus, hr⟩ | ⟨hsus, hr⟩
      · cases hr
      · have granted := sold.trans (sellTo_granted (accountTest_open hacc hsus) hr)
        rw [State.generation_of_passed hd] at granted
        obtain ⟨t, ha, hc, -, hk⟩ := capture_granted h hx hs (State.person_of_passed hd) hacc granted (w := []) (Reaches.start _)
          (by decide) (by decide) (by decide) (by decide) (by decide) (by decide)
        exact ⟨t, ha, hc, hk⟩

end Sys2Proof.Machine
end

section
/-!
PROOFS. The obligations on the hold table: the opening and the closing of a tab, the expiry and the release of a hold (R103 to
R112).
-/

namespace Sys2Proof.Machine

variable {s t u : State} {outlet i k : Nat} {p : Person} {a : Account} {reason : Result} {h : Hold}

/-! ### BAR_OPEN_TAB -/

theorem freeSlot_none_iff : s.freeSlot.isNone = true ↔ ∀ k < 512, (s.slot k).hold ≠ none := by
  rw [Option.isNone_iff_eq_none, State.freeSlot, List.find?_eq_none]
  simp only [List.mem_range, Option.isNone_iff_eq_none, ne_eq]

theorem freeSlot_eq (hk : k < 512) (hn : (s.slot k).hold = none) (hb : ∀ j < k, (s.slot j).hold ≠ none) :
    s.freeSlot = some k := by
  refine List.find?_range_eq_some.mpr ⟨by rw [hn]; rfl, List.mem_range.mpr hk, fun j hj => ?_⟩
  simpa [Option.isSome_iff_ne_none] using hb j hj

/-- The tests of a tab's opening, judged in order. -/
theorem openTests_iff (s : State) (outlet i : Nat) (a : Account) (amount : Nat) (r : Option Result) :
    FirstFailing (a.tests (s.outlet outlet) s.clock.currentDay [] amount amount
        ++ [(4 ≤ (s.holdsOf i).length, .holdLimit), (∀ k < 512, (s.slot k).hold ≠ none, .holdsFull)]) r
      ↔ (a.suspended = true ∧ r = some .suspended)
        ∨ (a.suspended = false ∧ openTabRefusal s outlet i a amount = r) := by
  rw [Account.tests_iff]
  refine or_congr Iff.rfl (and_congr_right fun _ => ?_)
  unfold openTabRefusal
  cases authorization (s.outlet outlet) a [] amount amount s.clock.currentDay with
  | some x => simp [eq_comm]
  | none =>
    simp only [reduceCtorEq, false_and, exists_false, false_or, true_and, FirstFailing, ← freeSlot_none_iff]
    generalize s.freeSlot.isNone = none
    by_cases h4 : 4 ≤ (s.holdsOf i).length
    · simp [h4, eq_comm]
    · cases none <;> simp [h4, eq_comm]

section Open

variable {q : OpenTab}

theorem doOpenTab_early (h : barRefusal s outlet = some reason) : doOpenTab q outlet s = (s, .plain reason) := by
  simp only [doOpenTab, h]

theorem doOpenTab_failed (h : barRefusal s outlet = none) (hd : s.decodeCard q.card = .failed reason i) :
    doOpenTab q outlet s = (s.afterDecodeFailure reason i, .plain reason) := by
  simp only [doOpenTab, h, hd]

theorem doOpenTab_passed (h : barRefusal s outlet = none) (hd : s.decodeCard q.card = .passed i p) :
    doOpenTab q outlet s = openTabFor q outlet i p s := by
  simp only [doOpenTab, h, hd]

theorem openTabFor_error (h : accountTest p = .error reason) : openTabFor q outlet i p s = (s, .plain reason) := by
  simp only [openTabFor, h]

theorem openTabFor_refused (h : accountTest p = .ok a) (hr : openTabRefusal s outlet i a q.amount = some reason) :
    openTabFor q outlet i p s = (s, ⟨reason, { StationGroups.empty with
      available := if reason.creditOrLater then some a.available else none }⟩) := by
  simp only [openTabFor, h, hr]

theorem openTabFor_granted (h : accountTest p = .ok a) (hr : openTabRefusal s outlet i a q.amount = none)
    (hf : s.freeSlot = some k) : openTabFor q outlet i p s = grantTab q outlet i k a s := by
  simp only [openTabFor, h, hr, hf]

end Open

/-- What a change of a slot and of an account leaves. -/
theorem slotAndAccount (hp : s.persons.wf none) (hw : s.slots.wf Slot.reset) (k : Nat) (v : Slot) (i : Nat) (f : Account → Account) :
    (∀ j, ((s.putSlot k v).changeAccount i f).slot j = if j = k then v else s.slot j)
      ∧ AccountChanged s ((s.putSlot k v).changeAccount i f) i f
      ∧ Reaches [.persons, .holds] s ((s.putSlot k v).changeAccount i f) := by
  have account := Reaches.changeAccount (s.putSlot k v) i f
  refine ⟨fun j => ?_, AccountChanged.of_changeAccount (s := s.putSlot k v) hp i f,
    ((Reaches.putSlot s k v).trans account).mono (by decide)⟩
  exact (congrArg (Table.read Slot.reset · j) (account .holds (by decide))).trans (Table.read_write hw k v j)

/-- Settles O45: the tests come in their order, and a tab that passes them takes the lowest FREE slot. -/
theorem tabOpeningsAreJudgedAndHeld : Obligations.TabOpeningsAreJudgedAndHeld := by
  intro s r q outlet hs h h1 h2 h3 answers
  have hx : exec (.barOpenTab r) s = takeStation 0x05 decodeOpenTab (fun q => atStation .bar q.station (doOpenTab q)) r s := rfl
  have served : atStation .bar q.station (doOpenTab q) s.dropStationRequest = doOpenTab q outlet s.dropStationRequest :=
    atStation_served h1 h2 h3
  refine ⟨fun reason hf => ?_, fun hf => ⟨fun reason i hd => ?_, fun i p hd => ⟨fun hn => ?_, fun a hacc => ?_⟩⟩⟩
  · exact station_refused h hx (served.trans (doOpenTab_early ((barTests_iff s outlet _).mp hf)))
  · exact station_undecoded h hx (served.trans (doOpenTab_failed ((barTests_iff s outlet _).mp hf) hd))
  · have opened := served.trans (doOpenTab_passed ((barTests_iff s outlet _).mp hf) hd)
    exact station_refused h hx (opened.trans (openTabFor_error (accountTest_none hn)))
  · have opened := served.trans (doOpenTab_passed ((barTests_iff s outlet _).mp hf) hd)
    intro tests
    have judged := openTests_iff s outlet i a q.amount
    refine ⟨fun reason ht => ?_, fun k hk ht hfree hbelow => ?_⟩
    · rcases (judged _).mp ht with ⟨hsus, hr⟩ | ⟨hsus, hr⟩
      · obtain ⟨t, ⟨hx, ha⟩, hk⟩ := station_refused h hx (opened.trans (openTabFor_error (accountTest_suspended hacc hsus)))
        obtain rfl := Option.some.inj hr
        exact ⟨t, hx, hk, fun hc => by simp [carriesAvailable] at hc, fun _ => ⟨hx, ha⟩⟩
      · obtain ⟨t, ⟨hx, ha⟩, hk⟩ := station_refused h hx (opened.trans (openTabFor_refused (accountTest_open hacc hsus) hr))
        refine ⟨t, hx, hk, fun hc => ⟨hx, ?_⟩, fun hc => ⟨hx, ?_⟩⟩
        · rw [if_pos ((carriesAvailable_iff reason).mp hc)] at ha
          exact ha
        · rw [if_neg fun hl => hc ((carriesAvailable_iff reason).mpr hl)] at ha
          exact ha
    · rcases (judged _).mp ht with ⟨hsus, hr⟩ | ⟨hsus, hr⟩
      · cases hr
      · have granted := opened.trans (openTabFor_granted (s := s.dropStationRequest) (accountTest_open hacc hsus) hr
          (freeSlot_eq (s := s.dropStationRequest) hk hfree hbelow))
        obtain ⟨hslot, haccount, hreach⟩ := slotAndAccount (s := s.dropStationRequest) hs.persons hs.slots k
          { tag := (s.slot k).tag + 1, hold := some (s.newHold q outlet i) } i fun a => { a with held := a.held + q.amount }
        obtain ⟨t, hx, ha, ⟨hslots, hperson⟩, hk⟩ := station_acts (P := fun t => (∀ j, t.slot j = if j = k then
            { tag := (s.slot k).tag + 1, hold := some (s.newHold q outlet i) } else s.slot j)
            ∧ AccountChanged s t i fun a => { a with held := a.held + q.amount }) h hx granted hreach (by decide) ⟨hslot, haccount⟩
        exact ⟨t, ⟨hx, ha⟩, hslots, hperson, hk⟩

/-! ### BAR_CLOSE_TAB -/

section Close

variable {q : CloseTab}

theorem holdAt_none {tag : BitVec 8} (h : (s.slot k).hold = none ∨ (s.slot k).tag ≠ tag) : s.holdAt k tag = none := by
  unfold State.holdAt
  split
  · next ht => exact h.resolve_right fun hn => hn ht
  · rfl

theorem holdAt_some {tag : BitVec 8} (hh : (s.slot k).hold = some h) (ht : (s.slot k).tag = tag) : s.holdAt k tag = some h := by
  rw [State.holdAt, if_pos ht, hh]

theorem doCloseTab_early (h : barRefusal s outlet = some reason) : doCloseTab q outlet s = (s, .plain reason) := by
  simp only [doCloseTab, h]

theorem doCloseTab_gone (hb : barRefusal s outlet = none) (hh : s.holdAt q.slot q.tag = none) : doCloseTab q outlet s
    = (s, refusedPurchase (priceOf (s.outlet outlet) q.lines q.tip) (dropsTip (s.outlet outlet) q.tip) .holdGone) := by
  simp only [doCloseTab, hb, hh]

theorem doCloseTab_held (hb : barRefusal s outlet = none) (hh : s.holdAt q.slot q.tag = some h) :
    doCloseTab q outlet s = closeHold q outlet h s := by
  simp only [doCloseTab, hb, hh]

theorem closeHold_elsewhere (ho : h.outlet ≠ outlet) : closeHold q outlet h s
    = (s, refusedPurchase (priceOf (s.outlet outlet) q.lines q.tip) (dropsTip (s.outlet outlet) q.tip) .wrongOutlet) := by
  simp only [closeHold, if_pos ho]

theorem closeHold_error (ho : h.outlet = outlet) (ht : holderTest s h = .error reason) : closeHold q outlet h s
    = (s, refusedPurchase (priceOf (s.outlet outlet) q.lines q.tip) (dropsTip (s.outlet outlet) q.tip) reason) := by
  simp only [closeHold, ho, ne_eq, not_true_eq_false, if_false, ht]

theorem closeHold_refused {g : BitVec 4} (ho : h.outlet = outlet) (ht : holderTest s h = .ok (g, a))
    (hc : captureRefusal s outlet a q.lines (priceOf (s.outlet outlet) q.lines q.tip).total
      ((priceOf (s.outlet outlet) q.lines q.tip).total - h.amount) = some reason) :
    closeHold q outlet h s = (s.afterCaptureRefusal reason outlet,
      refusedCapture (priceOf (s.outlet outlet) q.lines q.tip) (dropsTip (s.outlet outlet) q.tip) reason a) := by
  simp only [closeHold, ho, ne_eq, not_true_eq_false, if_false, ht, hc]

theorem closeHold_granted {g : BitVec 4} (ho : h.outlet = outlet) (ht : holderTest s h = .ok (g, a))
    (hc : captureRefusal s outlet a q.lines (priceOf (s.outlet outlet) q.lines q.tip).total
      ((priceOf (s.outlet outlet) q.lines q.tip).total - h.amount) = none) :
    closeHold q outlet h s = ((s.vacate q.slot).capture (s.entryOf h.person g outlet q.station .tabClose
        (priceOf (s.outlet outlet) q.lines q.tip) q.lines) h.amount,
      grantedCapture (priceOf (s.outlet outlet) q.lines q.tip) (dropsTip (s.outlet outlet) q.tip)
        (a.captured s.clock.currentDay (priceOf (s.outlet outlet) q.lines q.tip).total h.amount) s.nextCharge) := by
  simp only [closeHold, ho, ne_eq, not_true_eq_false, if_false, ht, hc]

theorem holderTest_suspended (hp : s.person h.person = some p) (ha : p.account = some a) (hs : a.suspended = true) :
    holderTest s h = .error .suspended := by
  simp only [holderTest, hp, accountTest_suspended ha hs]

theorem holderTest_open (hp : s.person h.person = some p) (ha : p.account = some a) (hs : a.suspended = false) :
    holderTest s h = .ok (p.generation, a) := by
  simp only [holderTest, hp, accountTest_open ha hs]

end Close

/-- Settles O46: the tests come in their order against the hold, and a close that passes them is captured. -/
theorem tabClosesAreJudgedAndCaptured : Obligations.TabClosesAreJudgedAndCaptured := by
  intro s r q outlet hs h h1 h2 h3 o price priced answers
  have hx : exec (.barCloseTab r) s = takeStation 0x06 decodeCloseTab (fun q => atStation .bar q.station (doCloseTab q)) r s := rfl
  have served : atStation .bar q.station (doCloseTab q) s.dropStationRequest = doCloseTab q outlet s.dropStationRequest :=
    atStation_served h1 h2 h3
  refine ⟨fun reason hf => ?_, fun hf => ⟨fun hg => ?_, fun hold hh htag => ⟨fun ho => ?_, fun p a ho hp hacc => ?_⟩⟩⟩
  · exact station_refused h hx (served.trans (doCloseTab_early ((barTests_iff s outlet _).mp hf)))
  · exact station_refused h hx (served.trans (doCloseTab_gone ((barTests_iff s outlet _).mp hf) (holdAt_none (s := s.dropStationRequest) hg)))
  all_goals have closed := served.trans (doCloseTab_held ((barTests_iff s outlet _).mp hf) (holdAt_some (s := s.dropStationRequest) hh htag))
  · exact station_refused h hx (closed.trans (closeHold_elsewhere ho))
  · intro tests left
    have judged := captureTests_iff s outlet a q.lines price.total (price.total - hold.amount)
    refine ⟨fun reason ht hne => ?_, fun ht => ?_, fun ht => ?_⟩
    · rcases (judged _).mp ht with ⟨hsus, hr⟩ | ⟨hsus, hr⟩
      · obtain ⟨t, ⟨hx, ha⟩, hk⟩ := station_refused h hx
          (closed.trans (closeHold_error ho (holderTest_suspended (s := s.dropStationRequest) hp hacc hsus)))
        obtain rfl := Option.some.inj hr
        exact ⟨t, hx, hk, fun hc => by simp [carriesAvailable] at hc, fun _ => ⟨hx, ha⟩⟩
      · exact capture_refused h hx hne (closed.trans (closeHold_refused ho (holderTest_open (s := s.dropStationRequest) hp hacc hsus) hr))
    · rcases (judged _).mp ht with ⟨hsus, hr⟩ | ⟨hsus, hr⟩
      · cases hr
      · exact capture_full h hx (closed.trans (closeHold_refused ho (holderTest_open (s := s.dropStationRequest) hp hacc hsus) hr))
    · rcases (judged _).mp ht with ⟨hsus, hr⟩ | ⟨hsus, hr⟩
      · cases hr
      · have granted := closed.trans (closeHold_granted ho (holderTest_open (s := s.dropStationRequest) hp hacc hsus) hr)
        obtain ⟨t, ha, hc, hslots, hk⟩ := capture_granted h hx hs hp hacc granted (w := [.holds]) (Reaches.putSlot _ _ _) (by decide)
          (by decide) (by decide) (by decide) (by decide) (by decide)
        refine ⟨t, ha, fun j => ?_, hc, hk.mono (by decide)⟩
        refine (congrArg (Table.read Slot.reset · j) hslots).trans ((Table.read_write hs.slots q.slot _ j).trans ?_)
        split
        · next hj => rw [hj]; rfl
        · rfl

/-! ### HOLD_EXPIRY and RELEASE_HOLD -/

/-- What the freeing of a hold leaves. -/
theorem freeHold_frees (hp : s.persons.wf none) (hw : s.slots.wf Slot.reset) (k : Nat) (h : Hold) :
    (∀ j, (s.freeHold k h).slot j = if j = k then { s.slot j with hold := none } else s.slot j)
      ∧ AccountChanged s (s.freeHold k h) h.person (fun a => { a with held := a.held - h.amount })
      ∧ Reaches [.persons, .holds] s (s.freeHold k h) := by
  obtain ⟨hslot, haccount, hreach⟩ := slotAndAccount hp hw k { s.slot k with hold := none } h.person
    fun a => { a with held := a.held - h.amount }
  refine ⟨fun j => (hslot j).trans ?_, haccount, hreach⟩
  split
  · next hj => rw [hj]
  · rfl

theorem exec_holdExpiry (hk : k < 512) (hh : (s.slot k).hold = some h) : exec (.holdExpiry k) s
    = if h.arrived ∧ ¬ s.muster.active then event (s.expireHold k h) else .next s := by
  change execHoldExpiry k s = _
  simp only [execHoldExpiry, if_neg (Nat.not_le.mpr hk), hh]

theorem doReleaseHold_gone {tag : BitVec 8} (hg : s.holdAt k tag = none) : doReleaseHold (k, tag) s = (s, .plain .holdGone) := by
  simp only [doReleaseHold, hg]

theorem doReleaseHold_held {tag : BitVec 8} (hh : s.holdAt k tag = some h) :
    doReleaseHold (k, tag) s = (s.freeHold k h, .okay [.b2 h.person, .b4 h.amount]) := by
  simp only [doReleaseHold, hh]

/-- An event raised after what reaches neither the notices nor the host link. -/
theorem Raised.across {w : List Part} {m : MemberId} {d : Nat} (hr : Raised u t m d) (h : Reaches w s u) (hn : Part.notices ∉ w)
    (hw : Part.wake ∉ w) (hh : Part.host ∉ w) : Raised s t m d := by
  have notices : u.notices = s.notices := h .notices hn
  have wake : u.host.wake = s.host.wake := h .wake hw
  have host : { u.host with wake := s.host.wake } = s.host := h .host hh
  have asleep : u.host.asleep = s.host.asleep := (congrArg HostLink.asleep host :)
  unfold Raised at hr ⊢
  rwa [notices, wake, asleep] at hr

/-- Settles O48: an expiry and a release free the hold alike. -/
theorem holdsExpireAndAreReleased : Obligations.HoldsExpireAndAreReleased := by
  unfold Obligations.HoldsExpireAndAreReleased
  intro freed
  refine ⟨fun s k h hs hk hh => ⟨fun harr hm => ?_, fun hm => ?_⟩, fun s r k tag hs h => ⟨fun hg => ?_, fun hold hh ht => ?_⟩⟩
  · obtain ⟨hslot, haccount, hreach⟩ := freeHold_frees hs.persons hs.slots k h
    have raised := Raised.of_raise (s.freeHold k h) MemberId.holdExpired h.person
    have hx : exec (.holdExpiry k) s = event (s.expireHold k h) := (exec_holdExpiry hk hh).trans (if_pos ⟨harr, by simp [hm]⟩)
    obtain ⟨t, hx, ⟨hf, hr⟩, hk⟩ := event_acts (P := fun t => freed s t k h ∧ Raised s t MemberId.holdExpired h.person) hx
      (hreach.trans (Reaches.raise _ _ _)) ⟨⟨hslot, haccount⟩, raised.across hreach (by decide) (by decide) (by decide)⟩
    exact ⟨t, hx, hf, hr, hk⟩
  · rw [exec_holdExpiry hk hh, if_neg fun hc => hc.2 hm]
  · exact host_refused h rfl (doReleaseHold_gone (holdAt_none (s := s.dropHostRequest) hg))
  · obtain ⟨hslot, haccount, hreach⟩ := freeHold_frees (s := s.dropHostRequest) hs.persons hs.slots k hold
    obtain ⟨t, hx, ha, hf, hk⟩ := host_acts (c := .releaseHold r) (act := doReleaseHold) (P := fun t => freed s t k hold) h rfl
      (doReleaseHold_held (holdAt_some (s := s.dropHostRequest) hh ht)) hreach (by decide) ⟨hslot, haccount⟩
    exact ⟨t, hx, ha, hf, hk⟩

end Sys2Proof.Machine
end

section
/-!
PROOFS. The obligations on the charge journal: the voiding of an entry, and the posting of the oldest (R115 to R124, R153, R175).
-/

namespace Sys2Proof.Machine

variable {s t u : State} {outlet g : Nat} {reason : Result} {e : Entry}

/-! ### BAR_VOID -/

/-- The reach of a step that changes the journal. -/
theorem Reaches.removeEntry (s : State) (charge : Nat) : Reaches [.journal] s (s.removeEntry charge) := .of_restore rfl

/-- The removal of the first entry of a charge number. -/
theorem removeEntry_journal {before after : List Entry} (hj : s.journal = before ++ e :: after)
    (hb : ∀ x ∈ before, x.charge ≠ e.charge) : (s.removeEntry e.charge).journal = before ++ after := by
  change s.journal.eraseP _ = _
  rw [hj, List.eraseP_append_right _ (fun x hx => by simpa using hb x hx)]
  simp

section Void

variable {q : VoidCharge}

theorem doBarVoid_muster (h : s.muster.active = true) : doBarVoid q outlet s = (s, .plain .muster) := if_pos h

theorem doBarVoid_missing (h : s.muster.active = false) (hn : ∀ e ∈ s.journal, e.charge ≠ q.charge) :
    doBarVoid q outlet s = (s, .plain .notInJournal) := by
  have none : s.journal.find? (fun e => e.charge == q.charge) = none := List.find?_eq_none.mpr fun e he => by simpa using hn e he
  simp only [doBarVoid, h, Bool.false_eq_true, if_false, none]

theorem find_entry {before after : List Entry} {charge : Nat} (hj : s.journal = before ++ e :: after) (he : e.charge = charge)
    (hb : ∀ x ∈ before, x.charge ≠ charge) : s.journal.find? (fun e => e.charge == charge) = some e := by
  rw [hj, List.find?_append, List.find?_eq_none.mpr fun x hx => by simpa using hb x hx]
  simp [he]

theorem doBarVoid_refused (h : s.muster.active = false) (hf : s.journal.find? (fun e => e.charge == q.charge) = some e)
    (hr : voidRefusal s outlet e = some reason) : doBarVoid q outlet s = (s, .plain reason) := by
  simp only [doBarVoid, h, Bool.false_eq_true, if_false, hf, hr]

theorem doBarVoid_granted (h : s.muster.active = false) (hf : s.journal.find? (fun e => e.charge == q.charge) = some e)
    (hr : voidRefusal s outlet e = none) : doBarVoid q outlet s = grantVoid e s := by
  simp only [doBarVoid, h, Bool.false_eq_true, if_false, hf, hr]

end Void

/-- The tests of a void against the entry, judged in order. -/
theorem voidTests_iff (s : State) (outlet : Nat) (e : Entry) (r : Option Result) :
    FirstFailing [(e.outlet ≠ outlet, Result.wrongOutlet),
        ((s.outlet outlet).voidWindow = 0 ∨ e.shipTime + (s.outlet outlet).voidWindow < s.clock.shipTime, .voidWindow)] r
      ↔ voidRefusal s outlet e = r := by
  simp only [FirstFailing, voidRefusal, voidTooLate, Bool.or_eq_true, beq_iff_eq, decide_eq_true_eq]
  by_cases ho : e.outlet = outlet
  · by_cases hw : (s.outlet outlet).voidWindow = 0 ∨ e.shipTime + (s.outlet outlet).voidWindow < s.clock.shipTime
    · simp only [ho, hw, ne_eq, not_true_eq_false, if_false, if_true, false_and, not_false_eq_true, true_and, false_or, or_false,
        @eq_comm _ r]
    · simp only [ho, hw, ne_eq, not_true_eq_false, if_false, false_and, not_false_eq_true, true_and, false_or, @eq_comm _ r]
  · simp only [ho, ne_eq, not_false_eq_true, if_true, true_and, not_true_eq_false, false_and, or_false, @eq_comm _ r]

theorem journalRoom (s : State) : (!s.journalIsFull) = decide (s.journal.length < 1024) := by
  rw [State.journalIsFull, ← decide_not]
  exact decide_eq_decide.mpr Nat.not_le

/-- Settles O47: the tests come in their order, and a void that passes them takes the entry out. -/
theorem voidsWithdrawEntries : Obligations.VoidsWithdrawEntries := by
  intro s r q outlet hs h h1 h2 h3 answers
  have hx : exec (.barVoid r) s = takeStation 0x07 decodeVoid (fun q => atStation .bar q.station (doBarVoid q)) r s := rfl
  have served : atStation .bar q.station (doBarVoid q) s.dropStationRequest = doBarVoid q outlet s.dropStationRequest :=
    atStation_served h1 h2 h3
  refine ⟨fun reason hf => ?_, fun before e after hm hj he hb => ⟨fun reason ht => ?_, fun ht => ?_⟩⟩
  · rcases hf with ⟨hm, hr⟩ | ⟨hm, ⟨hn, hr⟩ | ⟨-, hr⟩⟩
    · obtain rfl := Option.some.inj hr
      exact station_refused h hx (served.trans (doBarVoid_muster hm))
    · obtain rfl := Option.some.inj hr
      exact station_refused h hx (served.trans (doBarVoid_missing (Bool.not_eq_true _ ▸ hm) hn))
    · cases hr
  · have found := find_entry hj he hb
    exact station_refused h hx (served.trans (doBarVoid_refused hm found ((voidTests_iff s outlet e _).mp ht)))
  · intro voided
    have found := find_entry hj he hb
    have granted := served.trans (doBarVoid_granted (s := s.dropStationRequest) hm found ((voidTests_iff s outlet e _).mp ht))
    have removed := Reaches.removeEntry s.dropStationRequest e.charge
    have account := Reaches.changeAccount (s.dropStationRequest.removeEntry e.charge) e.person fun a => a.voided e
    have free : ∀ (v : State) n, Reaches [.freeIndex] v { v with freeIndex := n } := fun v n => .of_restore rfl
    obtain ⟨hjournal, hallowance, hnumber, hreported⟩ := account .journal (by decide)
    obtain ⟨t, hx, ha, ⟨⟨tj, ta, tn, tr⟩, hp⟩, hk⟩ := station_acts (P := fun t => (t.journal = before ++ after
        ∧ t.allowance = s.allowance ∧ t.nextCharge = s.nextCharge
        ∧ t.journalFullReported = (s.journalFullReported && decide (s.journal.length < 1024)))
        ∧ AccountChanged s t e.person voided) h hx granted ((removed.trans account).trans (free _ _)) (by decide)
      ⟨⟨hjournal.trans (removeEntry_journal (s := s.dropStationRequest) hj (he ▸ hb)), hallowance, hnumber, hreported.trans (congrArg (s.journalFullReported && ·) (journalRoom s) :)⟩,
        AccountChanged.of_changeAccount (s := s.dropStationRequest.removeEntry e.charge) hs.persons _ _⟩
    · refine ⟨t, s.availableAfterVoid e, ⟨hx, ?_⟩, fun a hacc => ?_, tj, ta, tn, tr, hp, hk.mono (by decide)⟩
      · rw [← he]
        exact ha
      · simp only [State.availableAfterVoid, hacc]
        rfl

/-! ### Posting -/

theorem deliverable_iff : s.deliverable g = true ↔ s.mayDeliver g := by
  simp only [State.deliverable, State.mayDeliver, Bool.and_eq_true, Bool.or_eq_true, decide_eq_true_eq, beq_iff_eq,
    Bool.not_eq_true', and_assoc]

/-- The arbiter chooses some group where it has one to choose from. -/
theorem preferred_some (n : Notices) (b : Option Nat) (g : Nat) : ∃ c, n.preferred b g = some c := by
  cases b with
  | none => exact ⟨g, rfl⟩
  | some b => unfold Notices.preferred; dsimp only; split <;> exact ⟨_, rfl⟩

theorem foldl_preferred_some (n : Notices) (gs : List Nat) : ∀ b, ∃ c, gs.foldl n.preferred (some b) = some c := by
  induction gs with
  | nil => exact fun b => ⟨b, rfl⟩
  | cons g gs ih =>
    intro b
    obtain ⟨c, hc⟩ := preferred_some n (some b) g
    rw [List.foldl_cons, hc]
    exact ih c

theorem chosenGroup_none_iff : s.chosenGroup = none ↔ ∀ g < 10, ¬ s.mayDeliver g := by
  have empty : (List.range 10).filter s.deliverable = [] ↔ ∀ g < 10, ¬ s.mayDeliver g := by
    simp only [List.filter_eq_nil_iff, List.mem_range, deliverable_iff]
  rw [← empty, State.chosenGroup]
  cases (List.range 10).filter s.deliverable with
  | nil => simp
  | cons g gs =>
    obtain ⟨c, hc⟩ := preferred_some s.notices none g
    obtain ⟨d, hd⟩ := foldl_preferred_some s.notices gs c
    simp [hc, hd]

theorem hostFree_iff : s.hostFree = true ↔ s.isStarting = false ∧ s.host.sending = none ∧ s.host.started = none := by
  simp [State.hostFree, and_assoc]

theorem postReady_iff : s.postReady = true ↔ 0 < s.allowance ∧ s.journal ≠ [] ∧ s.host.asleep = false := by
  simp [State.postReady, and_assoc]

theorem exec_chargePostStart (hf : s.hostFree = true) (hr : s.host.replies = []) (hg : s.chosenGroup = none)
    {rest : List Entry} (hp : s.postReady = true) (hj : s.journal = e :: rest) :
    exec .chargePostStart s = event ((s.post e).sendHost e.frame) := by
  change execChargePostStart s = _
  rw [execChargePostStart, if_pos ⟨hf, hr, hg, hp⟩, hj]
  rfl

theorem exec_chargePostStart_held (h : ¬ (s.hostFree = true ∧ s.host.replies = [] ∧ s.chosenGroup = none ∧ s.postReady = true)) :
    exec .chargePostStart s = .next s := if_neg h

/-- The part once the oldest entry is posted, the notices apart. -/
def State.posted (e : Entry) (s : State) : State :=
  { s with
    journal := s.journal.tail
    journalFullReported := s.journalFullReported && !s.journalIsFull
    allowance := s.allowance - 1 : State }.changeAccount e.person fun a => a.afterPost e.amounts.total

theorem post_eq (s : State) (e : Entry) : s.post e
    = ((s.posted e).raiseWhen (clampsBalance (s.accountOf e.person) e.amounts.total) MemberId.balanceClamped e.person).raiseWhen
      (s.allowance == 1) MemberId.postingDrained s.journal.tail.length := rfl

theorem Reaches.posted (s : State) (e : Entry) : Reaches [.journal, .persons] s (s.posted e) := by
  have taken : Reaches [.journal] s { s with
      journal := s.journal.tail, journalFullReported := s.journalFullReported && !s.journalIsFull, allowance := s.allowance - 1 } :=
    .of_restore rfl
  exact taken.trans (Reaches.changeAccount _ e.person _)

theorem posted_host (s : State) (e : Entry) : (s.posted e).host = s.host := by
  have reach := Reaches.posted s e
  have host : { (s.posted e).host with wake := s.host.wake } = s.host := reach .host (by decide)
  have wake : (s.posted e).host.wake = s.host.wake := reach .wake (by decide)
  rw [← wake] at host
  exact host

/-- What a posting leaves of the journal. -/
theorem posted_journal (s : State) (e : Entry) : (s.posted e).journal = s.journal.tail ∧ (s.posted e).allowance = s.allowance - 1
    ∧ (s.posted e).nextCharge = s.nextCharge
    ∧ (s.posted e).journalFullReported = (s.journalFullReported && decide (s.journal.length < 1024)) := by
  rw [← journalRoom]
  exact (Reaches.changeAccount _ e.person _) .journal (by decide)

/-- The start of a frame, after a step that leaves the wake output. -/
theorem frame_starts {c : Instr} {f : OutFrame} (hx : exec c s = event (u.sendHost f))
    (hr : Reaches [.journal, .persons, .notices, .wake] s u) (hw : u.host.wake = s.host.wake) :
    ∃ t, exec c s = .next t ∧ t.host = { s.host with sending := some f } ∧ Keeps [.host, .persons, .journal, .notices] s t
      ∧ (t.journal = u.journal ∧ t.allowance = u.allowance ∧ t.nextCharge = u.nextCharge
        ∧ t.journalFullReported = u.journalFullReported) ∧ t.persons = u.persons ∧ t.notices = u.notices := by
  have rest : { u.host with wake := s.host.wake } = s.host := hr .host (by decide)
  rw [← hw] at rest
  have steady : Reaches [.journal, .persons, .notices] s u := fun p hp => by
    by_cases h : p = .wake
    · subst h
      exact hw
    · refine hr p fun hm => ?_
      simp only [List.mem_cons, List.not_mem_nil, or_false] at hm hp
      tauto
  have sent : Reaches [.host] u (u.sendHost f) := .of_restore rfl
  exact ⟨_, hx, congrArg (fun h : HostLink => { h with sending := some f }) rest, ((steady.trans sent).mono (by decide)).turned,
    ⟨rfl, rfl, rfl, rfl⟩, rfl, rfl⟩

/-- Settles O49: a grant, a start held back, the posting of the head of the journal, and the bytes of its frame. -/
theorem postingTakesTheOldest : Obligations.PostingTakesTheOldest := by
  refine ⟨fun s r n h => ?_, fun s hs => ?_, fun s e rest hs hst hsend hstarted hrep hg has hal hj => ?_, fun e => ?_⟩
  · have granted : Reaches [.journal] s.dropHostRequest { s.dropHostRequest with allowance := min (s.allowance + n) 1024 } :=
      .of_restore rfl
    obtain ⟨t, hx, ha, ⟨h1, h2, h3, h4⟩, hk⟩ := host_acts (c := .grantPosting r) (act := doGrantPosting)
      (P := fun t => t.allowance = min (s.allowance + n) 1024 ∧ t.journal = s.journal ∧ t.nextCharge = s.nextCharge
        ∧ t.journalFullReported = s.journalFullReported) h rfl rfl granted (by decide) ⟨rfl, rfl, rfl, rfl⟩
    exact ⟨t, hx, ha, h1, h2, h3, h4, hk⟩
  · refine exec_chargePostStart_held fun hc => ?_
    rw [hostFree_iff, chosenGroup_none_iff, postReady_iff] at hc
    obtain ⟨⟨h1, h2, h3⟩, h4, h5, h6, h7, h8⟩ := hc
    rcases hs with hs | hs | hs | hs | ⟨g, hg, hs⟩ | hs | hs | hs
    · rw [h1] at hs; cases hs
    · exact hs h2
    · exact hs h3
    · exact hs h4
    · exact h5 g hg hs
    · rw [h8] at hs; cases hs
    · omega
    · exact h7 hs
  · have hx := exec_chargePostStart (hostFree_iff.mpr ⟨hst, hsend, hstarted⟩) hrep (chosenGroup_none_iff.mpr hg)
      (postReady_iff.mpr ⟨hal, by rw [hj]; nofun, has⟩) hj
    have reach := Reaches.posted s e
    obtain ⟨journal, allowance, number, reported⟩ := posted_journal s e
    have notices : (s.posted e).notices = s.notices := reach .notices (by decide)
    have host : (s.posted e).host = s.host := posted_host s e
    have clamps : clampsBalance (s.accountOf e.person) e.amounts.total = true
        ↔ ∃ a ∈ s.accountOf e.person, 99999999 < a.posted + e.amounts.total :=
      (Option.any_eq_true _ _).trans (exists_congr fun a => and_congr Iff.rfl decide_eq_true_iff)
    have raised : RaisedAll s (s.post e) (eventIf (∃ a ∈ s.accountOf e.person, 99999999 < a.posted + e.amounts.total)
        MemberId.balanceClamped e.person ++ eventIf (s.allowance = 1) MemberId.postingDrained rest.length) := by
      rw [post_eq, hj, ← eventIf_congr clamps, ← eventIf_congr (p := (s.allowance == 1) = true) (beq_iff_eq)]
      refine RaisedAll.raiseWhen (RaisedAll.raiseWhen (es := []) (.of_silent ⟨notices, ?_⟩) hs.members ?_ _ nofun) hs.members ?_ _
        fun x hx => ?_
      · rw [host]
      · rw [host]
      · exact (congrArg HostLink.asleep host :)
      · rw [(mem_eventIf.mp hx).2]
        exact (by decide : MemberId.balanceClamped.key ≠ MemberId.postingDrained.key)
    have posts : Reaches [.journal, .persons, .notices, .wake] s (s.post e) :=
      ((reach.trans (Reaches.raiseWhen _ _ _ _)).trans (Reaches.raiseWhen _ _ _ _)).mono (by decide)
    have wake : (s.post e).host.wake = s.host.wake := by rw [raised.2, has, Bool.false_and, Bool.or_false]
    have charged := AccountChanged.of_changeAccount (s := { s with
      journal := s.journal.tail, journalFullReported := s.journalFullReported && !s.journalIsFull, allowance := s.allowance - 1 })
      hs.persons e.person fun a => a.afterPost e.amounts.total
    obtain ⟨t, hx, hhost, hk, ⟨tj, ta, tn, tr⟩, hp, hn⟩ := frame_starts hx posts wake
    refine ⟨t, hx, hhost, tj.trans (journal.trans (by rw [hj]; rfl)), ta.trans allowance, tn.trans number, tr.trans reported,
      fun j => (congrArg (Table.read none · j) hp).trans (charged j), ⟨hn.trans raised.1, ?_⟩, hk⟩
    rw [has, Bool.false_and, Bool.or_false]
    exact (congrArg HostLink.wake hhost :)
  · intro line kind body
    have coded : e.body = body := by
      have kinds : e.kind.code = kind := by cases h : e.kind <;> simp [kind, h, EntryKind.code]
      have lines : Line.bytes = line := by
        funext l
        cases h : l.alcohol <;> simp only [Line.bytes, flagBytes, h, line] <;> rfl
      simp only [Entry.body, kinds, Amounts.bytes, linesBytes, List.append_assoc, body, lines]
    rw [Entry.frame, coded]
    rfl

end Sys2Proof.Machine
end

section
/-!
PROOFS. The obligation on the start and the end of a muster (R110, R128, R132, R136).
-/

namespace Sys2Proof.Machine

variable {s t u : State}

/-! ### The start -/

/-- The part at the start of a muster, the permits not yet cancelled. -/
def State.assembled (id : Nat) (s : State) : State :=
  { s with
    persons := s.persons.mapRecords none (Option.map Person.atMusterStart)
    cabins := s.cabins.mapRecords Cabin.reset Cabin.atMusterStart
    muster := { active := true, id, points := [], unrecorded := 0, unmustered := s.aboardCount, unswept := s.configuredCount } }

/-- A granted start: the records and the lanes are as the cancelling of the permits leaves them. -/
theorem beginMuster_frame (id : Nat) (s : State) : ∃ ps ls,
    (s.assembled id).cancelAllPermits = { s.assembled id with persons := ps, lanes := ls }
      ∧ s.beginMuster id = State.raiseWhen (s.aboardCount == 0) MemberId.allMustered id
          { s.assembled id with persons := ps, lanes := ls, store := s.store.markWhen true 128 } := by
  obtain ⟨ps, ls, hf⟩ := State.cancelAllPermits_frame (s.assembled id)
  have begun : s.beginMuster id
      = (s.assembled id).cancelAllPermits.markControl.raiseWhen (s.aboardCount == 0) MemberId.allMustered id := rfl
  refine ⟨ps, ls, hf, ?_⟩
  rw [begun, hf]
  rfl

theorem Reaches.assembled (s : State) (id : Nat) : Reaches [.persons, .cabins, .muster] s (s.assembled id) := .of_restore rfl

theorem Reaches.putStore (s : State) (v : Store) : Reaches [.store] s { s with store := v } := .of_restore rfl

theorem Reaches.beginMuster (s : State) (id : Nat) :
    Reaches [.persons, .cabins, .lanes, .muster, .notices, .wake, .store] s (s.beginMuster id) := by
  obtain ⟨ps, ls, -, hb⟩ := beginMuster_frame id s
  rw [hb]
  have cancelled := ((Reaches.assembled s id).trans (Reaches.persons _ ps)).trans (Reaches.lanes { s.assembled id with persons := ps } ls)
  have marked := cancelled.trans (Reaches.putStore { s.assembled id with persons := ps, lanes := ls } (s.store.markWhen true 128))
  exact (marked.trans (Reaches.raiseWhen _ _ _ _)).mono (by decide)

theorem assembled_person (hp : s.persons.wf none) (id i : Nat) :
    (s.assembled id).person i = (s.person i).map Person.atMusterStart := Table.read_mapRecords hp rfl i

theorem beginMuster_person (hp : s.persons.wf none) (hl : s.lanes.wf Lane.reset) (id i : Nat) :
    ∃ permit, (s.beginMuster id).person i = (s.person i).map fun p => { p with
      muster := if p.location = .aboard then .unmustered else p.muster, gatePermit := permit } := by
  have canonical : (s.assembled id).persons.wf none := Table.wf_mapRecords hp _
  obtain ⟨ps, ls, hf, hb⟩ := beginMuster_frame id s
  have cancelled := State.cancelAllPermits_person canonical hl i
  rw [hf] at cancelled
  have own : (s.beginMuster id).person i = _ := (congrArg (fun v : State => v.person i) hb).trans cancelled
  rw [own, assembled_person hp]
  split
  · refine ⟨none, ?_⟩
    cases s.person i <;> rfl
  · cases hi : s.person i with
    | none => exact ⟨none, rfl⟩
    | some p => exact ⟨p.gatePermit, rfl⟩

theorem beginMuster_cancels (hp : s.persons.wf none) (hl : s.lanes.wf Lane.reset) (id : Nat) :
    PermitsCancelled s (s.beginMuster id) := by
  obtain ⟨ps, ls, hf, hb⟩ := beginMuster_frame id s
  refine PermitsCancelled.of_cancel (u := s.assembled id) (Table.wf_mapRecords hp _) hl (fun _ => rfl)
    (fun i p h => ⟨p.atMusterStart, by rw [assembled_person hp, h]; rfl, rfl⟩) (fun l => ?_) fun i => ?_
  · rw [hf, hb]
    rfl
  · rw [hf, hb]
    rfl

theorem beginMuster_cabin (hc : s.cabins.wf Cabin.reset) (id c : Nat) : (s.beginMuster id).cabin c
    = { s.cabin c with sweep := if (s.cabin c).configured then .unswept else (s.cabin c).sweep } := by
  obtain ⟨ps, ls, -, hb⟩ := beginMuster_frame id s
  rw [hb]
  exact Table.read_mapRecords hc rfl c

/-- ALL_MUSTERED, where nobody is ABOARD (R132). -/
theorem beginMuster_notices (s : State) (id : Nat) : (s.aboardCount = 0 → Raised s (s.beginMuster id) MemberId.allMustered id)
    ∧ (s.aboardCount ≠ 0 → Silent s (s.beginMuster id)) := by
  obtain ⟨ps, ls, -, hb⟩ := beginMuster_frame id s
  rw [hb]
  refine ⟨fun h => ?_, fun h => ?_⟩
  · rw [beq_iff_eq.mpr h]
    exact Raised.of_raise (s := { s.assembled id with persons := ps, lanes := ls, store := s.store.markWhen true 128 }) _ _
  · rw [beq_eq_false_iff_ne.mpr h, State.raiseWhen_false]
    exact ⟨rfl, rfl⟩

theorem beginMuster_units (s : State) (id : Nat) : (s.beginMuster id).store = s.store.markWhen true 128
    ∧ (s.beginMuster id).muster = { active := true, id, points := [], unrecorded := 0, unmustered := s.aboardCount
                                    unswept := s.configuredCount } := by
  obtain ⟨ps, ls, -, hb⟩ := beginMuster_frame id s
  rw [hb]
  exact ⟨rfl, rfl⟩

theorem doStartMuster_refused {id : Nat} {reason : Result}
    (h : FirstFailing [(s.muster.active = true, .musterActive), (s.store.state ≠ .opened, .powerFail)] (some reason)) :
    doStartMuster id s = (s, .plain reason) := by
  rcases h with ⟨hm, hr⟩ | ⟨hm, ⟨ho, hr⟩ | ⟨-, hr⟩⟩
  · obtain rfl := Option.some.inj hr
    exact if_pos hm
  · obtain rfl := Option.some.inj hr
    exact (if_neg hm).trans (if_pos ho)
  · cases hr

theorem doStartMuster_granted {id : Nat} (hm : s.muster.active = false) (ho : s.store.state = .opened) :
    doStartMuster id s = (s.beginMuster id, .okay [.b2 id, .b2 s.aboardCount, .b2 s.configuredCount]) :=
  (if_neg (Bool.eq_false_iff.mp hm)).trans (if_neg (not_not.mpr ho))

theorem startMuster_starts {r : Request} {id : Nat} (hs : s.Tidy) (h : HostOffer s 0x58 decodeMusterId r id)
    (hm : s.muster.active = false) (ho : s.store.state = .opened) :
    ∃ t, exec (.startMuster r) s = .next t
      ∧ HostAnswered s t ⟨0x58, r.tag, .ok, [.b2 id, .b2 s.aboardCount, .b2 s.configuredCount]⟩
      ∧ (∀ i, ∃ permit, t.person i = (s.person i).map fun p => { p with
          muster := if p.location = .aboard then .unmustered else p.muster, gatePermit := permit })
      ∧ PermitsCancelled s t
      ∧ (∀ c, t.cabin c = { s.cabin c with sweep := if (s.cabin c).configured then .unswept else (s.cabin c).sweep })
      ∧ t.muster = { active := true, id, points := [], unrecorded := 0, unmustered := s.aboardCount, unswept := s.configuredCount }
      ∧ (s.aboardCount = 0 → Raised s t MemberId.allMustered id) ∧ (s.aboardCount ≠ 0 → Silent s t)
      ∧ t.store = (s.store.markWhen true 128).turn (!t.isRunning) t.persons t.muster t.clock.mono
      ∧ Keeps [.host, .persons, .cabins, .lanes, .muster, .notices, .wake, .store] s t := by
  have reach := Reaches.beginMuster s.dropHostRequest id
  obtain ⟨store, muster⟩ := beginMuster_units s.dropHostRequest id
  obtain ⟨hraised, hsilent⟩ := beginMuster_notices s.dropHostRequest id
  have cancelled := beginMuster_cancels (s := s.dropHostRequest) hs.persons hs.lanes id
  have persons := beginMuster_person (s := s.dropHostRequest) hs.persons hs.lanes id
  have cabins := beginMuster_cabin (s := s.dropHostRequest) hs.cabins id
  have hx := takeHost_taken h doStartMuster
  rw [doStartMuster_granted (s := s.dropHostRequest) hm ho] at hx
  generalize s.dropHostRequest.beginMuster id = v at *
  exact ⟨_, hx, reach.hostAnswered (by decide) _, persons, ⟨cancelled.lanes, cancelled.gatePermits⟩, cabins, muster, hraised,
    hsilent, congrArg (fun x : Store => x.turn (!v.isRunning) v.persons v.muster v.clock.mono) store, reach.hostKeeps _⟩

end Sys2Proof.Machine
end

section
/-!
PROOFS. The obligation on the start and the end of a muster: the holds that expire together at its end, and what else its end
leaves (R110, R128, R136).
-/

namespace Sys2Proof.Machine

variable {s t u : State} {l : List (Nat × Hold)} {k i : Nat} {h : Hold}

/-! ### Holds that expire together -/

/-- The overdue holds are those that have come to their expiry. -/
theorem mem_overdueHolds (hw : s.slots.wf Slot.reset) :
    (k, h) ∈ s.overdueHolds ↔ (s.slot k).hold = some h ∧ h.expiry ≤ s.clock.shipTime := by
  unfold State.overdueHolds
  rw [List.mem_filterMap]
  constructor
  · rintro ⟨⟨j, v⟩, hv, he⟩
    have read : s.slot j = v := Table.read_of_mem hw hv
    cases hh : v.hold with
    | none => simp only [hh] at he; cases he
    | some g =>
      simp only [hh, Option.ite_none_right_eq_some, Option.some.injEq, Prod.mk.injEq] at he
      obtain ⟨hle, rfl, rfl⟩ := he
      exact ⟨by rw [read, hh], hle⟩
  · rintro ⟨hh, hle⟩
    refine ⟨(k, s.slot k), Table.mem_of_read fun hr => ?_, ?_⟩
    · have none : (s.slot k).hold = Option.none := congrArg Slot.hold hr
      rw [none] at hh
      cases hh
    · simp only [hh, if_pos hle]

theorem mem_overdue_keys (hw : s.slots.wf Slot.reset) :
    k ∈ s.overdueHolds.map Prod.fst ↔ ∃ h, (s.slot k).hold = some h ∧ h.expiry ≤ s.clock.shipTime := by
  simp only [List.mem_map, Prod.exists, exists_and_right, exists_eq_right, mem_overdueHolds hw]

/-- The holds of a list expire one after another (R110). -/
def State.expireAll (l : List (Nat × Hold)) (s : State) : State := l.foldl (fun s e => s.expireHold e.1 e.2) s

/-- The amounts of a person's holds in a list. -/
def owedBy (l : List (Nat × Hold)) (i : Nat) : Nat := ((l.filter fun e => e.2.person == i).map fun e => e.2.amount).sum

theorem owedBy_cons (e : Nat × Hold) (l : List (Nat × Hold)) (i : Nat) :
    owedBy (e :: l) i = (if e.2.person = i then e.2.amount else 0) + owedBy l i := by
  unfold owedBy
  rw [List.filter_cons]
  simp only [beq_iff_eq]
  split <;> simp

theorem Reaches.expireHold (s : State) (k : Nat) (h : Hold) : Reaches [.persons, .holds, .notices, .wake] s (s.expireHold k h) :=
  (((Reaches.putSlot s k _).trans (Reaches.changeAccount _ h.person _)).trans (Reaches.raise _ _ _)).mono (by decide)

theorem Reaches.expireAll (l : List (Nat × Hold)) (s : State) : Reaches [.persons, .holds, .notices, .wake] s (s.expireAll l) := by
  induction l generalizing s with
  | nil => exact (Reaches.start s)
  | cons e l ih => exact (Reaches.expireHold s e.1 e.2).then (ih _)

theorem changeAccount_wf (hp : s.persons.wf none) (i : Nat) (f : Account → Account) : (s.changeAccount i f).persons.wf none := by
  unfold State.changeAccount
  split
  · exact hp
  · split
    · exact hp
    · exact State.wf_changePerson hp i _

/-- The expiry of a hold keeps the tables that the next one's needs canonical. -/
theorem expireHold_wf (hp : s.persons.wf none) (hw : s.slots.wf Slot.reset) (k : Nat) (h : Hold) :
    (s.expireHold k h).persons.wf none ∧ (s.expireHold k h).slots.wf Slot.reset := by
  have slots := (Reaches.changeAccount (s.vacate k) h.person fun a => { a with held := a.held - h.amount }) .holds (by decide)
  refine ⟨changeAccount_wf (s := s.vacate k) hp _ _, ?_⟩
  change (s.freeHold k h).slots.wf Slot.reset
  exact slots ▸ Table.wf_write hw _ _

theorem expireAll_slot (hp : s.persons.wf none) (hw : s.slots.wf Slot.reset) (k : Nat) :
    (s.expireAll l).slots.wf Slot.reset
      ∧ (s.expireAll l).slot k = if k ∈ l.map Prod.fst then { s.slot k with hold := none } else s.slot k := by
  induction l generalizing s with
  | nil => exact ⟨hw, rfl⟩
  | cons e l ih =>
    obtain ⟨hp', hw'⟩ := expireHold_wf hp hw e.1 e.2
    obtain ⟨wf, read⟩ := ih hp' hw'
    refine ⟨wf, read.trans ?_⟩
    have once : (s.expireHold e.1 e.2).slot k = if k = e.1 then { s.slot k with hold := none } else s.slot k :=
      (freeHold_frees hp hw e.1 e.2).1 k
    rw [once]
    by_cases hl : k ∈ l.map Prod.fst
    · rw [if_pos hl, if_pos (show k ∈ (e :: l).map Prod.fst from List.mem_cons_of_mem _ hl)]
      split <;> rfl
    · rw [if_neg hl]
      refine if_congr ?_ rfl rfl
      rw [List.map_cons, List.mem_cons, or_iff_left hl]

theorem expireAll_person (hp : s.persons.wf none) (hw : s.slots.wf Slot.reset) (i : Nat) :
    (s.expireAll l).person i = (s.person i).map fun p => { p with
      account := p.account.map fun a => { a with held := a.held - owedBy l i } } := by
  induction l generalizing s with
  | nil =>
    change s.person i = _
    cases s.person i with
    | none => rfl
    | some p => cases h : p.account <;> simp [owedBy]
  | cons e l ih =>
    obtain ⟨hp', hw'⟩ := expireHold_wf hp hw e.1 e.2
    refine (ih hp' hw').trans ?_
    have once : (s.expireHold e.1 e.2).person i = _ := (freeHold_frees hp hw e.1 e.2).2.1 i
    rw [once, owedBy_cons]
    by_cases hi : i = e.2.person
    · rw [if_pos hi, if_pos hi.symm, Option.map_map]
      refine congrArg (Option.map · _) (funext fun p => ?_)
      have twice : ∀ x : Option Account, (x.map fun a => { a with held := a.held - e.2.amount }).map
          (fun a => { a with held := a.held - owedBy l i }) = x.map fun a => { a with held := a.held - (e.2.amount + owedBy l i) } :=
        fun x => by cases x <;> simp [Nat.sub_sub]
      exact congrArg (fun x => { p with account := x }) (twice p.account)
    · rw [if_neg hi, if_neg fun he => hi he.symm, Nat.zero_add]

/-! ### Events of one member -/

/-- A member whose events are raised one after another: the first detail is captured where the flag was clear. -/
theorem member_raisedAgain {n : Notices} (hn : n.members.wf Member.reset) (m : MemberId) (d : Nat) (ds : List Nat) :
    (((d :: ds).map fun x => (m, x)).foldl (fun n e => n.raise e.1 e.2) n).members.wf Member.reset
      ∧ (((d :: ds).map fun x => (m, x)).foldl (fun n e => n.raise e.1 e.2) n).member m = { n.member m with
        flag := true, count := min ((n.member m).count + (d :: ds).length) 255
        detail := if (n.member m).flag then (n.member m).detail else d } := by
  induction ds using List.reverseRecOn with
  | nil => exact ⟨Notices.wf_raise hn m d, (Notices.member_raise hn m d m).trans (if_pos rfl)⟩
  | append_singleton ds x ih =>
    rw [← List.cons_append, List.map_append, List.foldl_append]
    obtain ⟨wf, read⟩ := ih
    refine ⟨Notices.wf_raise wf m x, (Notices.member_raise wf m x m).trans ?_⟩
    rw [if_pos rfl, read]
    simp only [Member.afterEvent, if_true, List.length_append, List.length_singleton, Member.mk.injEq, true_and, and_true]
    omega

theorem expireAll_raised (hm : s.notices.members.wf Member.reset) :
    RaisedAll s (s.expireAll l) (l.map fun e => (MemberId.holdExpired, e.2.person)) := by
  induction l generalizing s with
  | nil => exact .of_silent ⟨rfl, rfl⟩
  | cons e l ih =>
    have reach := (Reaches.putSlot s e.1 { s.slot e.1 with hold := none }).trans
      (Reaches.changeAccount _ e.2.person fun a => { a with held := a.held - e.2.amount })
    obtain ⟨notices, wake⟩ : Raised s (s.expireHold e.1 e.2) MemberId.holdExpired e.2.person :=
      (Raised.of_raise (s.freeHold e.1 e.2) _ _).across reach (by decide) (by decide) (by decide)
    have hm' : (s.expireHold e.1 e.2).notices.members.wf Member.reset := by rw [notices]; exact Notices.wf_raise hm _ _
    obtain ⟨later, woken⟩ := ih hm'
    have flag : ((s.expireHold e.1 e.2).notices.member MemberId.holdExpired).flag = true := by
      rw [notices, Notices.member_raise hm, if_pos rfl]
      rfl
    refine ⟨?_, ?_⟩
    · change (State.expireAll l (s.expireHold e.1 e.2)).notices = _
      rw [later, notices]
      rfl
    · change (State.expireAll l (s.expireHold e.1 e.2)).host.wake = _
      have asleep : (s.expireHold e.1 e.2).host.asleep = s.host.asleep := by
        have host : { (s.expireHold e.1 e.2).host with wake := s.host.wake } = s.host := (Reaches.expireHold s e.1 e.2) .host (by decide)
        exact (congrArg HostLink.asleep host :)
      have none : (l.map fun e => (MemberId.holdExpired, e.2.person)).any
          (fun x => !((s.expireHold e.1 e.2).notices.member x.1).flag) = false := by
        rw [List.any_map, List.any_eq_false]
        intro x _
        simp only [Function.comp_apply, flag, Bool.not_true, Bool.false_eq_true, not_false_eq_true]
      have same : (l.map fun e => (MemberId.holdExpired, e.2.person)).any (fun x => !(s.notices.member x.1).flag)
          = true → (!(s.notices.member MemberId.holdExpired).flag) = true := by
        rw [List.any_map, List.any_eq_true]
        exact fun ⟨_, _, hx⟩ => hx
      rw [woken, none, Bool.and_false, Bool.or_false, wake, List.map_cons, List.any_cons]
      cases hf : (s.notices.member MemberId.holdExpired).flag with
      | false => simp
      | true =>
        rw [hf] at same
        rw [Bool.eq_false_iff.mpr fun hc => absurd (same hc) (by decide)]
        rfl

/-! ### The end -/

/-- The part at the end of a muster, before the overdue holds expire. -/
def State.disbanded (s : State) : State :=
  { s with
    persons := s.persons.mapRecords none (Option.map Person.atMusterEnd)
    cabins := s.cabins.mapRecords Cabin.reset Cabin.atMusterEnd
    muster := { active := false, id := s.muster.id, points := [], unrecorded := 0, unmustered := 0, unswept := 0 }
    store := (s.store.markAll s.musteredBlocks).markWhen true 128 }

/-- The arrivals of the holds that stay OPEN are told afresh (R34). -/
def State.rearmed (s : State) : State := { s with slots := s.slots.mapRecords Slot.reset Slot.atMusterEnd }

theorem finishMuster_eq (s : State) : s.finishMuster = (s.disbanded.expireAll s.overdueHolds).rearmed := rfl

theorem Reaches.disbanded (s : State) : Reaches [.persons, .cabins, .muster, .store] s s.disbanded := .of_restore rfl

theorem Reaches.rearmed (s : State) : Reaches [.holds] s s.rearmed := .of_restore rfl

theorem Reaches.finishMuster (s : State) :
    Reaches [.persons, .cabins, .holds, .muster, .notices, .wake, .store] s s.finishMuster := by
  rw [finishMuster_eq]
  exact (((Reaches.disbanded s).trans (Reaches.expireAll _ _)).trans (Reaches.rearmed _)).mono (by decide)

theorem disbanded_person (hp : s.persons.wf none) (i : Nat) : s.disbanded.person i = (s.person i).map Person.atMusterEnd :=
  Table.read_mapRecords hp rfl i

/-- The records that the end leaves. -/
theorem finishMuster_person (hs : s.Tidy) (i : Nat) : s.finishMuster.person i = (s.person i).map fun p => { p with
    muster := .none, account := p.account.map fun a => { a with held := a.held - owedBy s.overdueHolds i } } := by
  have expired := expireAll_person (s := s.disbanded) (l := s.overdueHolds) (Table.wf_mapRecords hs.persons _) hs.slots i
  rw [disbanded_person hs.persons, Option.map_map] at expired
  exact expired

/-- The slots that the end leaves. -/
theorem finishMuster_slot (hs : s.Tidy) (k : Nat) : s.finishMuster.slot k = { s.slot k with
    hold := (s.slot k).hold.bind fun h => if h.expiry ≤ s.clock.shipTime then none else some { h with arrived := false } } := by
  obtain ⟨wf, read⟩ := expireAll_slot (s := s.disbanded) (l := s.overdueHolds) (Table.wf_mapRecords hs.persons _) hs.slots k
  have rearmed : s.finishMuster.slot k = ((s.disbanded.expireAll s.overdueHolds).slot k).atMusterEnd :=
    Table.read_mapRecords wf rfl k
  have keys := mem_overdue_keys (k := k) hs.slots
  rw [rearmed, read]
  change Slot.atMusterEnd (if _ then { s.slot k with hold := none } else s.slot k) = _
  cases hh : (s.slot k).hold with
  | none =>
    have out : k ∉ s.overdueHolds.map Prod.fst := fun hm => by
      obtain ⟨h, he, -⟩ := keys.mp hm
      exact nomatch he.symm.trans hh
    rw [if_neg out, Slot.atMusterEnd, hh]
    rfl
  | some h =>
    by_cases hle : h.expiry ≤ s.clock.shipTime
    · rw [if_pos (keys.mpr ⟨h, hh, hle⟩), Option.bind_some, if_pos hle]
      rfl
    · have out : k ∉ s.overdueHolds.map Prod.fst := fun hm => by
        obtain ⟨g, he, hg⟩ := keys.mp hm
        exact hle (Option.some.inj (hh.symm.trans he) ▸ hg)
      rw [if_neg out, Slot.atMusterEnd, hh, Option.bind_some, if_neg hle]
      rfl

theorem finishMuster_cabin (hs : s.Tidy) (c : Nat) : s.finishMuster.cabin c = { s.cabin c with sweep := .none } := by
  have cabins : s.finishMuster.cabins = s.disbanded.cabins := (Reaches.expireAll s.overdueHolds s.disbanded) .cabins (by decide)
  exact (congrArg (Table.read Cabin.reset · c) cabins).trans (Table.read_mapRecords hs.cabins rfl c)

theorem finishMuster_units (s : State) : s.finishMuster.muster
      = { active := false, id := s.muster.id, points := [], unrecorded := 0, unmustered := 0, unswept := 0 }
    ∧ s.finishMuster.store = (s.store.markAll s.musteredBlocks).markWhen true 128 :=
  ⟨(Reaches.expireAll s.overdueHolds s.disbanded) .muster (by decide), (Reaches.expireAll s.overdueHolds s.disbanded) .store (by decide)⟩

theorem finishMuster_raised (hs : s.Tidy) :
    RaisedAll s s.finishMuster (s.overdueHolds.map fun e => (MemberId.holdExpired, e.2.person)) :=
  expireAll_raised (s := s.disbanded) hs.members

theorem doEndMuster_refused {reason : Result}
    (h : FirstFailing [(s.muster.active = false, .notActive), (s.store.state ≠ .opened, .powerFail)] (some reason)) :
    doEndMuster () s = (s, .plain reason) := by
  rcases h with ⟨hm, hr⟩ | ⟨hm, ⟨ho, hr⟩ | ⟨-, hr⟩⟩
  · obtain rfl := Option.some.inj hr
    exact if_pos (by rw [hm]; rfl)
  · obtain rfl := Option.some.inj hr
    exact (if_neg (by simpa using hm)).trans (if_pos ho)
  · cases hr

theorem doEndMuster_granted (hm : s.muster.active = true) (ho : s.store.state = .opened) : doEndMuster () s
    = (s.finishMuster, .okay [.b2 s.muster.id, .b2 s.muster.unmustered, .b2 s.muster.unrecorded, .b2 s.muster.unswept]) :=
  (if_neg (by simp [hm])).trans (if_neg (not_not.mpr ho))

/-- Settles O50: the start assembles and the end disbands, the overdue holds expiring one after another. -/
theorem mustersStartAndEnd : Obligations.MustersStartAndEnd := by
  refine ⟨fun s r id hs h => ⟨fun reason hf => ?_, fun hm ho => startMuster_starts hs h hm ho⟩,
    fun s r hs h => ⟨fun reason hf => ?_, fun hm ho => ?_⟩⟩
  · exact host_refused h rfl (doStartMuster_refused (s := s.dropHostRequest) hf)
  · exact host_refused h rfl (doEndMuster_refused (s := s.dropHostRequest) hf)
  · intro overdue owed expired
    have tidy : s.dropHostRequest.Tidy := { hs with }
    have reach := Reaches.finishMuster s.dropHostRequest
    have persons := finishMuster_person tidy
    have slots := finishMuster_slot tidy
    have cabins := finishMuster_cabin tidy
    obtain ⟨muster, store⟩ := finishMuster_units s.dropHostRequest
    obtain ⟨notices, wake⟩ := finishMuster_raised tidy
    have hx := takeHost_taken h doEndMuster
    rw [doEndMuster_granted (s := s.dropHostRequest) hm ho] at hx
    generalize s.dropHostRequest.finishMuster = v at *
    refine ⟨_, hx, reach.hostAnswered (by decide) _, persons, cabins, muster, slots, ⟨notices, wake⟩, fun first rest hov => ?_,
      congrArg (fun x : Store => x.turn (!v.isRunning) v.persons v.muster v.clock.mono) store, reach.hostKeeps _⟩
    have again := (member_raisedAgain hs.members MemberId.holdExpired first.2.person (rest.map fun e => e.2.person)).2
    have listed : overdue.map (fun e => (MemberId.holdExpired, e.2.person))
        = (first.2.person :: rest.map fun e => e.2.person).map fun x => (MemberId.holdExpired, x) := by
      rw [hov, List.map_cons, List.map_cons, List.map_map]
      rfl
    have length : (first.2.person :: rest.map fun e => e.2.person).length = overdue.length := by
      rw [hov, List.length_cons, List.length_cons, List.length_map]
    rw [← listed, length] at again
    exact (congrArg (fun n : Notices => n.member MemberId.holdExpired) notices).trans again

end Sys2Proof.Machine
end

section
/-!
PROOFS. The obligation on credits at a muster point (R66, R127, R129 to R134).
-/

namespace Sys2Proof.Machine

variable {s t u : State} {i point : Nat} {p : Person} {reason : Result} {card : Card}

/-- A unit that stands is not reached. -/
theorem Reaches.less {a : List Part} {q : Part} (h : Reaches (q :: a) s t) (hq : q.steady s t) : Reaches a s t := fun x hx => by
  by_cases he : x = q
  · exact he ▸ hq
  · exact h x fun hm => (List.mem_cons.mp hm).elim he hx

/-- The part once a person is credited at a point. -/
def State.credit (i point : Nat) (p : Person) (s : State) : State :=
  ((s.changePerson i (some { p with location := .aboard, muster := .mustered point })).raiseWhen p.muster.isMustered
    MemberId.pointMove i).raiseWhen (decide (p.location ≠ .aboard)) MemberId.tallyCorrected i

/-- The muster state of a record during a muster: that of an ABOARD one alone is not NONE (R127). -/
theorem creditPerson_again (h : p.muster = .mustered point) (ha : p.location = .aboard ↔ p.muster ≠ .none) :
    creditPerson i point p s = (s, { result := .alreadyMustered, left := none }) := by
  rw [creditPerson, if_pos (ha.mpr (by rw [h]; nofun)), if_pos h]

theorem creditPerson_credits (h : p.muster ≠ .mustered point) (ha : p.location = .aboard ↔ p.muster ≠ .none) :
    creditPerson i point p s
      = (s.credit i point p, { result := .mustered, left := if p.muster.isMustered then some p.muster else none }) := by
  by_cases hl : p.location = .aboard
  · have same : ({ p with muster := .mustered point } : Person) = { p with location := .aboard, muster := .mustered point } := by
      rw [← hl]
    rw [creditPerson, if_pos hl, if_neg h, State.credit, decide_eq_false (not_not.mpr hl), State.raiseWhen_false, same]
  · have none : p.muster = .none := not_not.mp fun hn => hl (ha.mpr hn)
    have still : p.muster.isMustered = false := by rw [none]; rfl
    rw [creditPerson, if_neg hl, State.credit, decide_eq_true hl, still, State.raiseWhen_false]
    rfl

theorem Reaches.credit (hp : s.person i = some p) :
    Reaches [.persons, .tally, .muster, .deadline, .notices, .wake, .store] s (s.credit i point p) := by
  have cabins : (s.changePerson i (some { p with location := .aboard, muster := .mustered point })).cabins = s.cabins := by
    change moveOccupant s.cabins (cabinOf (s.person i)) p.cabin = _
    rw [hp]
    exact if_pos rfl
  have changed : Reaches [.persons, .tally, .muster, .deadline, .notices, .wake, .store] s
      (s.changePerson i (some { p with location := .aboard, muster := .mustered point })) :=
    ((Reaches.changePerson s i _).mono (b := [.cabins, .persons, .tally, .muster, .deadline, .notices, .wake, .store])
      (by decide)).less cabins
  exact ((changed.trans (Reaches.raiseWhen _ _ _ _)).trans (Reaches.raiseWhen _ _ _ _)).mono (by decide)

/-- What a credit leaves. -/
theorem Credited.of_credit (hs : s.Tidy) (hw : s.muster.points.wf 0) (hp : s.person i = some p) (hne : p.muster ≠ .mustered point) :
    Credited s (s.credit i point p).writerTurn i point p := by
  have moved : placeOf (s.person i) ≠ placeOf (some { p with location := .aboard, muster := .mustered point })
      ↔ p.location ≠ .aboard := by
    simp only [hp, placeOf, ne_eq, Option.some.injEq, Prod.mk.injEq, true_and]
  have kept : retained (s.person i) ≠ retained (some { p with location := .aboard, muster := .mustered point })
      ↔ p.location ≠ .aboard ∨ p.muster.isMustered = false := by
    have flag : (MusterState.mustered point).isMustered = true := rfl
    by_cases hl : p.location = .aboard <;> simp [hp, retained, hl, flag]
  have muster : (s.credit i point p).muster = s.muster.move p.muster (.mustered point) := by
    change s.muster.move (musterOf (s.person i)) _ = _
    rw [hp]
    rfl
  have count := fun {k : MusterState} (hk : k ≠ .none) => (Muster.move_count hw p.muster (.mustered point) hk).trans (if_neg hne)
  have guests : GuestsCome s (s.changePerson i (some { p with location := .aboard, muster := .mustered point }))
      (placeOf (s.person i) ≠ placeOf (some { p with location := .aboard, muster := .mustered point }))
      ↔ GuestsCome s (s.changePerson i (some { p with location := .aboard, muster := .mustered point })) (p.location ≠ .aboard) :=
    and_congr_left' moved
  have raised := State.changePerson_raised hs.members i (some { p with location := .aboard, muster := .mustered point })
  rw [eventIf_congr guests] at raised
  constructor
  · exact (State.person_changePerson hs.persons i _ i).trans (if_pos rfl)
  · exact fun j hj => (State.person_changePerson hs.persons i _ j).trans (if_neg hj)
  · rw [State.writerTurn_muster, muster]
    exact ⟨Muster.move_active _ _ _, Muster.move_id _ _ _, Muster.move_unswept _ _ _⟩
  · rw [State.writerTurn_muster, muster]
    refine (count (k := .unmustered) nofun).trans ?_
    rw [if_neg (show ¬ MusterState.mustered point = .unmustered from nofun)]
    split <;> rfl
  · rw [State.writerTurn_muster, muster]
    refine (count (k := .unrecorded) nofun).trans ?_
    rw [if_neg (show ¬ MusterState.mustered point = .unrecorded from nofun)]
    split <;> rfl
  · intro k
    rw [State.writerTurn_muster, muster]
    refine (count (k := .mustered k) nofun).trans ?_
    by_cases hk : k = point
    · rw [if_pos hk, hk, if_neg hne, if_pos rfl]
      rfl
    · rw [if_neg hk, if_neg (show ¬ MusterState.mustered point = .mustered k from fun h => hk (MusterState.mustered.inj h).symm)]
      split <;> rfl
  · change (if decide (placeOf (s.person i) ≠ placeOf (some { p with location := .aboard, muster := .mustered point })) = true
      then s.tallySequence + 1 else s.tallySequence) = _
    by_cases hl : p.location = .aboard
    · rw [if_pos hl, decide_eq_false fun hm => moved.mp hm hl]
      rfl
    · rw [if_neg hl, decide_eq_true (moved.mpr hl)]
      rfl
  · exact (Reaches.credit hp) .cabins (by decide)
  · have credited := (raised.raiseWhen hs.members rfl i (m := MemberId.pointMove) (c := p.muster.isMustered) ?_).raiseWhen
      hs.members rfl i (m := MemberId.tallyCorrected) (c := decide (p.location ≠ .aboard)) ?_
    · rw [eventIf_congr (p := decide (p.location ≠ .aboard) = true) decide_eq_true_iff] at credited
      exact credited
    · intro e he
      simp only [List.mem_append, mem_eventIf] at he
      rcases he with ⟨-, rfl⟩ | ⟨-, rfl⟩
      · exact (by decide : MemberId.allMustered.key ≠ MemberId.pointMove.key)
      · exact (by decide : MemberId.allGuestsAboard.key ≠ MemberId.pointMove.key)
    · intro e he
      simp only [List.mem_append, mem_eventIf] at he
      rcases he with (⟨-, rfl⟩ | ⟨-, rfl⟩) | ⟨-, rfl⟩
      · exact (by decide : MemberId.allMustered.key ≠ MemberId.tallyCorrected.key)
      · exact (by decide : MemberId.allGuestsAboard.key ≠ MemberId.tallyCorrected.key)
      · exact (by decide : MemberId.pointMove.key ≠ MemberId.tallyCorrected.key)
  · refine ⟨⟨rfl, rfl⟩, Bool.or_eq_true_iff.trans (or_congr_right ?_)⟩
    exact (State.guestsDue_iff _ _ _).trans guests
  · change (s.store.markWhen (decide (retained (s.person i) ≠ retained (some { p with
      location := .aboard, muster := .mustered point }))) (blockOf i)).turn _ _ _ _ = _
    rw [decide_eq_decide.mpr kept]
    rfl

theorem doMusterTap_refused (h : FirstFailing [(s.muster.active = false, .notActive), (s.store.state ≠ .opened, .powerFail)]
    (some reason)) : doMusterTap card point s = (s, .plain reason) := by
  rcases h with ⟨hm, hr⟩ | ⟨hm, ⟨ho, hr⟩ | ⟨-, hr⟩⟩
  · obtain rfl := Option.some.inj hr
    exact if_pos (by rw [hm]; rfl)
  · obtain rfl := Option.some.inj hr
    exact (if_neg (by simpa using hm)).trans (if_pos ho)
  · cases hr

section Tap

variable (hm : s.muster.active = true) (ho : s.store.state = .opened)
include hm ho

theorem doMusterTap_failed (hd : s.decodeCard card = .failed reason i) :
    doMusterTap card point s = (s.afterDecodeFailure reason i, .plain reason) := by
  simp only [doMusterTap, hm, ho, hd, Bool.not_true, Bool.false_eq_true, ne_eq, not_true_eq_false, if_false]

theorem doMusterTap_passed (hd : s.decodeCard card = .passed i p) : doMusterTap card point s
    = ((creditPerson i point p s).1, { result := (creditPerson i point p s).2.result
                                       groups := creditGroups i point (creditPerson i point p s).2 }) := by
  simp only [doMusterTap, hm, ho, hd, Bool.not_true, Bool.false_eq_true, ne_eq, not_true_eq_false, if_false]

theorem doMusterPerson_recorded (hp : s.person i = some p) : doMusterPerson (i, point) s
    = ((creditPerson i point p s).1, { result := (creditPerson i point p s).2.result
                                       fields := [.b2 i, .b1 point]
                                         ++ Field.optional (fun m => [.b1 (pointByte m)]) (creditPerson i point p s).2.left }) := by
  simp only [doMusterPerson, hm, ho, hp, Bool.not_true, Bool.false_eq_true, ne_eq, not_true_eq_false, if_false]

end Tap

theorem doMusterPerson_refused (h : FirstFailing [(s.muster.active = false, .notActive), (s.store.state ≠ .opened, .powerFail),
    (s.person i = none, .noRecord)] (some reason)) : doMusterPerson (i, point) s = (s, .plain reason) := by
  rcases h with ⟨hm, hr⟩ | ⟨hm, ⟨ho, hr⟩ | ⟨ho, ⟨hp, hr⟩ | ⟨-, hr⟩⟩⟩
  · obtain rfl := Option.some.inj hr
    exact if_pos (by rw [hm]; rfl)
  · obtain rfl := Option.some.inj hr
    exact (if_neg (by simpa using hm)).trans (if_pos ho)
  · obtain rfl := Option.some.inj hr
    refine (if_neg (by simpa using hm)).trans ((if_neg ho).trans ?_)
    simp only [hp]
  · cases hr

/-- Settles O51: a tap and a message of the host credit alike. -/
theorem musterCredits : Obligations.MusterCredits := by
  unfold Obligations.MusterCredits
  intro left
  have byte : ∀ p : Person, ((if p.muster.isMustered then some p.muster else none).map pointByte).getD 0xFE = left p := fun p => by
    simp only [left]
    cases p.muster <;> rfl
  refine ⟨fun s r q point hs hg h h1 h2 h3 => ?_, fun s r i point hs hg h => ⟨fun reason hf => ?_, fun p hm ho hp => ?_⟩⟩
  · intro answers
    have hx : exec (.musterTap r) s
        = takeStation 0x08 decodeStationTap (fun q => atStation .muster q.station (doMusterTap q.card)) r s := rfl
    have served : atStation .muster q.station (doMusterTap q.card) s.dropStationRequest = doMusterTap q.card point s.dropStationRequest :=
      atStation_served h1 h2 h3
    refine ⟨fun reason hf => station_refused h hx (served.trans (doMusterTap_refused (s := s.dropStationRequest) hf)),
      fun hm ho => ⟨fun reason i hd => station_undecoded h hx (served.trans (doMusterTap_failed (s := s.dropStationRequest) hm ho hd)),
        fun i p hd => ⟨fun he => ?_, fun hne => ?_⟩⟩⟩
    all_goals
      have hp := State.person_of_passed hd
      have aboard := hg.active hm i p hp
      have passed := served.trans (doMusterTap_passed (s := s.dropStationRequest) (point := point) hm ho hd)
    · rw [creditPerson_again he aboard] at passed
      exact station_refused h hx passed
    · rw [creditPerson_credits hne aboard] at passed
      have credited := Credited.of_credit (s := s.dropStationRequest) { hs with } hg.points hp hne
      obtain ⟨t, hx, ha, hc, hk⟩ := station_acts (P := fun t => Credited s t i point p) h hx passed
        (Reaches.credit (s := s.dropStationRequest) hp) (by decide)
        { credited with deadline := ⟨credited.deadline.deadline, credited.deadline.reported⟩ }
      refine ⟨t, ⟨hx, ?_⟩, hc, hk⟩
      rw [← byte p]
      exact ha
  · exact host_refused h rfl (doMusterPerson_refused (s := s.dropHostRequest) hf)
  · have aboard := hg.active hm i p hp
    have acts := doMusterPerson_recorded (s := s.dropHostRequest) (point := point) hm ho hp
    refine ⟨fun he => ?_, fun hne => ?_⟩
    · rw [creditPerson_again he aboard] at acts
      obtain ⟨t, hx, ha, -, hk⟩ := host_acts (c := .musterPerson r) (act := doMusterPerson) (P := fun _ => True) h rfl acts
        (a := []) (Reaches.start _) (by decide) trivial
      exact ⟨t, hx, ha, hk⟩
    · rw [creditPerson_credits hne aboard] at acts
      have credited := Credited.of_credit (s := s.dropHostRequest) { hs with } hg.points hp hne
      obtain ⟨t, hx, ha, hc, hk⟩ := host_acts (c := .musterPerson r) (act := doMusterPerson) (P := fun t => Credited s t i point p) h rfl acts
        (Reaches.credit (s := s.dropHostRequest) hp) (by decide) { credited with deadline := ⟨credited.deadline.deadline, credited.deadline.reported⟩ }
      refine ⟨t, hx, ?_, hc, hk⟩
      have fields : Field.optional (fun m => [Field.b1 (pointByte m)]) (if p.muster.isMustered then some p.muster else none)
          = if p.muster.isMustered then [.b1 1, .b1 (left p)] else [.b1 0] := by
        simp only [left]
        cases p.muster <;> rfl
      rw [← fields]
      exact ha

end Sys2Proof.Machine
end

section
/-!
PROOFS. The obligation on notices: the host's messages, a member's event, and the delivery of a group (R143 to R153, R175).
-/

namespace Sys2Proof.Machine

variable {s t u : State} {n : Notices} {g : Nat}

/-! ### The choice of a group -/

/-- Of two groups the arbiter takes the one of the higher level, and of one level the lower. -/
def Notices.Before (n : Notices) (g k : Nat) : Prop := n.level k < n.level g ∨ (n.level k = n.level g ∧ g ≤ k)

theorem Notices.Before.refl (n : Notices) (g : Nat) : n.Before g g := .inr ⟨rfl, le_rfl⟩

theorem Notices.Before.trans {a b c : Nat} (h : n.Before a b) (h' : n.Before b c) : n.Before a c := by
  unfold Notices.Before at *
  omega

theorem Notices.Before.antisymm {a b : Nat} (h : n.Before a b) (h' : n.Before b a) : a = b := by
  unfold Notices.Before at *
  omega

/-- What the arbiter prefers of a list in ascending order. -/
theorem foldl_preferred (gs : List Nat) : ∀ b, (b :: gs).Pairwise (· < ·) →
    ∃ c, gs.foldl n.preferred (some b) = some c ∧ c ∈ b :: gs ∧ ∀ k ∈ b :: gs, n.Before c k := by
  induction gs with
  | nil => exact fun b _ => ⟨b, rfl, List.mem_singleton_self b, fun k hk => List.mem_singleton.mp hk ▸ .refl n b⟩
  | cons g gs ih =>
    intro b hsorted
    obtain ⟨hb, hgs⟩ := List.pairwise_cons.mp hsorted
    obtain ⟨hg, hrest⟩ := List.pairwise_cons.mp hgs
    have hbg : b < g := hb g List.mem_cons_self
    by_cases hlevel : n.level b < n.level g
    · obtain ⟨c, hc, hm, hbest⟩ := ih g hgs
      have prefers : n.preferred (some b) g = some g := if_pos hlevel
      refine ⟨c, by rw [List.foldl_cons, prefers, hc], List.mem_cons_of_mem _ hm, fun k hk => ?_⟩
      rcases List.mem_cons.mp hk with rfl | hk
      · exact (hbest g List.mem_cons_self).trans (.inl hlevel)
      · exact hbest k hk
    · obtain ⟨c, hc, hm, hbest⟩ := ih b (List.pairwise_cons.mpr ⟨fun k hk => hb k (List.mem_cons_of_mem _ hk), hrest⟩)
      have prefers : n.preferred (some b) g = some b := if_neg hlevel
      refine ⟨c, by rw [List.foldl_cons, prefers, hc], ?_, fun k hk => ?_⟩
      · rcases List.mem_cons.mp hm with rfl | hm
        · exact List.mem_cons_self
        · exact List.mem_cons_of_mem _ (List.mem_cons_of_mem _ hm)
      · rcases List.mem_cons.mp hk with rfl | hk
        · exact hbest k List.mem_cons_self
        · rcases List.mem_cons.mp hk with rfl | hk
          · exact (hbest b List.mem_cons_self).trans (by unfold Notices.Before; omega)
          · exact hbest k (List.mem_cons_of_mem _ hk)

/-- The arbiter chooses the deliverable group that comes before every other. -/
theorem chosenGroup_eq (hg : g < 10) (hd : s.mayDeliver g) (hbest : ∀ k < 10, s.mayDeliver k → s.notices.Before g k) :
    s.chosenGroup = some g := by
  have mem : ∀ k, k ∈ (List.range 10).filter s.deliverable ↔ k < 10 ∧ s.mayDeliver k := fun k => by
    rw [List.mem_filter, List.mem_range, deliverable_iff]
  have sorted : ((List.range 10).filter s.deliverable).Pairwise (· < ·) := List.Pairwise.filter _ (List.pairwise_lt_range (n := 10))
  unfold State.chosenGroup
  cases hl : (List.range 10).filter s.deliverable with
  | nil => exact absurd ((mem g).mpr ⟨hg, hd⟩) (by rw [hl]; nofun)
  | cons b gs =>
    rw [hl] at mem sorted
    obtain ⟨c, hc, hm, hfirst⟩ := foldl_preferred (n := s.notices) gs b sorted
    obtain ⟨hc10, hcd⟩ := (mem c).mp hm
    have same : c = g := (hfirst g ((mem g).mpr ⟨hg, hd⟩)).antisymm (hbest c hc10 hcd)
    rw [List.foldl_cons, ← same]
    exact hc

/-! ### Delivery -/

theorem exec_noticeFrameStart (hf : s.hostFree = true) (hr : s.host.replies = []) (hg : s.chosenGroup = some g) :
    exec .noticeFrameStart s = event (({ s with notices := s.notices.deliver g } : State).sendHost
      (noticeFrame g (s.notices.level g) (s.notices.membersOf g))) := by
  change execNoticeFrameStart s = _
  simp only [execNoticeFrameStart, hf, hr, hg, and_self, if_true]

theorem exec_noticeFrameStart_none (hg : s.chosenGroup = none) : exec .noticeFrameStart s = .next s := by
  change execNoticeFrameStart s = _
  simp only [execNoticeFrameStart, hg, ite_self]

theorem exec_noticeFrameStart_held (h : ¬ (s.hostFree = true ∧ s.host.replies = [])) : exec .noticeFrameStart s = .next s := if_neg h

theorem Reaches.putNotices (s : State) (n : Notices) : Reaches [.notices] s { s with notices := n } := .of_restore rfl

theorem Reaches.sendHost (s : State) (f : OutFrame) : Reaches [.host] s (s.sendHost f) := .of_restore rfl

theorem isPending_putPending (hw : n.pending.wf false) (g : Nat) (v : Bool) (k : Nat) :
    (n.putPending g v).isPending k = if k = g then v else n.isPending k := Table.read_write hw g v k

theorem member_putMember (hw : n.members.wf Member.reset) (m : MemberId) (v : Member) (k : MemberId) :
    (n.putMember m v).member k = if k.key = m.key then v else n.member k := Table.read_write hw m.key v k.key

/-! ### The host's messages -/

theorem doNoticeDone_idle (h : s.notices.stack = []) : doNoticeDone () s = (s, .plain .notInService) := by
  simp only [doNoticeDone, h]

theorem doNoticeDone_ends {level : Nat} {rest : List Nat} (h : s.notices.stack = level :: rest) : doNoticeDone () s
    = ({ s with notices := { s.notices with serviceLevel := level, stack := rest } }, .okay [.b1 level, .b1 rest.length]) := by
  simp only [doNoticeDone, h]

/-- A message that sets the notice unit alone. -/
theorem notices_set {α : Type} {kind : Byte} {decode : List Byte → Option α} {r : Request} {q : α} {c : Instr} {fields : List Field}
    {act : α → State → State × HostAnswer} (n : Notices) (h : HostOffer s kind decode r q)
    (hx : exec c s = takeHost kind decode act r s)
    (ha : act q s.dropHostRequest = ({ s.dropHostRequest with notices := n }, .okay fields)) :
    ∃ t, exec c s = .next t ∧ HostAnswered s t ⟨kind, r.tag, .ok, fields⟩ ∧ t.notices = n ∧ Keeps [.host, .notices] s t :=
  host_acts (P := fun t => t.notices = n) h hx ha (Reaches.putNotices _ n) (by decide) rfl

/-- Settles O52: each message sets what it carries, an event acts on its member and its group, and the arbiter delivers. -/
theorem noticeMessagesAndDelivery : Obligations.NoticeMessagesAndDelivery := by
  refine ⟨fun s r g level hs h => ⟨fun hg => ?_, fun hg => ?_⟩, fun s r g m enable hs h => ?_, fun s r level h => ?_,
    fun s r h => ⟨fun hn => ?_, fun level rest hn => ?_⟩, fun s r g m hs h => ?_, fun n m detail hm hp => ?_, fun s hs => ?_,
    fun s g hs hst hsend hstarted hrep hg hd hbest => ?_, by decide, fun g level members => ?_⟩
  · exact host_refused (act := doSetGroupLevel) h rfl (if_pos hg)
  · obtain ⟨t, hx, ha, hn, hk⟩ := notices_set (c := .setGroupLevel r) (act := doSetGroupLevel)
      { s.notices with levels := s.notices.levels.write 0 g level } h rfl (if_neg hg)
    refine ⟨t, hx, ha, fun k => ?_, ?_, hk⟩ <;> rw [hn]
    exact Table.read_write hs.levels g level k
  · obtain ⟨t, hx, ha, hn, hk⟩ := notices_set (c := .setMemberEnable r) (act := doSetMemberEnable)
      (s.notices.setEnable ⟨g, m⟩ enable) h rfl rfl
    refine ⟨t, hx, ha, fun k => ?_, fun k => ?_, ?_, hk⟩ <;> rw [hn]
    · exact member_putMember hs.members _ _ k
    · exact isPending_putPending (n := s.notices.putMember ⟨g, m⟩ _) hs.groupsPending g _ k
    · rfl
  · exact notices_set (c := .setServiceLevel r) (act := doSetServiceLevel) _ h rfl rfl
  · exact host_refused h rfl (doNoticeDone_idle (s := s.dropHostRequest) hn)
  · exact notices_set (c := .noticeDone r) (act := doNoticeDone) _ h rfl (doNoticeDone_ends (s := s.dropHostRequest) hn)
  · intro old
    obtain ⟨t, hx, ha, hn, hk⟩ := notices_set (c := .ackNotice r) (act := doAckNotice)
      (s.notices.putMember ⟨g, m⟩ old.acknowledged) h rfl rfl
    refine ⟨t, hx, ha, fun k => ?_, ?_, hk⟩ <;> rw [hn]
    · exact member_putMember hs.members _ _ k
    · rfl
  · intro old after
    refine ⟨Notices.member_raise hm m detail, fun g => ?_, rfl⟩
    have pending : after.isPending g = _ := isPending_putPending (n := n.putMember m (old.afterEvent detail)) hp m.group _ g
    rw [pending]
    by_cases hg : g = m.group
    · rw [if_pos hg, hg, Bool.or_eq_true, Bool.and_eq_true, Bool.not_eq_true']
      simp only [true_and]
      rfl
    · rw [if_neg hg]
      simp only [hg, false_and, or_false]
      rfl
  · by_cases hc : s.hostFree = true ∧ s.host.replies = []
    · refine exec_noticeFrameStart_none ?_
      obtain ⟨h1, h2, h3⟩ := hostFree_iff.mp hc.1
      rcases hs with hs | hs | hs | hs | hs
      · rw [h1] at hs; cases hs
      · exact absurd h2 hs
      · exact absurd h3 hs
      · exact absurd hc.2 hs
      · exact chosenGroup_none_iff.mpr hs
    · exact exec_noticeFrameStart_held hc
  · have hx := exec_noticeFrameStart (hostFree_iff.mpr ⟨hst, hsend, hstarted⟩) hrep (chosenGroup_eq hg hd hbest)
    have reach := (Reaches.putNotices s (s.notices.deliver g)).trans
      (Reaches.sendHost _ (noticeFrame g (s.notices.level g) (s.notices.membersOf g)))
    exact ⟨_, hx, rfl, fun k => isPending_putPending hs.groupsPending g false k, rfl, (reach.mono (by decide)).turned⟩
  · intro pair body
    have pairs : (fun m : Member => flagBytes m.flag ++ natBytes 1 m.count) = pair := by
      funext m
      cases h : m.flag <;> simp only [flagBytes, h, pair] <;> rfl
    rw [noticeFrame, noticeBody, pairs]
    rfl

end Sys2Proof.Machine
end

section
/-!
PROOFS. The obligation on STORE_REWRITE and the power-fail input (R58, R160, R162, R166, R167).
-/

namespace Sys2Proof.Machine

variable {s t u : State}

/-! ### STORE_REWRITE -/

/-- The marking of blocks changes the dirty set alone. -/
theorem Store.markAll_eq (blocks : List Nat) (t : Store) : t.markAll blocks = { t with dirty := (t.markAll blocks).dirty } := by
  induction blocks generalizing t with
  | nil => rfl
  | cons b bs ih => exact ih (t.markWhen true b)

theorem Store.markAll_ascending (blocks : List Nat) (t : Store) (h : t.dirty.Pairwise (· < ·)) :
    (t.markAll blocks).dirty.Pairwise (· < ·) := by
  induction blocks generalizing t with
  | nil => exact h
  | cons b bs ih =>
    refine ih (t.markWhen true b) ?_
    unfold Store.markWhen
    dsimp only
    split
    · exact insertAscending_ascending h
    · exact h

theorem doStoreRewrite_refused {reason : Result}
    (h : FirstFailing [(s.store.unusable = true, .storeUnusable), (s.store.state ≠ .opened, .powerFail)] (some reason)) :
    doStoreRewrite () s = (s, .plain reason) := by
  rcases h with ⟨hu, hr⟩ | ⟨hu, ⟨ho, hr⟩ | ⟨-, hr⟩⟩
  · obtain rfl := Option.some.inj hr
    exact if_pos hu
  · obtain rfl := Option.some.inj hr
    exact (if_neg hu).trans (if_pos ho)
  · cases hr

theorem doStoreRewrite_marks {blocks : List Nat} (hb : blocks = List.range 129) (hu : s.store.unusable = false)
    (ho : s.store.state = .opened) : doStoreRewrite () s
      = ({ s with store := s.store.markAll blocks }, .okay [.b1 (s.store.markAll blocks).dirty.length]) :=
  hb ▸ (if_neg (Bool.eq_false_iff.mp hu)).trans (if_neg (not_not.mpr ho))

/-! ### The power-fail input -/

theorem Reaches.assertPowerFail (s : State) : Reaches [.persons, .lanes, .notices, .wake, .store] s s.assertPowerFail :=
  (((Reaches.putStore s { s.store with state := .closing, assertedAt := s.clock.mono }).trans
    (Reaches.cancelAllPermits _)).trans (Reaches.raise _ _ _)).mono (by decide)

/-- The store once an assertion has been taken, before the writer's turn. -/
def State.warned (s : State) : State := { s with store := { s.store with state := .closing, assertedAt := s.clock.mono } }

/-- An assertion: the records and the lanes are as the cancelling of the permits leaves them. -/
theorem assertPowerFail_frame (s : State) : ∃ ps ls, s.warned.cancelAllPermits = { s.warned with persons := ps, lanes := ls }
    ∧ s.assertPowerFail = State.raise MemberId.powerFail s.store.dirty.length { s.warned with persons := ps, lanes := ls } := by
  obtain ⟨ps, ls, hf⟩ := State.cancelAllPermits_frame s.warned
  have asserted : s.assertPowerFail = s.warned.cancelAllPermits.raise MemberId.powerFail s.store.dirty.length := rfl
  exact ⟨ps, ls, hf, by rw [asserted, hf]⟩

/-- What an assertion leaves. -/
theorem assertPowerFail_spec (hp : s.persons.wf none) (hl : s.lanes.wf Lane.reset) :
    s.assertPowerFail.store = { s.store with state := .closing, assertedAt := s.clock.mono }
      ∧ (∀ i, ∃ permit, s.assertPowerFail.person i = (s.person i).map fun p => { p with gatePermit := permit })
      ∧ PermitsCancelled s s.assertPowerFail ∧ Raised s s.assertPowerFail MemberId.powerFail s.store.dirty.length := by
  obtain ⟨ps, ls, hf, ha⟩ := assertPowerFail_frame s
  have raised := Raised.of_raise ({ s.warned with persons := ps, lanes := ls } : State) MemberId.powerFail s.store.dirty.length
  have person := State.cancelAllPermits_person (s := s.warned) hp hl
  have cancelled : PermitsCancelled s ({ s.warned with persons := ps, lanes := ls } : State) :=
    PermitsCancelled.of_cancel (u := s.warned) hp hl (fun _ => rfl) (fun i p h => ⟨p, h, rfl⟩) (fun l => by rw [hf]) fun i => by rw [hf]
  rw [hf] at person
  rw [ha]
  refine ⟨rfl, fun i => ?_, ⟨cancelled.lanes, cancelled.gatePermits⟩, raised.1, raised.2⟩
  have own : (State.raise MemberId.powerFail s.store.dirty.length ({ s.warned with persons := ps, lanes := ls } : State)).person i = _ :=
    person i
  rw [own]
  split
  · exact ⟨none, rfl⟩
  · change ∃ permit, s.person i = _
    cases hi : s.person i with
    | none => exact ⟨none, rfl⟩
    | some p => exact ⟨p.gatePermit, rfl⟩

theorem isStarting_of_running (h : s.phase = .running) : s.isStarting = false := by simp only [State.isStarting, h]

theorem exec_powerFailAssert (h : s.phase ≠ .assertionDue) : exec .powerFailAssert s = s.inputRises := by
  change execPowerFailAssert s = _
  unfold execPowerFailAssert
  cases hp : s.phase with
  | assertionDue => exact absurd hp h
  | starting r => rfl
  | running => rfl

theorem inputRises_open (hl : s.powerFailLevel = false) (hp : s.phase = .running)
    (ho : s.store.state = .opened ∨ s.store.state = .reopening) :
    s.inputRises = event (State.assertPowerFail { s with powerFailLevel := true }) := by
  rcases ho with ho | ho <;> simp only [State.inputRises, hl, isStarting_of_running hp, ho, Bool.false_eq_true, if_false]

theorem inputRises_starting (hl : s.powerFailLevel = false) (hp : s.isStarting = true) :
    s.inputRises = event { s with powerFailLevel := true } := by
  simp only [State.inputRises, hl, hp, Bool.false_eq_true, if_false, if_true]

theorem takeDueAssertion_due (h : s.phase = .assertionDue) :
    s.takeDueAssertion = (State.assertPowerFail { s with phase := .running }).writerTurn := by
  simp only [State.takeDueAssertion, h]

theorem takeDueAssertion_none (h : s.phase ≠ .assertionDue) : s.takeDueAssertion = s := by
  unfold State.takeDueAssertion
  cases hp : s.phase with
  | assertionDue => exact absurd hp h
  | starting r => rfl
  | running => rfl

theorem exec_powerFailRelease (h : s.powerFailLevel = true) : exec .powerFailRelease s = s.takeDueAssertion.inputFalls := by
  change execPowerFailRelease s = _
  simp only [execPowerFailRelease, h, Bool.not_true, Bool.false_eq_true, if_false]

/-- The part once a release is taken, the store in a state. -/
def State.restored (now : StoreState) (s : State) : State := { s with powerFailLevel := false, store := s.store.released now }

theorem inputFalls_closing (hp : s.phase = .running) (hs : s.store.state = .closing) :
    s.inputFalls = event ((s.restored .opened).raise MemberId.powerRestored 0) := by
  simp only [State.inputFalls, isStarting_of_running hp, hs, Bool.false_eq_true, if_false]
  rfl

theorem inputFalls_closed (hp : s.phase = .running) (hs : s.store.state = .closed) :
    s.inputFalls = event ((s.restored .reopening).raise MemberId.powerRestored 1) := by
  simp only [State.inputFalls, isStarting_of_running hp, hs, Bool.false_eq_true, if_false]
  rfl

theorem inputFalls_starting (hp : s.isStarting = true) : s.inputFalls = event { s with powerFailLevel := false } := by
  simp only [State.inputFalls, hp, if_true]

theorem Reaches.setLevel (s : State) (v : Bool) : Reaches [.pins] s { s with powerFailLevel := v } := .of_restore rfl

theorem Reaches.restored (s : State) (now : StoreState) : Reaches [.pins, .store] s (s.restored now) := .of_restore rfl

/-- The event of a release. -/
theorem release_restores {now : StoreState} {d : Nat} (hl : s.powerFailLevel = true) (hp : s.phase = .running)
    (hx : s.inputFalls = event ((s.restored now).raise MemberId.powerRestored d)) :
    ∃ t, exec .powerFailRelease s = .next t
      ∧ (t.powerFailLevel = false ∧ t.unitAddressPins = s.unitAddressPins ∧ t.unitAddress = s.unitAddress
        ∧ t.store = ({ s.store.markWhen s.store.orderly 128 with state := now, orderly := false }).turn
            (!t.isRunning) t.persons t.muster t.clock.mono
        ∧ Keeps [.pins, .notices, .wake, .store] s t)
      ∧ Raised s t MemberId.powerRestored d := by
  have run := (exec_powerFailRelease hl).trans ((congrArg State.inputFalls (takeDueAssertion_none (by rw [hp]; nofun))).trans hx)
  have raised := Raised.of_raise (s.restored now) MemberId.powerRestored d
  exact ⟨_, run, ⟨rfl, rfl, rfl, rfl, (((Reaches.restored s now).trans (Reaches.raise _ _ _)).mono (by decide)).turned⟩,
    raised.1, raised.2⟩

/-- Settles O53: the rewrite marks, an assertion closes, and a release opens or reopens. -/
theorem storeFollowsThePower : Obligations.StoreFollowsThePower := by
  refine ⟨fun s r h => ⟨fun reason hf => ?_, fun hu ho => ?_⟩, fun s hs hl => ⟨fun hp ho => ?_, fun hst => ?_⟩, fun s hs hp => ?_,
    fun s hl => ?_⟩
  · exact host_refused h rfl (doStoreRewrite_refused (s := s.dropHostRequest) hf)
  · obtain ⟨blocks, hb⟩ : ∃ blocks, blocks = List.range 129 := ⟨_, rfl⟩
    obtain ⟨t, hx, ha, ht, hk⟩ := host_acts (c := .storeRewrite r) (act := doStoreRewrite)
      (P := fun t => t.store = (s.store.markAll blocks).turn (!t.isRunning) t.persons t.muster t.clock.mono) h rfl
      (doStoreRewrite_marks (s := s.dropHostRequest) hb hu ho) (Reaches.putStore _ _) (by decide) rfl
    refine ⟨t, (s.store.markAll blocks).dirty, hx, ha, fun b => ?_, Store.markAll_ascending _ _, ?_, hk⟩
    · rw [Store.mem_markAll, hb, List.mem_range, or_comm, Nat.lt_succ_iff]
    · rw [← Store.markAll_eq]
      exact ht
  · have hx := (exec_powerFailAssert (by rw [hp]; nofun)).trans (inputRises_open hl hp ho)
    obtain ⟨hstore, hperson, hc, hr⟩ := assertPowerFail_spec (s := { s with powerFailLevel := true }) hs.persons hs.lanes
    have reach := Reaches.assertPowerFail { s with powerFailLevel := true }
    have keeps := (((Reaches.setLevel s true).trans reach).mono (by decide)).turned (a := [.pins, .persons, .lanes, .notices, .wake, .store])
    have pins := reach .pins (by decide)
    generalize State.assertPowerFail { s with powerFailLevel := true } = v at *
    exact ⟨_, hx, pins.2.2, pins.1, pins.2.1, congrArg (fun x : Store => x.turn (!v.isRunning) v.persons v.muster v.clock.mono) hstore,
      hperson, ⟨hc.lanes, hc.gatePermits⟩, hr, keeps⟩
  · exact ⟨_, (exec_powerFailAssert (by intro hp; simp [State.isStarting, hp] at hst)).trans (inputRises_starting hl hst), rfl, rfl, rfl,
      (Reaches.setLevel s true).turned⟩
  · have hx : exec .powerFailAssert s = .next s.takeDueAssertion := by
      change execPowerFailAssert s = _
      simp only [execPowerFailAssert, hp]
    rw [takeDueAssertion_due hp] at hx
    obtain ⟨hstore, hperson, hc, hr⟩ := assertPowerFail_spec (s := { s with phase := .running }) hs.persons hs.lanes
    have phased : Reaches [.phase] s { s with phase := .running } := .of_restore rfl
    have reach := Reaches.assertPowerFail { s with phase := .running }
    have keeps := ((phased.trans reach).mono (by decide)).turned (a := [.phase, .persons, .lanes, .notices, .wake, .store])
    have phase : (State.assertPowerFail { s with phase := .running }).phase = .running := reach .phase (by decide)
    have pins := reach .pins (by decide)
    have due := takeDueAssertion_due hp
    generalize State.assertPowerFail { s with phase := .running } = v at *
    have running : v.isRunning = true := by simp only [State.isRunning, phase]
    refine ⟨_, hx, phase, ?_, hperson, ⟨hc.lanes, hc.gatePermits⟩, hr, keeps, fun hl => ?_⟩
    · change v.store.turn (!v.isRunning) v.persons v.muster v.clock.mono = _
      rw [running, hstore]
      rfl
    · have level : v.writerTurn.powerFailLevel = true := pins.2.2.trans hl
      rw [exec_powerFailRelease hl, exec_powerFailRelease level, due,
        takeDueAssertion_none (s := v.writerTurn) (by rw [State.writerTurn_phase, phase]; nofun)]
  · intro released
    refine ⟨fun hp hc => release_restores hl hp (inputFalls_closing hp hc), fun hp hc => release_restores hl hp (inputFalls_closed hp hc),
      fun hst => ?_⟩
    have due : s.phase ≠ .assertionDue := by intro hp; simp [State.isStarting, hp] at hst
    exact ⟨_, (exec_powerFailRelease hl).trans ((congrArg State.inputFalls (takeDueAssertion_none due)).trans (inputFalls_starting hst)),
      rfl, rfl, rfl, (Reaches.setLevel s false).turned⟩

end Sys2Proof.Machine
end

section
/-!
PROOFS. The obligation on the completion of a write and the writer's turn: what a turn does (R155, R157, R159, R161).
-/

namespace Sys2Proof.Machine

variable {v : Store} {waits : Bool} {persons : Table (Option Person)} {m : Muster} {now b : Nat}

/-! ### The closing write -/

/-- The closing write begins. -/
def Store.closingBegins (waits : Bool) (v : Store) : Prop :=
  waits = false ∧ v.state = .closing ∧ v.dirty = [] ∧ v.inFlight = none ∧ v.orderly = false ∧ v.unusable = false

theorem closingTurn_none (h : ¬ v.closingBegins waits) : v.closingTurn waits = v := by
  have begins : (!waits && v.state == .closing && v.dirty.isEmpty && v.inFlight.isNone && !v.orderly && !v.unusable) = false := by
    refine Bool.eq_false_iff.mpr fun hc => h ?_
    simp only [Bool.and_eq_true, Bool.not_eq_true', beq_iff_eq, List.isEmpty_iff, Option.isNone_iff_eq_none] at hc
    obtain ⟨⟨⟨⟨⟨h1, h2⟩, h3⟩, h4⟩, h5⟩, h6⟩ := hc
    exact ⟨h1, h2, h3, h4, h5, h6⟩
  simp only [Store.closingTurn, begins, Bool.or_false, Bool.false_eq_true, if_false]

theorem closingTurn_begins (h : v.closingBegins waits) : v.closingTurn waits = { v with orderly := true, dirty := [controlBlock] } := by
  obtain ⟨h1, h2, h3, h4, h5, h6⟩ := h
  simp only [Store.closingTurn, h1, h2, h3, h4, h5, h6, Bool.not_false, beq_self_eq_true, List.isEmpty_nil, Option.isNone_none,
    Bool.and_self, Bool.or_true, if_true]

/-! ### The turn -/

theorem turn_busy (h : v.inFlight ≠ none) : v.turn waits persons m now = v := by
  have stands : v.closingTurn waits = v := closingTurn_none fun hc => h hc.2.2.2.1
  simp only [Store.turn, stands, Option.isSome_iff_ne_none.mpr h, if_true]

theorem turn_idle (hc : ¬ v.closingBegins waits) (hn : v.nextBlock waits = none) : v.turn waits persons m now = v := by
  simp only [Store.turn, closingTurn_none hc, hn, ite_self]

theorem turn_starts (hf : v.inFlight = none) (hc : ¬ v.closingBegins waits) (hn : v.nextBlock waits = some b) :
    v.turn waits persons m now = v.startWrite persons m now b := by
  simp only [Store.turn, closingTurn_none hc, hf, hn, Option.isSome_none, Bool.false_eq_true, if_false]

theorem nextBlock_control (h : controlBlock ∈ v.dirty) (hw : v.writer ≠ .stopped) : v.nextBlock waits = some controlBlock := by
  have mem : v.dirty.contains controlBlock = true := List.contains_iff_mem.mpr h
  unfold Store.nextBlock
  cases hv : v.writer with
  | stopped => exact absurd hv hw
  | lastOwed => simp only [mem, if_true]
  | normal => simp only [mem, if_true]

/-- Without a mark of the control block the writer takes nothing where the person blocks wait or it is not at work. -/
theorem nextBlock_waits (h : controlBlock ∉ v.dirty) (hw : waits = true ∨ v.writer ≠ .normal) : v.nextBlock waits = none := by
  have mem : v.dirty.contains controlBlock = false := Bool.eq_false_iff.mpr fun hc => h (List.contains_iff_mem.mp hc)
  unfold Store.nextBlock
  cases hv : v.writer with
  | stopped => rfl
  | lastOwed => simp only [mem, Bool.false_eq_true, if_false]
  | normal => simp only [mem, Bool.false_eq_true, if_false, hw.resolve_right (not_not.mpr hv), if_true]

theorem nextBlock_person (h : controlBlock ∉ v.dirty) (hn : v.writer = .normal) : v.nextBlock false
    = ((v.dirty.find? fun b => decide (v.lastWritten < b)).or v.dirty.head?) := by
  have mem : v.dirty.contains controlBlock = false := Bool.eq_false_iff.mpr fun hc => h (List.contains_iff_mem.mp hc)
  simp only [Store.nextBlock, hn, mem, Bool.false_eq_true, if_false]
  cases v.dirty.find? fun b => decide (v.lastWritten < b) <;> rfl

theorem nextBlock_empty (h : v.dirty = []) : v.nextBlock waits = none := by
  by_cases hw : waits = true ∨ v.writer ≠ .normal
  · exact nextBlock_waits (by rw [h]; nofun) hw
  · obtain ⟨h1, h2⟩ := not_or.mp hw
    rw [Bool.eq_false_iff.mpr h1, nextBlock_person (by rw [h]; nofun) (not_not.mp h2), h]
    rfl

/-- The first of an ascending list that passes a test is the least that does. -/
theorem find_least {l : List Nat} {p : Nat → Bool} (hl : l.Pairwise (· < ·)) (hb : b ∈ l) (hp : p b = true)
    (hleast : ∀ c ∈ l, p c = true → b ≤ c) : l.find? p = some b := by
  cases hf : l.find? p with
  | none => exact absurd hp (List.find?_eq_none.mp hf b hb)
  | some c =>
    obtain ⟨hc, as, bs, rfl, hbefore⟩ := List.find?_eq_some_iff_append.mp hf
    refine congrArg some (Nat.le_antisymm ?_ (hleast c (by simp) hc))
    rcases List.mem_append.mp hb with hb | hb
    · exact absurd hp (Bool.eq_false_iff.mp ((Bool.not_eq_true' _).mp (hbefore b hb)))
    · rcases List.mem_cons.mp hb with rfl | hb
      · exact le_rfl
      · exact Nat.le_of_lt ((List.pairwise_cons.mp (List.pairwise_append.mp hl).2.1).1 b hb)

/-- The writer goes round: the lowest above the block last written, or else the lowest. -/
theorem nextBlock_round (h : controlBlock ∉ v.dirty) (hn : v.writer = .normal) (hl : v.dirty.Pairwise (· < ·)) (hb : b ∈ v.dirty)
    (hnext : (v.lastWritten < b ∧ ∀ c ∈ v.dirty, v.lastWritten < c → b ≤ c) ∨ (∀ c ∈ v.dirty, c ≤ v.lastWritten ∧ b ≤ c)) :
    v.nextBlock false = some b := by
  rw [nextBlock_person h hn]
  rcases hnext with ⟨habove, hleast⟩ | hall
  · rw [find_least (p := fun b => decide (v.lastWritten < b)) hl hb (decide_eq_true habove) fun c hc hp => hleast c hc (of_decide_eq_true hp)]
    rfl
  · have none : v.dirty.find? (fun b => decide (v.lastWritten < b)) = Option.none :=
      List.find?_eq_none.mpr fun c hc hp => absurd (hall c hc).1 (Nat.not_le.mpr (of_decide_eq_true hp))
    have first := find_least (p := fun _ => true) hl hb rfl fun c hc _ => (hall c hc).2
    rw [none, Option.none_or]
    cases hd : v.dirty with
    | nil => rw [hd] at hb; exact nomatch hb
    | cons c cs => rw [hd] at first; exact first

/-- Of the writer's turn, what it does in each case. -/
theorem writerTurn_cases (waits : Bool) (persons : Table (Option Person)) (m : Muster) (now : Nat) (t : Store) :
    let turned := t.turn waits persons m now
    let drained := waits = false ∧ t.state = .closing ∧ t.dirty = [] ∧ t.inFlight = none ∧ t.orderly = false
      ∧ t.unusable = false
    let facts : ControlFacts :=
      { boot := t.boot, musterActive := m.active, musterId := m.id, orderly := t.orderly, failedList := t.failedList
        unusable := t.unusable }
    let starts := fun (b : Nat) (copy : Copy) =>
      turned = { t with dirty := t.dirty.erase b, inFlight := some ⟨b, now, copy⟩ }
    (t.inFlight ≠ none → turned = t)
    ∧ (t.dirty = [] → ¬ drained → turned = t)
    ∧ (t.writer = .stopped → ¬ drained → turned = t)
    ∧ (t.inFlight = none → 128 ∉ t.dirty → t.dirty ≠ [] → waits = true ∨ t.writer ≠ .normal → turned = t)
    ∧ (t.inFlight = none → 128 ∈ t.dirty → t.writer ≠ .stopped → starts 128 (.control facts))
    ∧ (t.inFlight = none → 128 ∉ t.dirty → waits = false → t.writer = .normal → t.dirty.Pairwise (· < ·) →
        ∀ b ∈ t.dirty, (t.lastWritten < b ∧ ∀ c ∈ t.dirty, t.lastWritten < c → b ≤ c)
            ∨ (∀ c ∈ t.dirty, c ≤ t.lastWritten ∧ b ≤ c) →
          starts b (.person (personCopy persons b)))
    ∧ (drained → t.writer = .normal → turned = { t with
        orderly := true, inFlight := some ⟨128, now, .control { facts with orderly := true }⟩ }) := by
  intro turned drained facts starts
  refine ⟨turn_busy, fun hd hc => turn_idle hc (nextBlock_empty hd), fun hw hc => turn_idle hc (by simp only [Store.nextBlock, hw]),
    fun hf hn hd hw => turn_idle (fun hc => hd hc.2.2.1) (nextBlock_waits hn hw),
    fun hf hm hw => turn_starts hf (fun hc => by rw [hc.2.2.1] at hm; exact nomatch hm) (nextBlock_control hm hw),
    fun hf hn hw hv hl b hb hnext => ?_, fun hc hw => ?_⟩
  · subst hw
    have started := turn_starts (persons := persons) (m := m) (now := now) hf (fun hc => by rw [hc.2.2.1] at hb; exact nomatch hb)
      (nextBlock_round hn hv hl hb hnext)
    refine started.trans ?_
    rw [Store.startWrite, if_neg fun he : b = controlBlock => hn (show controlBlock ∈ t.dirty from he ▸ hb)]
  · have begun : t.closingTurn waits = _ := closingTurn_begins hc
    have next := nextBlock_control (v := { t with orderly := true, dirty := [controlBlock] }) (waits := waits)
      (List.mem_singleton_self _) (by rw [hw]; nofun)
    change t.turn waits persons m now = _
    obtain ⟨-, -, hd, hf, -, -⟩ := hc
    have idle : (t.closingTurn waits).inFlight = none := hf
    rw [← begun] at next
    have started : t.turn waits persons m now = (t.closingTurn waits).startWrite persons m now controlBlock := by
      simp only [Store.turn, next, idle, Option.isSome_none, Bool.false_eq_true, if_false]
    rw [started, begun, Store.startWrite, if_pos rfl, List.erase_cons_head, hd]
    rfl

/-! ### What a person block is written with -/

theorem isMustered_iff {m : MusterState} : m.isMustered = true ↔ m = .unrecorded ∨ ∃ k, m = .mustered k := by
  cases m with
  | none => exact ⟨nofun, fun h => h.elim nofun fun ⟨_, h⟩ => nomatch h⟩
  | unmustered => exact ⟨nofun, fun h => h.elim nofun fun ⟨_, h⟩ => nomatch h⟩
  | mustered k => exact ⟨fun _ => .inr ⟨k, rfl⟩, fun _ => rfl⟩
  | unrecorded => exact ⟨fun _ => .inl rfl, fun _ => rfl⟩

theorem retained_iff {o : Option Person} {e : StoredEntry} : retained o = some e ↔ ∃ p, o = some p ∧ e.cls = p.cls
    ∧ e.generation = p.generation ∧ e.location = p.location ∧ (e.mustered = true ↔ p.muster = .unrecorded ∨ ∃ k, p.muster = .mustered k) := by
  constructor
  · cases o with
    | none => exact nofun
    | some p =>
      intro h
      obtain rfl := Option.some.inj h
      exact ⟨p, rfl, rfl, rfl, rfl, isMustered_iff⟩
  · rintro ⟨p, rfl, hc, hg, hl, hm⟩
    obtain ⟨c, g, l, m⟩ := e
    subst hc hg hl
    rw [← isMustered_iff, ← Bool.eq_iff_iff] at hm
    exact congrArg (fun m => some (⟨p.cls, p.generation, p.location, m⟩ : StoredEntry)) hm.symm

theorem mem_personCopy_iff (hw : persons.wf none) (i : Nat) (e : StoredEntry) : (i, e) ∈ personCopy persons b ↔
    blockOf i = b ∧ ∃ p, persons.read none i = some p ∧ e.cls = p.cls ∧ e.generation = p.generation ∧ e.location = p.location
      ∧ (e.mustered = true ↔ p.muster = .unrecorded ∨ ∃ k, p.muster = .mustered k) := by
  rw [mem_personCopy hw, retained_iff]

end Sys2Proof.Machine
end

section
/-!
PROOFS. The obligation on the completion of a write and the writer's turn: what a completion leaves (R157 to R162, R166).
-/

namespace Sys2Proof.Machine

variable {s t : State} {v : Store} {f : Flight} {d : Nat} {agrees : Bool}

/-! ### The store after a completion -/

/-- The writer after a completion: the last write of an UNUSABLE store stops it. -/
def Store.writerAfter (v : Store) (block : Nat) : Writer := if v.writer = .lastOwed ∧ block = 128 then .stopped else v.writer

theorem afterLast_eq (u : Store) (w : Writer) (b : Nat) :
    u.afterLast (w == .lastOwed) b = { u with writer := if w = .lastOwed ∧ b = 128 then .stopped else u.writer } := by
  have owed : (w == .lastOwed && b == controlBlock) = true ↔ w = .lastOwed ∧ b = 128 := by
    rw [Bool.and_eq_true, beq_iff_eq, beq_iff_eq]
    rfl
  simp only [Store.afterLast, owed]

theorem afterLast_person {u : Store} {b : Nat} (w : Writer) (h : b ≠ 128) : u.afterLast (w == .lastOwed) b = u := by
  rw [afterLast_eq, if_neg fun hc => h hc.2]

theorem completed_person {l : List (Nat × StoredEntry)} (h : f.copy = .person l) : v.completed f true = { v with
    inFlight := none, blocks := v.blocks.write .erased f.block (.entries l), lastWritten := f.block
    faults := v.faults.write 0 f.block 0, writer := v.writerAfter f.block } := by
  simp only [Store.completed, Store.landed, h, if_true, Store.agreed, Store.closes, Store.reopens, Copy.carriesOrderly, Bool.and_false,
    Bool.false_and, Bool.false_eq_true, if_false, afterLast_eq, Store.writerAfter]

/-- A good closing write closes the store, and a good reopening write opens it. -/
def Store.stateAfter (v : Store) (f : Flight) : StoreState :=
  if v.closes f then .closed else if v.reopens f then .opened else v.state

theorem completed_control {facts : ControlFacts} (h : f.copy = .control facts) : v.completed f true = { v with
    inFlight := none, control := .written true facts, faults := v.faults.write 0 f.block 0, state := v.stateAfter f
    writer := v.writerAfter f.block } := by
  simp only [Store.completed, Store.landed, h, if_true, Store.agreed, afterLast_eq, Store.writerAfter]
  rfl

/-- The store once a write that disagreed has left its block failing its check, its fault counted. -/
def Store.spoiltBy (v : Store) (f : Flight) : Store :=
  { ({ v with inFlight := none } : Store).landed f false with faults := v.faults.write 0 f.block (v.faultCount f.block + 1) }

theorem landed_faults (u : Store) (f : Flight) (agrees : Bool) : (u.landed f agrees).faults = u.faults := by
  obtain ⟨_, _, _, h⟩ := u.landed_rest f agrees
  rw [h]

theorem completed_false (v : Store) (f : Flight) : v.completed f false =
    (if v.faultCount f.block + 1 < 3 then (v.spoiltBy f).markWhen true f.block
      else if f.block = controlBlock then (v.spoiltBy f).spoil .stopped else (v.spoiltBy f).fail f.block).afterLast
        (v.writer == .lastOwed) f.block := by
  have faults := landed_faults { v with inFlight := none } f false
  have count : (({ v with inFlight := none } : Store).landed f false).faultCount f.block = v.faultCount f.block :=
    congrArg (fun t => Table.read 0 t f.block) faults
  simp only [Store.completed, Bool.false_eq_true, if_false, Store.faulted, count, faults]
  rfl

theorem spoiltBy_person {l : List (Nat × StoredEntry)} (h : f.copy = .person l) : v.spoiltBy f = { v with
    inFlight := none, blocks := v.blocks.write .erased f.block .failing, lastWritten := f.block
    faults := v.faults.write 0 f.block (v.faultCount f.block + 1) } := by
  simp only [Store.spoiltBy, Store.landed, h, Bool.false_eq_true, if_false]

theorem spoiltBy_control {facts : ControlFacts} (h : f.copy = .control facts) : v.spoiltBy f = { v with
    inFlight := none, control := .failing, faults := v.faults.write 0 f.block (v.faultCount f.block + 1) } := by
  simp only [Store.spoiltBy, Store.landed, h, Bool.false_eq_true, if_false]

/-- The disagreeing write changes its block, the block last written and its fault count alone. -/
theorem spoiltBy_rest (v : Store) (f : Flight) : ∃ blocks control lastWritten faults,
    v.spoiltBy f = { v with inFlight := none, blocks, control, lastWritten, faults } := by
  obtain ⟨blocks, control, lastWritten, h⟩ := ({ v with inFlight := none } : Store).landed_rest f false
  exact ⟨blocks, control, lastWritten, _, by rw [Store.spoiltBy, h]⟩

theorem completed_again (h : v.faultCount f.block + 1 < 3) :
    v.completed f false = { (v.spoiltBy f).markWhen true f.block with writer := v.writerAfter f.block } := by
  obtain ⟨_, _, _, _, hs⟩ := spoiltBy_rest v f
  rw [completed_false, if_pos h, afterLast_eq, hs]
  rfl

theorem completed_listed (h : 3 ≤ v.faultCount f.block + 1) (hb : f.block ≠ 128) (hl : v.failedList.length < 8) :
    v.completed f false = ({ v.spoiltBy f with
      dirty := v.dirty.erase f.block, failedList := v.failedList ++ [f.block] } : Store).markWhen true 128 := by
  obtain ⟨_, _, _, _, hs⟩ := spoiltBy_rest v f
  rw [completed_false, if_neg (Nat.not_lt.mpr h), if_neg (show f.block ≠ controlBlock from hb), afterLast_person _ hb, hs]
  simp only [Store.fail, hl, if_true]
  rfl

theorem completed_unlisted (h : 3 ≤ v.faultCount f.block + 1) (hb : f.block ≠ 128) (hl : 8 ≤ v.failedList.length) :
    v.completed f false = { ({ v.spoiltBy f with dirty := v.dirty.erase f.block, unlistedFailed := some f.block } : Store).markWhen
        (!v.unusable) 128 with
      unusable := true, writer := .lastOwed, state := if v.state = .reopening then .opened else v.state } := by
  obtain ⟨_, _, _, _, hs⟩ := spoiltBy_rest v f
  rw [completed_false, if_neg (Nat.not_lt.mpr h), if_neg (show f.block ≠ controlBlock from hb), afterLast_person _ hb, hs]
  simp only [Store.fail, Nat.not_lt.mpr hl, if_false]
  rfl

theorem completed_stopped (h : 3 ≤ v.faultCount f.block + 1) (hb : f.block = 128) :
    v.completed f false = { (v.spoiltBy f).markWhen (!v.unusable) 128 with
      unusable := true, writer := .stopped, state := if v.state = .reopening then .opened else v.state } := by
  obtain ⟨_, _, _, _, hs⟩ := spoiltBy_rest v f
  rw [completed_false, if_neg (Nat.not_lt.mpr h), if_pos (show f.block = controlBlock from hb), afterLast_eq, hs]
  simp only [Store.spoil, ite_self]
  rfl

theorem closes_iff {facts : ControlFacts} (h : f.copy = .control facts) :
    v.closes f = true ↔ v.state = .closing ∧ facts.orderly = true ∧ v.dirty = [] ∧ v.unusable = false := by
  simp only [Store.closes, h, Copy.carriesOrderly, Bool.and_eq_true, beq_iff_eq, List.isEmpty_iff, Bool.not_eq_true', and_assoc]

theorem reopens_iff {facts : ControlFacts} (h : f.copy = .control facts) :
    v.reopens f = true ↔ v.state = .reopening ∧ facts.orderly = false := by
  simp only [Store.reopens, h, Copy.carriesOrderly, Bool.and_eq_true, beq_iff_eq]

theorem closes_person {l : List (Nat × StoredEntry)} (h : f.copy = .person l) : v.closes f = false := by
  simp only [Store.closes, h, Copy.carriesOrderly, Bool.and_false, Bool.false_and]

/-! ### The notices of a completion -/

theorem RaisedAll.one {m : MemberId} {d : Nat} (h : RaisedAll s t [(m, d)]) : Raised s t m d :=
  ⟨h.1, h.2.trans (by rw [List.any_cons, List.any_nil, Bool.or_false])⟩

theorem RaisedAll.none (h : RaisedAll s t []) : Silent s t :=
  ⟨h.1, h.2.trans (by rw [List.any_nil, Bool.and_false, Bool.or_false])⟩

theorem completionNotices_raised (before : Store) (f : Flight) (agrees : Bool) (hw : s.notices.members.wf Member.reset) :
    RaisedAll s (s.completionNotices before f agrees)
      (eventIf (agrees = false) MemberId.storeFault f.block
        ++ eventIf (agrees = false ∧ f.block ≠ 128 ∧ 3 ≤ before.faultCount f.block + 1) MemberId.storeBlockFailed f.block
        ++ eventIf (agrees = true ∧ before.closes f = true) MemberId.storeClosed (min (s.clock.mono - before.assertedAt) 65535)) := by
  have disagrees : (!agrees) = true ↔ agrees = false := by rw [Bool.not_eq_true']
  have fails : (!agrees && f.block != controlBlock && decide (3 ≤ before.faultCount f.block + 1)) = true
      ↔ agrees = false ∧ f.block ≠ 128 ∧ 3 ≤ before.faultCount f.block + 1 := by
    rw [Bool.and_eq_true, Bool.and_eq_true, Bool.not_eq_true', bne_iff_ne, decide_eq_true_eq, and_assoc]
    rfl
  have closes : (agrees && before.closes f) = true ↔ agrees = true ∧ before.closes f = true := by rw [Bool.and_eq_true]
  rw [← eventIf_congr disagrees, ← eventIf_congr fails, ← eventIf_congr closes]
  refine (((RaisedAll.of_silent ⟨rfl, rfl⟩).raiseWhen hw rfl _ nofun).raiseWhen hw rfl _ ?_).raiseWhen hw rfl _ ?_
  · intro e he
    rw [(mem_eventIf.mp he).2]
    exact (by decide : MemberId.storeFault.key ≠ MemberId.storeBlockFailed.key)
  · intro e he
    rcases List.mem_append.mp he with he | he
    · rw [(mem_eventIf.mp he).2]
      exact (by decide : MemberId.storeFault.key ≠ MemberId.storeClosed.key)
    · rw [(mem_eventIf.mp he).2]
      exact (by decide : MemberId.storeBlockFailed.key ≠ MemberId.storeClosed.key)

theorem completionNotices_true (before : Store) (f : Flight) (hw : s.notices.members.wf Member.reset) :
    RaisedAll s (s.completionNotices before f true)
      (eventIf (before.closes f = true) MemberId.storeClosed (min (s.clock.mono - before.assertedAt) 65535)) := by
  have raised := completionNotices_raised before f true hw
  rw [eventIf_congr (and_iff_right rfl : (true = true ∧ before.closes f = true) ↔ _)] at raised
  exact raised

theorem completionNotices_false (before : Store) (f : Flight) (hw : s.notices.members.wf Member.reset) :
    RaisedAll s (s.completionNotices before f false) ((MemberId.storeFault, f.block)
      :: eventIf (f.block ≠ 128 ∧ 3 ≤ before.faultCount f.block + 1) MemberId.storeBlockFailed f.block) := by
  have raised := completionNotices_raised before f false hw
  have unclosed : eventIf (false = true ∧ before.closes f = true) MemberId.storeClosed (min (s.clock.mono - before.assertedAt) 65535) = [] :=
    if_neg fun h => Bool.false_ne_true h.1
  rw [unclosed, List.append_nil,
    eventIf_congr (and_iff_right rfl : (false = false ∧ f.block ≠ 128 ∧ 3 ≤ before.faultCount f.block + 1) ↔ _)] at raised
  exact raised

/-! ### The state after a completion -/

/-- The state once a completion's store and notices are in place, before the end of start-up and the writer's turn. -/
def State.written (f : Flight) (d : Nat) (agrees : Bool) (s : State) : State :=
  State.completionNotices s.store f agrees { s.advanceTo (f.startedAt + d) with store := s.store.completed f agrees }

theorem Reaches.written (f : Flight) (d : Nat) (agrees : Bool) (s : State) :
    Reaches [.clock, .store, .notices, .wake] s (s.written f d agrees) :=
  ((Reaches.advanceTo s _).trans ((Reaches.putStore _ _).trans ((Reaches.raiseWhen _ _ _ _).then
    ((Reaches.raiseWhen _ _ _ _).then (Reaches.raiseWhen _ _ _ _))))).mono (by decide)

theorem Reaches.turnedAs {a : List Part} {s t : State} (h : Reaches a s t) (hs : Part.store ∈ a) (waits : Bool) : Keeps a s (t.turnAs waits) :=
  fun p hp => by
    have hp' := h p hp
    cases p with
    | store => exact absurd hs hp
    | _ => exact hp'

theorem exec_storeWriteComplete (hf : s.store.inFlight = some f) (h1 : 1 ≤ d) (h8 : d ≤ 8) :
    exec (.storeWriteComplete d agrees) s = .next (((s.written f d agrees).afterStartUpWrite agrees).turnAs
      (!((s.written f d agrees).afterStartUpWrite agrees).isRunning || s.isStarting)) := by
  change execStoreWriteComplete d agrees s = _
  simp only [execStoreWriteComplete, hf, if_neg (show ¬ (d = 0 ∨ 8 < d) by omega)]
  rfl

/-- What every completion that leaves the phase alone leaves so. -/
theorem completes_plainly (hf : s.store.inFlight = some f) (h1 : 1 ≤ d) (h8 : d ≤ 8)
    (hx : (s.written f d agrees).afterStartUpWrite agrees = s.written f d agrees) :
    ∃ t, exec (.storeWriteComplete d agrees) s = .next t
      ∧ (AtTime s t (f.startedAt + d) ∧ t.phase = s.phase ∧ Keeps [.clock, .phase, .notices, .wake, .store] s t)
      ∧ t.notices = (s.written f d agrees).notices ∧ t.host.wake = (s.written f d agrees).host.wake
      ∧ ∀ u, s.store.completed f agrees = u → t.store = u.turn (!t.isRunning || s.isStarting) t.persons t.muster t.clock.mono := by
  have run := exec_storeWriteComplete (agrees := agrees) hf h1 h8
  rw [hx] at run
  exact ⟨_, run, ⟨rfl, rfl, ((Reaches.written f d agrees s).mono (by decide)).turnedAs (by decide) _⟩, rfl, rfl,
    fun u hu => hu ▸ rfl⟩

/-- What every completion that ends start-up leaves. -/
theorem completes_startUp {report : StartedReport} (hf : s.store.inFlight = some f) (h1 : 1 ≤ d) (h8 : d ≤ 8)
    (hx : (s.written f d agrees).afterStartUpWrite agrees = (s.written f d agrees).finishStartUp report) :
    ∃ t, exec (.storeWriteComplete d agrees) s = .next t
      ∧ (∀ unusable, (s.store.completed f agrees).unusable = unusable → AtTime s t (f.startedAt + d)
        ∧ t.phase = (if s.powerFailLevel then .assertionDue else .running)
        ∧ { t.host with wake := s.host.wake } = { s.host with started := some { report with unusable } }
        ∧ Keeps [.clock, .phase, .notices, .wake, .host, .store] s t)
      ∧ t.notices = (s.written f d agrees).notices ∧ t.host.wake = (s.written f d agrees).host.wake
      ∧ ∀ u, { s.store.completed f agrees with state := .opened } = u →
          t.store = u.turn (!t.isRunning || s.isStarting) t.persons t.muster t.clock.mono := by
  have run := exec_storeWriteComplete (agrees := agrees) hf h1 h8
  rw [hx] at run
  have finished : Reaches [.phase, .store, .host] (s.written f d agrees) ((s.written f d agrees).finishStartUp report) := .of_restore rfl
  exact ⟨_, run, fun unusable hu => ⟨rfl, rfl, hu ▸ rfl,
    (((Reaches.written f d agrees s).trans finished).mono (by decide)).turnedAs (by decide) _⟩, rfl, rfl, fun u hu => hu ▸ rfl⟩

theorem afterStartUpWrite_over (h : s.isStarting = false) : s.afterStartUpWrite agrees = s := by
  unfold State.afterStartUpWrite
  cases hp : s.phase with
  | starting r => simp only [State.isStarting, hp, Bool.true_eq_false] at h
  | assertionDue => rfl
  | running => rfl

theorem afterStartUpWrite_ends {report : StartedReport} (h : s.phase = .starting report) (he : agrees = true ∨ s.store.unusable = true) :
    s.afterStartUpWrite agrees = s.finishStartUp report := by
  have ends : (agrees || s.store.unusable) = true := (Bool.or_eq_true _ _).mpr he
  simp only [State.afterStartUpWrite, h, ends, if_true]

theorem afterStartUpWrite_again {report : StartedReport} (h : s.phase = .starting report) (hu : s.store.unusable = false) :
    s.afterStartUpWrite false = s := by
  simp only [State.afterStartUpWrite, h, hu, Bool.or_false, Bool.false_eq_true, if_false]

theorem written_true (hs : s.Tidy) (f : Flight) (d : Nat) : RaisedAll s (s.written f d true)
    (eventIf (s.store.closes f = true) MemberId.storeClosed (min ((s.written f d true).clock.mono - s.store.assertedAt) 65535)) :=
  completionNotices_true (s := { s.advanceTo (f.startedAt + d) with store := s.store.completed f true }) s.store f hs.members

theorem written_false (hs : s.Tidy) (f : Flight) (d : Nat) : RaisedAll s (s.written f d false) ((MemberId.storeFault, f.block)
    :: eventIf (f.block ≠ 128 ∧ 3 ≤ s.store.faultCount f.block + 1) MemberId.storeBlockFailed f.block) :=
  completionNotices_false (s := { s.advanceTo (f.startedAt + d) with store := s.store.completed f false }) s.store f hs.members

/-- A fault that fails no person block raises STORE_FAULT alone. -/
theorem written_fault {u : State} (hs : s.Tidy) (hn : u.notices = (s.written f d false).notices) (hw : u.host.wake = (s.written f d false).host.wake)
    (hc : ¬ (f.block ≠ 128 ∧ 3 ≤ s.store.faultCount f.block + 1)) : Raised s u MemberId.storeFault f.block := by
  have raised := written_false hs f d
  rw [eventIf, if_neg hc] at raised
  exact RaisedAll.one ⟨hn.trans raised.1, hw.trans raised.2⟩

theorem stateAfter_cases {facts : ControlFacts} (h : f.copy = .control facts) :
    ((v.state = .closing ∧ facts.orderly = true ∧ v.dirty = [] ∧ v.unusable = false) → v.stateAfter f = .closed)
    ∧ ((v.state = .reopening ∧ facts.orderly = false) → v.stateAfter f = .opened)
    ∧ (¬ (v.state = .closing ∧ facts.orderly = true ∧ v.dirty = [] ∧ v.unusable = false) →
        ¬ (v.state = .reopening ∧ facts.orderly = false) → v.stateAfter f = v.state) := by
  unfold Store.stateAfter
  rw [← closes_iff h, ← reopens_iff h]
  refine ⟨fun hc => if_pos hc, fun hr => (if_neg fun hc => ?_).trans (if_pos hr), fun hc hr => (if_neg hc).trans (if_neg hr)⟩
  have closing := ((closes_iff h).mp hc).1
  rw [((reopens_iff h).mp hr).1] at closing
  exact nomatch closing

/-- A turn in which the person blocks wait takes the control block, where it is dirty. -/
theorem turn_control {u : Store} {persons : Table (Option Person)} {m : Muster} {now : Nat} (h : u = v.turn true persons m now)
    (hd : controlBlock ∈ v.dirty) (hf : v.inFlight = none) (hw : v.writer ≠ .stopped) :
    u.inFlight = some ⟨128, now, .control (u.liveFacts m)⟩ := by
  have started := turn_starts (waits := true) (persons := persons) (m := m) (now := now) hf (fun hc => Bool.false_ne_true hc.1.symm) (nextBlock_control (waits := true) hd hw)
  rw [h, started]
  rfl

/-- Settles O54: a completion by its agreement and fault count, and the writer's turn case by case. -/
theorem writesLandOrFault : Obligations.WritesLandOrFault := by
  refine ⟨fun s f d hs hf h1 h8 => ?_, fun waits persons m now t => ?_⟩
  · intro wrote ends plainly goodFaults faults badFaults stops
    refine ⟨fun l hst hc => ?_, fun facts hst hc => ?_, fun hst => ?_, fun report facts hp hc => ?_⟩
    · obtain ⟨t, hx, plain, hn, hw, hstore⟩ := completes_plainly (agrees := true) hf h1 h8 (afterStartUpWrite_over hst)
      have raised := written_true hs f d
      rw [eventIf, if_neg (by rw [closes_person hc]; exact Bool.false_ne_true)] at raised
      exact ⟨t, hx, plain, RaisedAll.none ⟨hn.trans raised.1, hw.trans raised.2⟩, hstore _ (completed_person hc)⟩
    · intro closes reopens
      obtain ⟨t, hx, plain, hn, hw, hstore⟩ := completes_plainly (agrees := true) hf h1 h8 (afterStartUpWrite_over hst)
      obtain ⟨whenCloses, whenReopens, otherwise⟩ := stateAfter_cases (v := s.store) hc
      have raised := written_true hs f d
      have mono : (s.written f d true).clock.mono = t.clock.mono := by rw [plain.1]; rfl
      rw [mono] at raised
      refine ⟨t, s.store.stateAfter f, hx, plain, fun h => ⟨whenCloses h, ?_⟩, whenReopens, otherwise, fun h => ?_,
        hstore _ (completed_control hc)⟩
      · rw [eventIf, if_pos ((closes_iff hc).mpr h)] at raised
        exact RaisedAll.one ⟨hn.trans raised.1, hw.trans raised.2⟩
      · rw [eventIf, if_neg fun hcl => h ((closes_iff hc).mp hcl)] at raised
        exact RaisedAll.none ⟨hn.trans raised.1, hw.trans raised.2⟩
    · obtain ⟨t, hx, plain, hn, hw, hstore⟩ := completes_plainly (agrees := false) hf h1 h8 (afterStartUpWrite_over hst)
      refine ⟨t, s.store.spoiltBy f, hx, plain, fun ⟨l, hc⟩ => spoiltBy_person hc, fun ⟨facts, hc⟩ => spoiltBy_control hc,
        fun h => ⟨written_fault hs hn hw fun hc => absurd hc.2 (Nat.not_le.mpr h), hstore _ (completed_again h)⟩,
        fun h hb hl => hstore _ (completed_listed h hb hl), fun h hb hl => ⟨_, rfl, ?_⟩, fun h hb => ⟨?_, hstore _ (completed_stopped h hb)⟩,
        fun h hb => ?_⟩
      · exact hstore _ (completed_unlisted h hb hl)
      · exact hb ▸ written_fault hs hn hw fun hc => hc.1 hb
      · have raised := written_false hs f d
        rw [eventIf, if_pos ⟨hb, h⟩] at raised
        exact ⟨hn.trans raised.1, hw.trans raised.2⟩
    · intro ended failing
      have phase (agrees : Bool) : (s.written f d agrees).phase = .starting report := hp
      refine ⟨?_, fun hb hu h => ?_, fun hb h => ?_⟩
      · obtain ⟨t, hx, plain, hn, hw, hstore⟩ := completes_startUp (agrees := true) hf h1 h8 (afterStartUpWrite_ends (phase true) (.inl rfl))
        have completed := completed_control (v := s.store) hc
        have ended := plain s.store.unusable (by rw [completed])
        have raised := written_true hs f d
        have mono : (s.written f d true).clock.mono = t.clock.mono := by rw [ended.1]; rfl
        rw [mono, eventIf_congr (closes_iff hc)] at raised
        exact ⟨t, hx, ended, ⟨hn.trans raised.1, hw.trans raised.2⟩, hstore _ (by rw [completed]; rfl)⟩
      · have completed : s.store.completed f false = { (s.store.spoiltBy f).markWhen true 128 with writer := s.store.writerAfter f.block } :=
          (completed_again h).trans (by rw [hb])
        rw [spoiltBy_control hc] at completed
        obtain ⟨t, hx, plain, hn, hw, hstore⟩ := completes_plainly (agrees := false) hf h1 h8
          (afterStartUpWrite_again (phase false) ((congrArg Store.unusable completed).trans hu))
        have ended := hstore _ completed
        refine ⟨t, hx, plain, hb ▸ written_fault hs hn hw fun hc => hc.1 hb, ended, fun hv hfail => ?_⟩
        have starting : s.isStarting = true := by simp only [State.isStarting, hp]
        have waiting : (!t.isRunning || s.isStarting) = true := by rw [starting, Bool.or_true]
        rw [waiting] at ended
        exact turn_control ended (Store.mem_markWhen.mpr (.inl ⟨rfl, rfl, hfail⟩)) rfl
          (fun hst => by rw [Store.writerAfter, hv, if_neg fun hc => nomatch hc.1] at hst; exact nomatch hst)
      · obtain ⟨_, _, _, _, hrest⟩ := spoiltBy_rest s.store f
        have completed := completed_stopped (v := s.store) (f := f) h hb
        have unusable : (s.store.completed f false).unusable = true := by rw [completed]
        obtain ⟨t, hx, plain, hn, hw, hstore⟩ := completes_startUp (agrees := false) hf h1 h8
          (afterStartUpWrite_ends (phase false) (.inr unusable))
        refine ⟨t, hx, plain _ unusable, hb ▸ written_fault hs hn hw fun hc => hc.1 hb, hstore _ ?_⟩
        rw [completed, spoiltBy_control hc]
  · obtain ⟨h1, h2, h3, h4, h5, h6, h7⟩ := writerTurn_cases waits persons m now t
    exact ⟨h1, h2, h3, h4, h5, h6, h7, fun b hw => ⟨personCopy_entriesOf hw b, mem_personCopy_iff hw⟩⟩

end Sys2Proof.Machine
end

section
/-!
PROOFS. The obligation on what a reset leaves at its reset values (R163, R166).
-/

namespace Sys2Proof.Machine

variable {s : State} {cause : ResetCause} {pins : BitVec 4}

/-! ### The store that a reset leaves -/

/-- The store found UNUSABLE, or not (R164). -/
abbrev State.foundUnusable (s : State) : Bool := s.restoring.found.facts.unusable

theorem resetPart_store_usable (h : s.foundUnusable = false) : (s.resetPart cause pins).store
    = (restoredStore s.store.interrupted s.restoring).startWrite s.restoring.persons (restoredMusterUnit s.restoring) 0 controlBlock := by
  rw [State.resetPart_store, if_neg (Bool.eq_false_iff.mp h)]

theorem resetPart_store_unusable (h : s.foundUnusable = true) : (s.resetPart cause pins).store
    = { restoredStore s.store.interrupted s.restoring with state := .opened } := by
  rw [State.resetPart_store, if_pos h]

theorem restoring_dirty_person (s : State) : controlBlock ∉ s.restoring.dirty := fun h =>
  Nat.lt_irrefl _ (mem_restoring_dirty.mp h).1

/-- What the restored store is but for a write that step 4 begins. -/
theorem resetPart_store_restored (cause : ResetCause) (pins : BitVec 4) (s : State) :
    (s.resetPart cause pins).store = { restoredStore s.store.interrupted s.restoring with
      state := .opened, inFlight := (s.resetPart cause pins).store.inFlight } := by
  cases h : s.foundUnusable with
  | true => rw [resetPart_store_unusable h]
  | false =>
    have erased : s.restoring.dirty.erase controlBlock = s.restoring.dirty := List.erase_of_not_mem (restoring_dirty_person s)
    have started := resetPart_store_usable (cause := cause) (pins := pins) h
    rw [started]
    exact congrArg (fun dirty => ({ (restoredStore s.store.interrupted s.restoring).startWrite s.restoring.persons
      (restoredMusterUnit s.restoring) 0 controlBlock with dirty } : Store)) erased

theorem resetPart_writes (h : s.foundUnusable = false) : (s.resetPart cause pins).store.inFlight
    = some ⟨128, 0, .control ((s.resetPart cause pins).store.liveFacts (s.resetPart cause pins).muster)⟩ := by
  rw [State.resetPart_muster, resetPart_store_usable h]
  rfl

theorem resetPart_idle (h : s.foundUnusable = true) : (s.resetPart cause pins).store.inFlight = none := by
  rw [resetPart_store_unusable h]
  rfl

/-- The turn that ends a reset's event finds the control block's write begun, or the writer stopped. -/
theorem resetPart_turned (cause : ResetCause) (pins : BitVec 4) (s : State) :
    (s.resetPart cause pins).writerTurn = s.resetPart cause pins := by
  suffices stands : ∀ waits persons m now, (s.resetPart cause pins).store.turn waits persons m now = (s.resetPart cause pins).store by
    unfold State.writerTurn
    rw [stands]
  intro waits persons m now
  cases h : s.foundUnusable with
  | false => exact turn_busy (by rw [resetPart_writes h]; nofun)
  | true =>
    have stopped : (s.resetPart cause pins).store.writer = .stopped := by
      rw [resetPart_store_unusable h]
      exact if_pos h
    have opened : (s.resetPart cause pins).store.state = .opened := by rw [resetPart_store_unusable h]
    exact turn_idle (fun hc => by have := hc.2.1; rw [opened] at this; exact nomatch this) (by simp only [Store.nextBlock, stopped])

theorem exec_partReset (cause : ResetCause) (pins : BitVec 4) (s : State) :
    exec (.partReset cause pins) s = .next (s.resetPart cause pins) :=
  congrArg Host.Outcome.next (resetPart_turned cause pins s)

/-! ### The phase and the report -/

theorem resetPart_starts (h : s.foundUnusable = false) : (s.resetPart cause pins).phase = .starting (reportOf cause pins s.restoring)
    ∧ (s.resetPart cause pins).host.started = none := by
  unfold State.resetPart State.beginStep4
  change (ite (s.foundUnusable = true) _ _ : State).phase = _ ∧ (ite (s.foundUnusable = true) _ _ : State).host.started = _
  rw [if_neg (Bool.eq_false_iff.mp h)]
  exact ⟨rfl, rfl⟩

theorem resetPart_finishes (h : s.foundUnusable = true) :
    (s.resetPart cause pins).phase = (if s.powerFailLevel then .assertionDue else .running)
      ∧ (s.resetPart cause pins).host.started = some (reportOf cause pins s.restoring) := by
  unfold State.resetPart State.beginStep4
  change (ite (s.foundUnusable = true) _ _ : State).phase = _ ∧ (ite (s.foundUnusable = true) _ _ : State).host.started = _
  rw [if_pos h]
  exact ⟨rfl, rfl⟩

/-! ### Notices and lanes -/

/-- A muster resumes with nobody unmustered (R139). -/
def State.resumesAssembled (t : State) : Prop := t.muster.active = true ∧ t.muster.unmustered = 0

theorem raiseWhen_awake {t : State} (h : t.host.asleep = false) (c : Bool) (m : MemberId) (d : Nat) :
    (t.raiseWhen c m d).host.wake = t.host.wake := by
  rw [State.raiseWhen_host, h, Bool.and_false, Bool.false_and, Bool.or_false]

theorem resetPart_notices (cause : ResetCause) (pins : BitVec 4) (s : State) : (s.resetPart cause pins).notices
    = if (s.resetPart cause pins).muster.active && (s.resetPart cause pins).muster.unmustered == 0 then
        Notices.reset.raise MemberId.allMustered (s.resetPart cause pins).muster.id else Notices.reset := by
  obtain ⟨phase, started, store, h⟩ := State.resetPart_rest cause pins s
  rw [h]
  rfl

theorem resetPart_quiet (h : ¬ (s.resetPart cause pins).resumesAssembled) : (s.resetPart cause pins).notices = Notices.reset := by
  rw [resetPart_notices, if_neg]
  rw [Bool.and_eq_true, beq_iff_eq]
  exact h

theorem resetPart_raises (h : (s.resetPart cause pins).resumesAssembled) : (s.resetPart cause pins).notices
    = Notices.reset.raise MemberId.allMustered (s.resetPart cause pins).muster.id := by
  rw [resetPart_notices, if_pos]
  rw [Bool.and_eq_true, beq_iff_eq]
  exact h

theorem resetPart_member (cause : ResetCause) (pins : BitVec 4) (s : State) (m : MemberId) : (s.resetPart cause pins).notices.member m
    = if m.key = MemberId.allMustered.key ∧ (s.resetPart cause pins).muster.active = true ∧ (s.resetPart cause pins).muster.unmustered = 0 then
        { flag := true, count := 1, detail := (s.resetPart cause pins).muster.id, enable := true }
      else { flag := false, count := 0, detail := 0, enable := true } := by
  by_cases h : (s.resetPart cause pins).resumesAssembled
  · rw [resetPart_raises h, Notices.member_raise Table.wf_nil]
    by_cases hm : m.key = MemberId.allMustered.key
    · rw [if_pos hm, if_pos ⟨hm, h⟩]
      rfl
    · rw [if_neg hm, if_neg fun hc => hm hc.1]
      rfl
  · rw [resetPart_quiet h, if_neg fun hc => h hc.2]
    rfl

theorem resetPart_pendingGroup (cause : ResetCause) (pins : BitVec 4) (s : State) (g : Nat) :
    (s.resetPart cause pins).notices.isPending g = true
      ↔ g = 8 ∧ (s.resetPart cause pins).muster.active = true ∧ (s.resetPart cause pins).muster.unmustered = 0 := by
  by_cases h : (s.resetPart cause pins).resumesAssembled
  · have pending := isPending_putPending (n := Notices.reset.putMember MemberId.allMustered
      ((Notices.reset.member MemberId.allMustered).afterEvent (s.resetPart cause pins).muster.id)) Table.wf_nil 8 true g
    rw [resetPart_raises h]
    refine (Bool.eq_iff_iff.mp pending).trans ?_
    by_cases hg : g = 8
    · rw [if_pos hg]
      exact iff_of_true rfl ⟨hg, h⟩
    · rw [if_neg hg]
      exact iff_of_false Bool.false_ne_true fun hc => hg hc.1
  · rw [resetPart_quiet h]
    exact iff_of_false Bool.false_ne_true fun hc => h hc.2

theorem afterReset_beam (l : Lane) (b : Beam) : l.afterReset.beam b = { high := (l.beam b).high, broken := false, blockEnd := none
                                                                        filterEnd := if (l.beam b).high then none else some 20 } := by
  have beam (b : BeamState) : b.afterReset
      = { high := b.high, broken := false, blockEnd := none, filterEnd := if b.high then none else some 20 } := by
    cases hb : b.high <;> simp only [BeamState.afterReset, BeamState.refilter, readsBroken, hb] <;> rfl
  cases b with
  | outer => exact beam l.outer
  | inner => exact beam l.inner

/-- Settles O5: the state that a reset leaves, unit by unit. -/
theorem partResetLeavesResetValues : Obligations.PartResetLeavesResetValues := by
  intro cause pins s
  have hstore := resetPart_store_restored cause pins s
  have unusable : (s.resetPart cause pins).store.unusable = s.foundUnusable := by rw [hstore]; rfl
  have member := resetPart_member cause pins s
  have pending := resetPart_pendingGroup cause pins s
  refine ⟨_, reportOf cause pins s.restoring, exec_partReset cause pins s, rfl, rfl, by rw [hstore]; rfl, fun h => ?_, fun h => ?_,
    by rw [hstore]; rfl, by rw [hstore]; rfl, by rw [hstore]; rfl, ?_⟩
  · rw [unusable] at h
    exact ⟨(resetPart_starts h).1, (resetPart_starts h).2, resetPart_writes h⟩
  · rw [unusable] at h
    exact ⟨(resetPart_finishes h).1, (resetPart_finishes h).2, resetPart_idle h⟩
  · have lane (l : Nat) (hl : l < 4) : (s.resetPart cause pins).lane l = (s.lane l).afterReset :=
      (State.resetPart_lane cause pins s l).trans (if_pos hl)
    have quiet : (s.resetPart cause pins).notices.levels = defaultLevels ∧ (s.resetPart cause pins).notices.serviceLevel = 0
        ∧ (s.resetPart cause pins).notices.stack = [] := by
      rw [resetPart_notices]
      split <;> exact ⟨rfl, rfl, rfl⟩
    obtain ⟨levels, level, stack⟩ := quiet
    have awake : (s.resetPart cause pins).host.wake = false := by
      obtain ⟨phase, started, store, h⟩ := State.resetPart_rest cause pins s
      rw [h]
      exact raiseWhen_awake (t := s.restarted cause pins) rfl _ MemberId.allMustered (s.restarted cause pins).muster.id
    obtain ⟨phase, started, store, h⟩ := State.resetPart_rest cause pins s
    refine ⟨?_, ?_, ?_, ?_, ?_, ?_, ?_, ?_, ?_, ?_, ?_, ?_, ?_, ?_, ?_, ?_, ?_, ?_, ?_, ?_, levels, level, stack, member, pending, ?_, ?_, ?_, ?_, awake, ?_, ?_, fun l hl => ?_⟩
    case refine_27 =>
      rw [lane l hl]
      exact ⟨rfl, rfl, rfl, rfl, rfl, rfl, rfl, rfl, rfl, rfl, afterReset_beam _⟩
    all_goals
      rw [h]
      rfl

end Sys2Proof.Machine
end

section
/-!
PROOFS. The obligation on the restore: what a reset rebuilds from the store (R139, R140, R157, R164 to R166).
-/

namespace Sys2Proof.Machine

variable {s : State} {cause : ResetCause} {pins : BitVec 4} {found : Found} {blocks : Table StoredBlock} {b i : Nat}

/-! ### What a reset finds in the store -/

theorem interrupted_control (v : Store) : v.interrupted.control = v.controlFound := by
  unfold Store.interrupted Store.controlFound Store.landed
  cases v.inFlight with
  | none => rfl
  | some f =>
    obtain ⟨block, start, copy⟩ := f
    cases copy <;> rfl

theorem interrupted_block {v : Store} (hw : v.blocks.wf .erased) (b : Nat) : v.interrupted.blocks.read .erased b = v.blockFound b := by
  unfold Store.interrupted Store.blockFound Store.landed
  cases v.inFlight with
  | none => rfl
  | some f =>
    obtain ⟨block, start, copy⟩ := f
    cases copy with
    | control facts => rfl
    | person l =>
      refine (Table.read_write hw block .failing b).trans ?_
      by_cases hb : b = block
      · exact (if_pos hb).trans (if_pos hb.symm).symm
      · exact (if_neg hb).trans (if_neg (Ne.symm hb)).symm

/-- A block that fails its check. -/
def BlockFails (blocks : Table StoredBlock) (b : Nat) : Prop :=
  blocks.read .erased b = .failing ∨ (blocks.read .erased b = .erased ∧ Config.erasedBlockAgrees b = false)

theorem judgeBlock_blank (h : found.judgement = .blank) : judgeBlock found blocks b = .empty := if_pos h

theorem judgeBlock_listed (h : found.judgement ≠ .blank) (hf : b ∈ found.facts.failedList) : judgeBlock found blocks b = .failed :=
  (if_neg h).trans (if_pos (List.contains_iff_mem.mpr hf))

/-- How a block that is not listed is found, in a store that is not blank (R165). -/
def StoredBlock.foundAt (b : Nat) : StoredBlock → BlockFound
  | .entries l => .entries l
  | .failing => .lost
  | .erased => if Config.erasedBlockAgrees b then .entries [] else .lost

theorem judgeBlock_read (h : found.judgement ≠ .blank) (hf : b ∉ found.facts.failedList) :
    judgeBlock found blocks b = (blocks.read .erased b).foundAt b := by
  refine ((if_neg h).trans (if_neg fun hc => hf (List.contains_iff_mem.mp hc))).trans ?_
  cases blocks.read .erased b <;> rfl

theorem judgeBlock_fails (h : found.judgement ≠ .blank) (hf : b ∉ found.facts.failedList) (hb : BlockFails blocks b) :
    judgeBlock found blocks b = .lost := by
  rw [judgeBlock_read h hf]
  rcases hb with hb | ⟨hb, he⟩
  · rw [hb]
    rfl
  · rw [hb]
    exact if_neg (Bool.eq_false_iff.mp he)

/-- A block that passes its check holds its entries; an erased one none. -/
theorem judgeBlock_passes (h : found.judgement ≠ .blank) (hf : b ∉ found.facts.failedList) (hb : ¬ BlockFails blocks b) :
    ∃ l, judgeBlock found blocks b = .entries l
      ∧ ∀ x, x ∈ l ↔ ∃ k, blocks.read .erased b = .entries k ∧ x ∈ k := by
  rw [judgeBlock_read h hf]
  cases hr : blocks.read .erased b with
  | entries l => exact ⟨l, rfl, fun x => ⟨fun hx => ⟨l, rfl, hx⟩, fun ⟨k, hk, hx⟩ => by cases hk; exact hx⟩⟩
  | failing => exact absurd (.inl hr) hb
  | erased =>
    cases he : Config.erasedBlockAgrees b with
    | true => exact ⟨[], if_pos he, fun x => iff_of_false List.not_mem_nil fun ⟨k, hk, _⟩ => nomatch hk⟩
    | false => exact absurd (.inr ⟨hr, he⟩) hb

theorem isLost_iff : (judgeBlock found blocks b).isLost = true
    ↔ found.judgement ≠ .blank ∧ (b ∈ found.facts.failedList ∨ BlockFails blocks b) := by
  by_cases h : found.judgement = .blank
  · rw [judgeBlock_blank h]
    exact iff_of_false Bool.false_ne_true fun hc => hc.1 h
  · by_cases hf : b ∈ found.facts.failedList
    · rw [judgeBlock_listed h hf]
      exact iff_of_true rfl ⟨h, .inl hf⟩
    · by_cases hb : BlockFails blocks b
      · rw [judgeBlock_fails h hf hb]
        exact iff_of_true rfl ⟨h, .inr hb⟩
      · obtain ⟨l, hl, -⟩ := judgeBlock_passes h hf hb
        rw [hl]
        exact iff_of_false Bool.false_ne_true fun hc => hc.2.elim hf hb

theorem clearsMustered_iff {active : Bool} {e : StoredEntry} :
    clearsMustered active e = true ↔ e.mustered = true ∧ ¬ (active = true ∧ e.location = .aboard) := by
  rw [clearsMustered, Bool.and_eq_true, Bool.not_eq_true', Bool.eq_false_iff, ne_eq, Bool.and_eq_true, beq_iff_eq]

theorem dirties_iff : dirties found (judgeBlock found blocks b) = true ↔ found.judgement = .blank
    ∨ (b ∉ found.facts.failedList ∧ (BlockFails blocks b ∨ ∃ l i e, blocks.read .erased b = .entries l ∧ (i, e) ∈ l
      ∧ e.mustered = true ∧ ¬ (found.facts.musterActive = true ∧ e.location = .aboard))) := by
  by_cases h : found.judgement = .blank
  · rw [judgeBlock_blank h]
    exact iff_of_true rfl (.inl h)
  · by_cases hf : b ∈ found.facts.failedList
    · rw [judgeBlock_listed h hf]
      exact iff_of_false Bool.false_ne_true fun hc => hc.elim h fun hn => hn.1 hf
    · by_cases hb : BlockFails blocks b
      · rw [judgeBlock_fails h hf hb]
        exact iff_of_true rfl (.inr ⟨hf, .inl hb⟩)
      · obtain ⟨l, hl, hm⟩ := judgeBlock_passes h hf hb
        rw [hl]
        refine List.any_eq_true.trans ⟨fun ⟨x, hx, hc⟩ => ?_, fun hd => ?_⟩
        · obtain ⟨k, hk, hx⟩ := (hm x).mp hx
          exact .inr ⟨hf, .inr ⟨k, x.1, x.2, hk, hx, clearsMustered_iff.mp hc⟩⟩
        · obtain ⟨k, i, e, hk, hx, hc⟩ := (hd.resolve_left h).2.resolve_left hb
          exact ⟨(i, e), (hm _).mpr ⟨k, hk, hx⟩, clearsMustered_iff.mpr hc⟩

/-! ### What is rebuilt -/

theorem resetPart_person (h : s.store.interrupted.Ordered) {p : Person} : (s.resetPart cause pins).person i = some p ↔
    blockOf i < 128 ∧ s.restoring.found.judgement ≠ .blank ∧ blockOf i ∉ s.restoring.found.facts.failedList
      ∧ ∃ l e, s.store.interrupted.blocks.read .erased (blockOf i) = .entries l ∧ (i, e) ∈ l ∧ p = restoredPerson s.foundActive e := by
  unfold State.person
  rw [State.resetPart_persons, State.restoring_read h]
  refine and_congr_right fun _ => ⟨?_, ?_⟩
  · rintro ⟨l, e, hl, hm, hp⟩
    obtain ⟨hj, hf, hr⟩ := judgeBlock_eq_entries.mp hl
    refine ⟨hj, hf, l, e, hr.resolve_right fun hr => ?_, hm, hp⟩
    rw [hr.2.2] at hm
    exact nomatch hm
  · rintro ⟨hj, hf, l, e, hl, hm, hp⟩
    exact ⟨l, e, judgeBlock_eq_entries.mpr ⟨hj, hf, .inl hl⟩, hm, hp⟩

theorem mem_restoring_lost : b ∈ s.restoring.lost
    ↔ b < 128 ∧ (judgeBlock s.restoring.found s.store.interrupted.blocks b).isLost = true := by
  unfold State.restoring restore
  simp only [List.mem_map, List.mem_filter, List.mem_range]
  constructor
  · rintro ⟨_, ⟨⟨b', hb', rfl⟩, hd⟩, rfl⟩
    exact ⟨hb', hd⟩
  · rintro ⟨hb, hd⟩
    exact ⟨_, ⟨⟨b, hb, rfl⟩, hd⟩, rfl⟩

theorem restoring_lost_ascending (s : State) : s.restoring.lost.Pairwise (· < ·) := by
  unfold State.restoring restore
  dsimp only
  rw [List.pairwise_map]
  exact List.Pairwise.filter _ (List.pairwise_map.mpr List.pairwise_lt_range)

theorem resetPart_restored (cause : ResetCause) (pins : BitVec 4) (s : State) :
    s.restoring.persons.length = (s.resetPart cause pins).countPersons fun _ => true := by
  unfold State.countPersons
  rw [State.resetPart_persons]
  refine congrArg List.length (List.filter_eq_self.mpr fun x hx => ?_).symm
  obtain ⟨e, he⟩ := State.restoring_mem hx
  rw [he]
  rfl

theorem restoredMusterUnit_facts (r : Restored) : (restoredMusterUnit r).active = r.found.facts.musterActive
    ∧ (restoredMusterUnit r).id = (if r.found.facts.musterActive then r.found.facts.musterId else 0)
    ∧ (restoredMusterUnit r).unswept = 0 := by
  cases h : r.found.facts.musterActive with
  | true => rw [restoredMusterUnit_active h]; exact ⟨rfl, rfl, rfl⟩
  | false => rw [restoredMusterUnit_idle h]; exact ⟨rfl, rfl, rfl⟩

theorem reportOf_muster (r : Restored) : (reportOf cause pins r).muster
    = if r.found.facts.musterActive then some (r.found.facts.musterId, (restoredMusterUnit r).unmustered, (restoredMusterUnit r).unrecorded)
      else none := by
  cases h : r.found.facts.musterActive with
  | true => simp only [reportOf, restoredMusterUnit_active h, if_true]
  | false => simp only [reportOf, restoredMusterUnit_idle h, Muster.reset, Bool.false_eq_true, if_false]

/-- Settles O6: what the restore rebuilds, with the control block's facts, the blocks and the judgement as the reset finds them. -/
theorem restoreRebuildsTheRecords : Obligations.RestoreRebuildsTheRecords := by
  intro cause pins s hw hentries control block facts judgement fails lost unmarks
  have hcontrol : s.store.interrupted.control = control := interrupted_control _
  have hblock : ∀ b, s.store.interrupted.blocks.read .erased b = block b := interrupted_block hw
  have ordered : s.store.interrupted.Ordered := fun b l hb hl => hentries b l hb ((hblock b).symm.trans hl)
  clear_value control block
  have hfound : s.restoring.found = judgeControl control := congrArg judgeControl hcontrol
  have hfacts : s.restoring.found.facts = facts := by
    rw [hfound]
    cases control with
    | erased => rfl
    | failing => rfl
    | written formatRight found => cases formatRight <;> rfl
  have hjudge : s.restoring.found.judgement = judgement := by
    rw [hfound]
    cases control with
    | erased => rfl
    | failing => rfl
    | written formatRight found => cases formatRight <;> rfl
  clear_value facts judgement
  have hfails : ∀ b, BlockFails s.store.interrupted.blocks b ↔ fails b := fun b => by
    unfold BlockFails
    rw [hblock]
  have person : ∀ i p, (s.resetPart cause pins).person i = some p ↔ blockOf i < 128 ∧ judgement ≠ .blank ∧ blockOf i ∉ facts.failedList
      ∧ ∃ l e, block (blockOf i) = .entries l ∧ (i, e) ∈ l ∧ p = restoredPerson facts.musterActive e := fun i p => by
    rw [resetPart_person ordered, State.foundActive, hjudge, hfacts, hblock]
  have hstore := resetPart_store_restored cause pins s
  have unusable : (s.resetPart cause pins).store.unusable = s.foundUnusable := by rw [hstore]; rfl
  have dirty : (s.resetPart cause pins).store.dirty = s.restoring.dirty := by rw [hstore]; rfl
  have counts := State.resetPart_musterCounts cause pins s
  have muster := State.resetPart_muster cause pins s
  obtain ⟨active, id, unswept⟩ := restoredMusterUnit_facts s.restoring
  rw [← muster, hfacts] at active id
  rw [← muster] at unswept
  have reported := reportOf_muster (cause := cause) (pins := pins) s.restoring
  rw [← muster, hfacts] at reported
  refine ⟨_, reportOf cause pins s.restoring, exec_partReset cause pins s, fun h => (resetPart_starts (unusable ▸ h)).1,
    fun h => (resetPart_finishes (unusable ▸ h)).2, by rw [hstore, ← hfacts]; rfl, by rw [hstore, ← hfacts]; rfl,
    by rw [hstore, ← hfacts]; rfl, by rw [hstore]; rfl, ?_, ?_, ?_, dirty ▸ restoring_dirty_ascending s, fun b => ?_, active, id,
    muster ▸ restoredMusterUnit_points _, unswept, counts.counts .unmustered (by decide), counts.counts .unrecorded (by decide),
    (State.resetPart_tallyAgrees cause pins s).counts, hjudge, congrArg ControlFacts.orderly hfacts, resetPart_restored cause pins s,
    reported, restoring_lost_ascending s, fun b => ?_⟩
  · intro i hi l e hj hf hl he
    exact (person i _).mpr ⟨by unfold blockOf; omega, hj, hf, l, e, hl, he, rfl⟩
  · intro i hi hnone
    refine Option.eq_none_iff_forall_ne_some.mpr fun p hp => ?_
    obtain ⟨-, hj, hf, l, e, hl, -, -⟩ := (person i p).mp hp
    rcases hnone with hb | ⟨-, hb | hb | ⟨hb, -⟩⟩ | hb
    · exact hj hb
    · exact hf hb
    all_goals
      rw [hl] at hb
      exact nomatch hb
  · intro i hi l hl he
    refine Option.eq_none_iff_forall_ne_some.mpr fun p hp => ?_
    obtain ⟨-, -, -, l', e, hl', hm, -⟩ := (person i p).mp hp
    rw [hl] at hl'
    cases hl'
    exact he e hm
  · rw [dirty, mem_restoring_dirty, dirties_iff, hjudge, hfacts, hfails, hblock]
  · refine mem_restoring_lost.trans (and_congr_right fun _ => ?_)
    rw [isLost_iff, hjudge, hfacts, hfails]

end Sys2Proof.Machine
end
